-- ==== Sys2Proof/Word.lean ====
section
/-! DEFINITION. The words of the Request Port and the index types of pairs, levels and correlators. -/

namespace Sys2Proof

/-- One byte on the Request Port (12_frame_and_record_formats.md R185). -/
abbrev Byte := BitVec 8

/-- A word of 16 indicators: an alarm word, a watch mask, a compare pattern (R103, R186). -/
abbrev AlarmWord := BitVec 16

/-- A set of pairs as a bit mask, bit p for pair p (R186). -/
abbrev PairSet := BitVec 8

/-- A fibre pair, 0 to 7 (00_scope.md, "Pairs"). -/
abbrev Pair := Fin 8

/-- A case level, 0 (most urgent) to 7 (00_scope.md, "case level"). -/
abbrev Level := Fin 8

/-- A correlator, K0 to K3 (R49). -/
abbrev CorrelatorNo := Fin 4

/-- The pair belongs to the set. -/
def PairSet.has (ps : PairSet) (p : Pair) : Bool := ps.getLsbD p.val

/-- The pairs in increasing number. -/
def allPairs : List Pair := [0, 1, 2, 3, 4, 5, 6, 7]

end Sys2Proof
end

