-- ==== Sys2Proof/Config.lean ====
section
/-! DEFINITION. What the part fixes by number, and the two free values of the model. -/

namespace Sys2Proof.Config

/-- The Station Table holds at most 256 records (R1). -/
def maxStations : Nat := 256

/-- The Case List holds at most 32 cases (R126). -/
def maxCases : Nat := 32

/-- The Claim Table holds at most 16 claims (R146). -/
def maxClaims : Nat := 16

/-- A pair has at most 8 telegrams queued (R86). -/
def maxQueued : Nat := 8

/-- The telegram time in ms (R88). -/
def telegramTime : Nat := 2

/-- The listen guard in µs (R39). -/
def listenGuard : Nat := 100

/-- The window that ENLIST uses when its frame names none, in µs (R14). -/
def defaultWindow : Nat := 8

/-- The level that an echo must rise above to be a peak, −80.0 dB in 0.1 dB (R56, R57). -/
def peakFloor : Int := -800

/-- The first delay of the stray search, in µs (R57). -/
def strayFrom : Nat := 10

/-- The shortest and the longest expected delay, in µs (R1). -/
def minDelay : Nat := 10
/-- See `minDelay`. -/
def maxDelay : Nat := 150000

/-- FREE VALUE (log 7; DESIGN CHOICE that it is free). The kind byte of the BADFRAME response to a
request transaction that carried no byte after its mark: R185 has the response carry "the kind byte
as it was received", and none was. The argument is the count of free values drawn so far. -/
opaque emptyFrameKind : Nat → Byte

/-- FREE VALUE (log 10; DESIGN CHOICE that it is free). The level, in 0.1 dB, at which the accumulated echo train
stands at a delay after an echo has been added to it: R53 adds the train of each burst "delay by delay", and the
spec states levels in dB without the sum of two of them. The arguments are the accumulated level so far and the
level of the echo added. -/
opaque accumulatedLevel : Int → Int → Int

end Sys2Proof.Config
end

