-- ==== Sys2Proof/Syntax.lean ====
section
/-! DEFINITION. The commands the block takes: one constructor of `Instr` for each row of
spec/opcode_table.json, and the enumerations their operands use. -/

namespace Sys2Proof

/-- A cable end (00_scope.md, "end"; R178). -/
inductive End where
  | endA
  | endB
deriving DecidableEq, Repr

/-- The other cable end. -/
def End.other : End → End
  | .endA => .endB
  | .endB => .endA

/-- The kinds of telegram (R85; codes R186). -/
inductive TelegramKind where
  | status
  | isolateSpare
  | isolateLimit
  | restore
  | cut
  | reconnect
  | steerTrunk
  | steerBranch
deriving DecidableEq, Repr

/-- The isolation states a repeater reports: never UNCERTAIN (R89). -/
inductive ReportedIsolation where
  | inLine
  | spare
  | limit
deriving DecidableEq, Repr

/-- The branch connections a branching unit reports (R89). -/
inductive ReportedConnection where
  | connected
  | cut
deriving DecidableEq, Repr

/-- The side of a return selector (00_scope.md, "Return selectors"). -/
inductive Side where
  | trunk
  | branch
deriving DecidableEq, Repr

/-- The state in force that a reply reports, by the kind of the station (R89). -/
inductive StateInForce where
  | repeater (isolation : ReportedIsolation)
  | branching (connection : ReportedConnection) (side : Side)
deriving DecidableEq, Repr

/-- The reasons of a NAK (R89). -/
inductive NakReason where
  | noSpare
  | notEquipped
  | refused
deriving DecidableEq, Repr

/-- What a reply says (R89). -/
inductive ReplyContent where
  | ack (state : StateInForce)
  | nak (reason : NakReason) (state : StateInForce)
  | statusReply (word : AlarmWord) (state : StateInForce)
deriving DecidableEq, Repr

/-- A reply on a pair's return path: source address, tag of the telegram answered, destination end
and content (R89). -/
structure Reply where
  source : Nat
  tag : Nat
  dest : End
  content : ReplyContent
deriving DecidableEq, Repr

/-- What the Line Interface hears of a terminal's drive: a probe burst with the code of its end, or a
telegram with its origin end, destination address, tag and kind (R98, R119). -/
inductive FarSignal where
  | probe (code : End)
  | telegram (origin : End) (address tag : Nat) (kind : TelegramKind)
deriving DecidableEq, Repr

/-- The body of ENLIST (R14, R187). Numbers and codes stand as the frame carries them. -/
structure EnlistArgs where
  station : Nat
  kind : Nat
  segment : Nat
  branch : Option Nat
  address : Nat
  delay : Nat
  window : Option Nat
deriving DecidableEq, Repr

/-- The body of AMEND (R16, R187). -/
structure AmendArgs where
  station : Nat
  address : Option Nat
  delay : Option Nat
  window : Option Nat
  mode : Option Nat
  mask : Option AlarmWord
  pattern : Option AlarmWord
  baselines : List (Nat × Int)
deriving DecidableEq, Repr

/-- The body of SETLINE (R178, R187). -/
structure SetlineArgs where
  terminal : Option Nat
  equipped : Option PairSet
  branch1 : Option PairSet
  branch2 : Option PairSet
  branch3 : Option PairSet
  pollPeriod : Option Nat
  turnaround : Option Nat
  claimWait : Option Nat
deriving DecidableEq, Repr

/-- The body of SETPAIR (R179, R187). -/
structure SetpairArgs where
  pair : Nat
  stackDepth : Option Nat
  dwell : Option Nat
  stepThreshold : Option Int
  confirmRounds : Option Nat
  echoFloor : Option Int
  strayThreshold : Option Int
deriving DecidableEq, Repr

/-- The body of POLICY: lists of (cause, level), (cause, action), (level, mode), (level, masked)
(R180, R187). -/
structure PolicyArgs where
  levels : List (Nat × Nat)
  actions : List (Nat × Nat)
  modes : List (Nat × Nat)
  masks : List (Nat × Nat)
deriving DecidableEq, Repr

/-- The commands: one constructor per row of spec/opcode_table.json, in the table's order. A host
request's operands are the fields of its body (R187), codes included, so that a code outside its list
is answered RANGE and not shut out (R185). A line event's operands are what the line brings. -/
inductive Instr where
  /-- FIND_BY_NUMBER (R11). -/
  | findByNumber (station : Nat)
  /-- FIND_BY_ADDRESS (R11). -/
  | findByAddress (address : Nat)
  /-- FIND_BY_DELAY (R12). -/
  | findByDelay (segment delay : Nat)
  /-- FIND_NEXT (R13): order NUMBER 0 or DELAY 1; a start of 65535 is START (R186). -/
  | findNext (order start : Nat)
  /-- ENLIST (R14, R15). -/
  | enlist (args : EnlistArgs)
  /-- AMEND (R16 to R20). -/
  | amend (args : AmendArgs)
  /-- RETIRE (R21, R22). -/
  | retire (station : Nat)
  /-- REBASE (R23): a station of 65535 and a pair of 255 are ALL (R186). -/
  | rebase (station pair : Nat)
  /-- SHIFT (R24 to R26). -/
  | shift (segment fromDelay : Nat) (delta : Int)
  /-- SETLINE (R178). -/
  | setline (args : SetlineArgs)
  /-- SETPAIR (R179). -/
  | setpair (args : SetpairArgs)
  /-- POLICY (R180). -/
  | policy (args : PolicyArgs)
  /-- ROLE (R115): role OFF 0, DRIVING 1, LISTENING 2. -/
  | role (pair role : Nat)
  /-- PAIR_STATUS (R122). -/
  | pairStatus (pair : Nat)
  /-- CLEAR (R123). -/
  | clearContention (pair : Nat)
  /-- CASES (R143). -/
  | listCases
  /-- CASE (R143). -/
  | readCase (number : Nat)
  /-- CLOSE (R144). -/
  | close (number : Nat)
  /-- TAKE (R148): a pair of 255 is ALL. -/
  | take (station pair : Nat)
  /-- DROP (R149). -/
  | drop (claim : Nat)
  /-- CLAIMS (R150). -/
  | listClaims
  /-- ISOLATE (R154): action SPARE 1 or LIMIT 2; a pair of 255 is ALL. -/
  | isolate (station pair action : Nat)
  /-- RESTORE (R154). -/
  | restore (station pair : Nat)
  /-- CUT (R154). -/
  | cut (station pair : Nat)
  /-- RECONNECT (R154). -/
  | reconnect (station pair : Nat)
  /-- STRAY_READ (R81). -/
  | strayRead (pair : Nat)
  /-- ATTEND (R182). -/
  | attend
  /-- ATTENTION_ENABLE (R182). -/
  | attentionEnable (mask : Byte)
  /-- RESTART (R183). -/
  | restart
  /-- BADFRAME (R174): a request transaction ends; its bytes after the request mark. -/
  | badframe (bytes : List Byte)
  /-- FRAME_COLLISION (R175): a request frame's transaction ends out of turn. -/
  | frameCollision
  /-- RESPONSE_READY (R174): the end of performing. -/
  | responseReady
  /-- READ_TRANSACTION (R176): a read transaction that clocks this many bytes after the read mark. -/
  | readTransaction (clocked : Nat)
  /-- IGNORED_TRANSACTION (R185): a transaction given by its bytes. -/
  | ignoredTransaction (first : Byte) (rest : List Byte)
  /-- POWER_ON_RESET (R184): assertion and release of the RESET pin. -/
  | powerOnReset
  /-- FAR_END_DRIVE (R119): the Line Interface hears a probe or a telegram on a pair. -/
  | farEndDrive (pair : Pair) (signal : FarSignal)
  /-- REPLY (R90): a reply arrives on a pair. -/
  | reply (pair : Pair) (reply : Reply)
  /-- REPLY_TIMER_EXPIRY (R93). -/
  | replyTimerExpiry (pair : Pair)
  /-- POLL_TIMER_EXPIRY (R100). -/
  | pollTimerExpiry
  /-- LISTEN_SPAN_EXPIRY (R53): what came back in this listen span, correlated with the burst's code: the delays
  (µs) of the echoes, each with its level (0.1 dB) against the level launched. -/
  | listenSpanExpiry (correlator : CorrelatorNo) (train : List (Nat × Int))
  /-- TAKE_RESULT (R58, R63). -/
  | takeResult
  /-- CASE_GRANT (R138). -/
  | caseGrant
  /-- CLAIM_WAIT_EXPIRY (R163): the claim wait timer of a level's context expires. -/
  | claimWaitExpiry (level : Level)
deriving DecidableEq, Repr

end Sys2Proof
end

