-- ==== Sys2Proof/Machine/State.lean ====
section
/-! DEFINITION. Everything the spec gives the part to hold, block by block, as plain data; its value after
power-on reset; and the reasons a step can stop. -/

namespace Sys2Proof.Machine

/-! ### Stops -/

/-- The faults of a step. There is none: the spec names nothing that stops the part, and every command
has an effect in every state. -/
inductive Fault where
deriving DecidableEq, Repr

/-- The refusals of a step. -/
inductive Refusal where
  /-- Raised by `exec` alone, for a command that has no meaning yet. Safe: the run stops. No arm raises it. -/
  | notModelled (mnemonic : String)
deriving DecidableEq, Repr

/-! ### Fixed-size collections -/

/-- One value for each pair 0 to 7, or for each case level 0 to 7. -/
structure Oct (α : Type) where
  p0 : α
  p1 : α
  p2 : α
  p3 : α
  p4 : α
  p5 : α
  p6 : α
  p7 : α
deriving DecidableEq, Repr

/-- One value for each correlator K0 to K3, or for each segment 0 to 3. -/
structure Quad (α : Type) where
  q0 : α
  q1 : α
  q2 : α
  q3 : α
deriving DecidableEq, Repr

/-- The same value eight times. -/
def Oct.fill {α : Type} (a : α) : Oct α := ⟨a, a, a, a, a, a, a, a⟩

/-- The same value four times. -/
def Quad.fill {α : Type} (a : α) : Quad α := ⟨a, a, a, a⟩

/-! ### The line -/

/-- A branch, 1 to 3. -/
inductive Branch where
  | b1
  | b2
  | b3
deriving DecidableEq, Repr

/-- A segment: 0 is the trunk, b is branch b (00_scope.md, "Segments"). -/
inductive Segment where
  | trunk
  | branch (b : Branch)
deriving DecidableEq, Repr

/-- A view is TRUNK or BRANCH b (R9): named like the segment it leads into. -/
abbrev View := Segment

/-- One value for each branch. -/
structure PerBranch (α : Type) where
  b1 : α
  b2 : α
  b3 : α
deriving DecidableEq, Repr

/-- The whole-line settings of SETLINE (R178). -/
structure LineSettings where
  terminal : End
  equipped : PairSet
  branchSets : PerBranch PairSet
  /-- s -/
  pollPeriod : Nat
  /-- ms -/
  turnaround : Nat
  /-- s -/
  claimWait : Nat
deriving DecidableEq, Repr

/-- The settings of one pair, of SETPAIR (R179). Gains in 0.1 dB. -/
structure PairSettings where
  stackDepth : Nat
  dwell : Nat
  stepThreshold : Int
  confirmRounds : Nat
  echoFloor : Int
  strayThreshold : Int
deriving DecidableEq, Repr

/-! ### The Station Table (R1 to R8) -/

/-- The kind of a station; a BRANCHING station has the branch it serves (R1). -/
inductive StationKind where
  | repeater
  | branching (serves : Branch)
deriving DecidableEq, Repr

/-- Watch modes (R105). -/
inductive WatchMode where
  | off
  | event
  | matching
deriving DecidableEq, Repr

/-- Health (R4). -/
inductive Health where
  | unmeasured
  | unbased
  | normal
  | doubtful
  | suspect
deriving DecidableEq, Repr

/-- Isolation state (R4). -/
inductive Isolation where
  | inLine
  | spare
  | limit
  | uncertain
deriving DecidableEq, Repr

/-- Branch connection (R5). -/
inductive Connection where
  | connected
  | cut
  | uncertain
deriving DecidableEq, Repr

/-- Outcome of an operator action (R5). -/
inductive OperatorOutcome where
  | pending
  | done
  | refused
  | silent
  | abandoned
deriving DecidableEq, Repr

/-- An operator action: its kind and its outcome (R5). -/
structure OperatorAction where
  kind : TelegramKind
  outcome : OperatorOutcome
deriving DecidableEq, Repr

/-- Latest gain, latest offset and latest round: written together, absent together (R3). -/
structure Latest where
  gain : Int
  offset : Int
  round : Nat
deriving DecidableEq, Repr

/-- A pair part (R3 to R5). The deviation is computed: it always equals the difference of the gains. -/
structure PairPart where
  pair : Pair
  baseline : Option Int
  latest : Option Latest
  step : Option Int
  confirm : Nat
  missing : Nat
  health : Health
  isolation : Isolation
  /-- Present for BRANCHING only (R5). -/
  connection : Option Connection
  operator : Option OperatorAction
  /-- The issue number of the operator action in force (R5). -/
  issue : Nat
deriving DecidableEq, Repr

/-- A station record (R1, R105). -/
structure Station where
  number : Nat
  kind : StationKind
  segment : Segment
  address : Nat
  delay : Nat
  window : Nat
  mode : WatchMode
  mask : AlarmWord
  pattern : AlarmWord
  settled : Option AlarmWord
  candidate : Option AlarmWord
  latched : Option AlarmWord
  matchSeen : Bool
  armed : Bool
  silent : Nat
  parts : List PairPart
deriving DecidableEq, Repr

/-- The Station Table: the records, the Delay Index of each segment as station numbers, and the
generation of each segment (R1, R7, R8). -/
structure StationTable where
  stations : List Station
  index : Quad (List Nat)
  generation : Quad Nat
deriving DecidableEq, Repr

/-! ### The Survey Controllers (R28, R114) -/

/-- Roles of a pair (R114). -/
inductive Role where
  | off
  | driving
  | listening
deriving DecidableEq, Repr

/-- Survey states (R28). -/
inductive SurveyState where
  | halted
  | steering
  | waiting
  | running
  | result
deriving DecidableEq, Repr

/-- Kinds of round (R28). -/
inductive RoundKind where
  | regular
  | focused
deriving DecidableEq, Repr

/-- Steering states of a branching unit's selector (R28). -/
inductive Steering where
  | trunk
  | branch
  | unknown
deriving DecidableEq, Repr

/-- A focused request held by a Survey Controller (R28, R42). -/
structure FocusedRequest where
  view : View
  station : Nat
  level : Level
  taken : Bool
deriving DecidableEq, Repr

/-- A Survey Controller with the role and flags of its pair (R28, R114). -/
structure SurveyController where
  role : Role
  contention : Bool
  statusRead : Bool
  state : SurveyState
  rotation : View
  dwellCount : Nat
  roundView : Option View
  roundKind : Option RoundKind
  /-- The branching units on the pair by station number, in increasing number. -/
  steering : List (Nat × Steering)
  roundCounter : Nat
  focused : Option FocusedRequest
  /-- The view of the last round that the pair ran (implied by R32; log 12). -/
  lastView : Option View
  /-- The steering in flight belongs to a plan that no longer stands (implied by R42, R44; log 13). -/
  planStale : Bool
deriving DecidableEq, Repr

/-! ### The Correlator Pool (R49 to R58) -/

/-- A station as a round definition holds it (R39). -/
structure RoundStation where
  number : Nat
  delay : Nat
  window : Nat
deriving DecidableEq, Repr

/-- The definition of a round (R39). The focused station and the requesting level are those of a
FOCUSED round. -/
structure RoundDefinition where
  pair : Pair
  view : View
  kind : RoundKind
  focus : Option (Nat × Level)
  visible : List RoundStation
  shadowed : List RoundStation
  listenSpan : Nat
  strayLimit : Option Nat
  bursts : Nat
deriving DecidableEq, Repr

/-- The generations of a view's segments, snapshotted at the grant (R8, R53). -/
abbrev Snapshot := List (Segment × Nat)

/-- An accumulated echo train: delay in µs and level in 0.1 dB, in increasing delay (R53). -/
abbrev EchoTrain := List (Nat × Int)

/-- A round that a correlator holds. -/
structure RoundInCorrelator where
  definition : RoundDefinition
  snapshot : Snapshot
  train : EchoTrain
deriving DecidableEq, Repr

/-- A correlator (R49). RUNNING holds how many listen spans have expired and the end code of the burst
in flight (R53, R119). The result of a READY correlator stands in the result queue. -/
inductive Correlator where
  | free
  | running (round : RoundInCorrelator) (expired : Nat) (code : End)
  | ready (round : RoundInCorrelator)
deriving DecidableEq, Repr

/-- An echo entry: the station and its peak, gain and offset (R55). -/
structure EchoEntry where
  station : Nat
  peak : Option (Int × Int)
deriving DecidableEq, Repr

/-- A result in the result queue (R55), with the correlator that holds it. -/
structure RoundResult where
  correlator : CorrelatorNo
  pair : Pair
  view : View
  kind : RoundKind
  focus : Option (Nat × Level)
  snapshot : Snapshot
  entries : List EchoEntry
  /-- The candidate stray peak: delay and magnitude. -/
  stray : Option (Nat × Int)
deriving DecidableEq, Repr

/-- The Correlator Pool: correlators, result queue (head first), presented requests with their kind (in
no order), last-granted pair (R49 to R58). -/
structure CorrelatorPool where
  correlators : Quad Correlator
  queue : List RoundResult
  presented : List (Pair × RoundKind)
  lastGranted : Pair
deriving DecidableEq, Repr

/-! ### The Echo Assessor's stray slots (R78) -/

/-- What a HELD stray slot holds (R78). -/
structure StrayRecord where
  delay : Nat
  magnitude : Int
  view : View
  round : Nat
  preceding : Option Nat
  following : Option Nat
deriving DecidableEq, Repr

/-- A stray slot, EMPTY when it holds nothing, and its overrun flag (R78). -/
structure StraySlot where
  held : Option StrayRecord
  overrun : Bool
deriving DecidableEq, Repr

/-! ### The Telegram Controllers and the Poll Sweeper (R84 to R101) -/

/-- Who submitted a telegram (R85). OPERATOR carries the issue number of its action (R5). -/
inductive Submitter where
  | context (level : Level)
  | operator (issue : Nat)
  | survey
  | sweep
deriving DecidableEq, Repr

/-- A telegram: destination station, kind, submitter. Its class follows from the submitter (R85). -/
structure Telegram where
  dest : Nat
  kind : TelegramKind
  submitter : Submitter
deriving DecidableEq, Repr

/-- The outstanding telegram, with what it took at sending (R84, R85, R88). The reply timer runs
exactly while it exists. -/
structure Outstanding where
  telegram : Telegram
  address : Nat
  tag : Nat
  origin : End
  /-- 1 or 2. -/
  attempt : Nat
  /-- ms from the sending. -/
  deadline : Nat
deriving DecidableEq, Repr

/-- A far-end telegram overheard for a station (R98). -/
structure Overheard where
  station : Nat
  kind : TelegramKind
  tag : Nat
deriving DecidableEq, Repr

/-- The exchange abandoned on leaving DRIVING (R96). -/
structure AbandonedExchange where
  address : Nat
  tag : Nat
  kind : TelegramKind
deriving DecidableEq, Repr

/-- A Telegram Controller (R84). -/
structure TelegramController where
  queue : List Telegram
  waitLine : List Telegram
  outstanding : Option Outstanding
  tagCounter : Nat
  overheard : List Overheard
  abandoned : Option AbandonedExchange
deriving DecidableEq, Repr

/-- The Poll Sweeper (R100, R101). -/
structure PollSweeper where
  /-- The period, in s, that the running poll timer was started with. -/
  pollTimer : Nat
  running : Bool
  sweepPending : Bool
  /-- One per pair, 0 to 256; 256 means passed. -/
  cursors : Oct Nat
deriving DecidableEq, Repr

/-! ### Cases (R126 to R136) -/

/-- Causes of a case (R126). -/
inductive Cause where
  | step
  | lost
  | stray
  | alarm
  | silent
deriving DecidableEq, Repr

/-- The evidence of a case. A cause is among the case's causes exactly when its evidence is present
(R126, R127). -/
structure Evidence where
  step : Option Int
  lost : Option Nat
  stray : Option (Nat × Int)
  alarm : Option AlarmWord
  silent : Option TelegramKind
deriving DecidableEq, Repr

/-- Outcomes of a case (R126). -/
inductive Outcome where
  | reported
  | isolated
  | ineffective
  | unconfirmed
  | refused
  | failed
  | blocked
  | interrupted
  | unreachable
deriving DecidableEq, Repr

/-- The state of a case; HELD has the outcome, no other state has one (R126). -/
inductive CaseState where
  | pending
  | active
  | suspended
  | held (outcome : Outcome)
deriving DecidableEq, Repr

/-- An action that commands a station: SPARE, LIMIT or CUT (R126 "action taken", R162). -/
inductive Command where
  | spare
  | limit
  | cut
deriving DecidableEq, Repr

/-- A case record (R126). -/
structure Case where
  number : Nat
  station : Nat
  pair : Pair
  evidence : Evidence
  level : Level
  state : CaseState
  openedRound : Nat
  actionTaken : Option Command
  claim : Option Nat
deriving DecidableEq, Repr

/-- One value for each cause. -/
structure PerCause (α : Type) where
  step : α
  lost : α
  stray : α
  alarm : α
  silent : α
deriving DecidableEq, Repr

/-- Actions of the action map (R129). -/
inductive MapAction where
  | none
  | spare
  | limit
  | cutBranch
deriving DecidableEq, Repr

/-- Level modes (R129). -/
inductive LevelMode where
  | report
  | auto
deriving DecidableEq, Repr

/-- The policy (R129). -/
structure Policy where
  levelMap : PerCause Level
  actionMap : PerCause MapAction
  modes : Oct LevelMode
  masked : Oct Bool
deriving DecidableEq, Repr

/-- The Case List and Case Arbiter (R126 to R139). The stack lists case numbers, top first. -/
structure CaseArbiter where
  cases : List Case
  stack : List Nat
  policy : Policy
  lastServed : Oct (Option Nat)
  counter : Nat
deriving DecidableEq, Repr

/-! ### Claims (R146) -/

/-- The pair of a claim's scope: one pair, or ALL (R146). -/
inductive ClaimPair where
  | one (p : Pair)
  | all
deriving DecidableEq, Repr

/-- The owner of a claim; AUTO has the case it belongs to (R146). -/
inductive ClaimOwner where
  | auto (caseNumber : Nat)
  | operator
  | far
deriving DecidableEq, Repr

/-- A claim (R146). -/
structure Claim where
  number : Nat
  station : Nat
  pair : ClaimPair
  owner : ClaimOwner
deriving DecidableEq, Repr

/-! ### The Isolation Sequencer (R157) -/

/-- Steps of a context (R157). -/
inductive ContextStep where
  | verify
  | claim
  | act
  | confirm
deriving DecidableEq, Repr

/-- Step phases (R157). -/
inductive ContextPhase where
  | asked
  | measuring
  | sent
  | claimWait
deriving DecidableEq, Repr

/-- What the Echo Assessor hands to a context after a focused result (R76). -/
structure Finding where
  pair : Pair
  view : View
  station : Nat
  round : Nat
  echo : Bool
  step : Option Int
  stray : Option (Nat × Int)
deriving DecidableEq, Repr

/-- An event that reaches a context from the work it has started (R168). -/
inductive ContextEvent where
  | finding (f : Finding)
  | statusReply (word : AlarmWord) (state : StateInForce)
  | ack (state : StateInForce)
  | nak (reason : NakReason) (state : StateInForce)
  | failed
  | expired
deriving DecidableEq, Repr

/-- An occupied context (R157). -/
structure Context where
  caseNumber : Nat
  step : ContextStep
  phase : ContextPhase
  tries : Nat
  recorded : Option ContextEvent
  /-- The claim wait timer: stopped, or running with the claim wait, in s, it was started with. -/
  timer : Option Nat
  /-- The action that CLAIM and ACT work for (R162; log 22). -/
  chosen : Option Command
deriving DecidableEq, Repr

/-! ### The Request Port (R174 to R182) -/

/-- Status codes (R177). -/
inductive Status where
  | ok
  | queued
  | notReady
  | busy
  | full
  | notFound
  | duplicate
  | overlap
  | range
  | state
  | noClaim
  | held
  | contended
  | role
  | badFrame
deriving DecidableEq, Repr

/-- A set of attention causes (R181). -/
structure AttentionSet where
  caseNew : Bool
  caseHeld : Bool
  stray : Bool
  contention : Bool
  caseFull : Bool
  operatorDone : Bool
deriving DecidableEq, Repr

/-- A station record as a lookup returns it: the record and the generation of its segment (R11). -/
structure StationView where
  record : Station
  generation : Nat
deriving DecidableEq, Repr

/-- What PAIR STATUS returns (R122, R188). -/
structure PairView where
  pair : Pair
  equipped : Bool
  controller : SurveyController
  settings : PairSettings
deriving DecidableEq, Repr

/-- The body of a response (R188). -/
inductive Body where
  | empty
  | claimEntry (claim : Claim)
  | station (record : StationView)
  /-- FIND BY DELAY's answer when a station holds the delay: the same record behind a form byte. -/
  | stationAtDelay (record : StationView)
  | span (before after : Option StationView)
  | nextStation (record : Option StationView)
  | count (n : Nat)
  | cases (list : List (Nat × CaseState × Level))
  | case (record : Case) (context : Option Context)
  | claimNumber (n : Nat)
  | claims (list : List Claim)
  | pairStatus (status : PairView)
  | stray (slot : StraySlot)
  | causes (set : AttentionSet)
deriving DecidableEq, Repr

/-- A response: the kind byte of the request answered, the status, the body (R185). -/
structure Response where
  kind : Byte
  status : Status
  body : Body
deriving DecidableEq, Repr

/-- Port states (R174). PERFORMING holds the response that performing forms; RESPONSE READY holds the
response buffer with the collision flag it was placed with (R175). -/
inductive PortState where
  | idle
  | performing (response : Response)
  | responseReady (response : Response) (collision : Bool)
deriving DecidableEq, Repr

/-- The Request Port (R174, R181). -/
structure RequestPort where
  state : PortState
  collision : Bool
  attention : AttentionSet
  enable : AttentionSet
  /-- The bytes that the last read or ignored transaction shifted out (R185; log 26). -/
  shiftedOut : List Byte
deriving DecidableEq, Repr

/-! ### The whole part -/

/-- The part, block by block, and the queue of the commands that wait. -/
structure State where
  port : RequestPort
  line : LineSettings
  settings : Oct PairSettings
  table : StationTable
  survey : Oct SurveyController
  pool : CorrelatorPool
  strays : Oct StraySlot
  telegrams : Oct TelegramController
  sweeper : PollSweeper
  arbiter : CaseArbiter
  claims : List Claim
  contexts : Oct (Option Context)
  /-- How many free values have been drawn (the model's own; log 7). -/
  draws : Nat
  /-- The commands that wait, first in, first out (the model's own). -/
  pending : List Instr
deriving DecidableEq, Repr

/-! ### Values after power-on reset -/

/-- No attention cause (R184). -/
def AttentionSet.none : AttentionSet := ⟨false, false, false, false, false, false⟩

/-- All six attention causes (R184). -/
def AttentionSet.every : AttentionSet := ⟨true, true, true, true, true, true⟩

/-- The defaults of R178. -/
def LineSettings.default : LineSettings :=
  { terminal := .endA, equipped := 1#8, branchSets := ⟨1#8, 1#8, 1#8⟩,
    pollPeriod := 30, turnaround := 5, claimWait := 10 }

/-- The defaults of R179. -/
def PairSettings.default : PairSettings :=
  { stackDepth := 16, dwell := 4, stepThreshold := 15, confirmRounds := 3,
    echoFloor := -650, strayThreshold := -400 }

/-- The defaults of R129. -/
def Policy.default : Policy :=
  { levelMap := { step := 3, lost := 1, stray := 0, alarm := 4, silent := 2 },
    actionMap := { step := .spare, lost := .spare, stray := .none, alarm := .limit, silent := .none },
    modes := Oct.fill .report, masked := Oct.fill false }

/-- A Survey Controller after either reset, with the steering states it then has (R48, R125). -/
def SurveyController.fresh (steering : List (Nat × Steering)) : SurveyController :=
  { role := .off, contention := false, statusRead := false, state := .halted, rotation := .trunk,
    dwellCount := 0, roundView := none, roundKind := none, steering := steering, roundCounter := 0,
    focused := none, lastView := none, planStale := false }

/-- The Correlator Pool after either reset (R61). -/
def CorrelatorPool.fresh : CorrelatorPool :=
  { correlators := Quad.fill .free, queue := [], presented := [], lastGranted := 7 }

/-- A Telegram Controller after either reset, with its tag counter (R102). -/
def TelegramController.fresh (tagCounter : Nat) : TelegramController :=
  { queue := [], waitLine := [], outstanding := none, tagCounter := tagCounter, overheard := [],
    abandoned := none }

/-- The Poll Sweeper after either reset, its timer started with the period in force (R102). -/
def PollSweeper.fresh (pollPeriod : Nat) : PollSweeper :=
  { pollTimer := pollPeriod, running := false, sweepPending := false, cursors := Oct.fill 0 }

/-- The Case Arbiter after either reset, with the policy in force (R145). -/
def CaseArbiter.fresh (policy : Policy) : CaseArbiter :=
  { cases := [], stack := [], policy := policy, lastServed := Oct.fill none, counter := 0 }

/-- The part right after power-on reset (R27, R48, R61, R83, R102, R125, R145, R156, R173, R184). -/
def State.reset : State :=
  { port := { state := .idle, collision := false, attention := AttentionSet.none,
              enable := AttentionSet.every, shiftedOut := [] },
    line := LineSettings.default,
    settings := Oct.fill PairSettings.default,
    table := { stations := [], index := Quad.fill [], generation := Quad.fill 0 },
    survey := Oct.fill (SurveyController.fresh []),
    pool := CorrelatorPool.fresh,
    strays := Oct.fill { held := none, overrun := false },
    telegrams := Oct.fill (TelegramController.fresh 15),
    sweeper := PollSweeper.fresh 30,
    arbiter := CaseArbiter.fresh Policy.default,
    claims := [],
    contexts := Oct.fill none,
    draws := 0,
    pending := [] }

end Sys2Proof.Machine
end

