-- ==== Sys2Proof/Machine/Ops.lean ====
section
/-! DEFINITION. The named operations over the part's state: the accessors through which every block reads
and writes, and the look-ups that several blocks share. -/

namespace Sys2Proof.Machine

/-! ### Fixed-size collections -/

/-- The value of a pair or a level. -/
def Oct.get {α : Type} (o : Oct α) (i : Fin 8) : α :=
  match i with
  | 0 => o.p0
  | 1 => o.p1
  | 2 => o.p2
  | 3 => o.p3
  | 4 => o.p4
  | 5 => o.p5
  | 6 => o.p6
  | 7 => o.p7

/-- The collection with one value written. -/
def Oct.set {α : Type} (o : Oct α) (i : Fin 8) (a : α) : Oct α :=
  match i with
  | 0 => { o with p0 := a }
  | 1 => { o with p1 := a }
  | 2 => { o with p2 := a }
  | 3 => { o with p3 := a }
  | 4 => { o with p4 := a }
  | 5 => { o with p5 := a }
  | 6 => { o with p6 := a }
  | 7 => { o with p7 := a }

/-- A function applied to every value. -/
def Oct.map {α β : Type} (f : α → β) (o : Oct α) : Oct β :=
  ⟨f o.p0, f o.p1, f o.p2, f o.p3, f o.p4, f o.p5, f o.p6, f o.p7⟩

/-- A collection made from the indexes. -/
def Oct.make {α : Type} (f : Fin 8 → α) : Oct α := ⟨f 0, f 1, f 2, f 3, f 4, f 5, f 6, f 7⟩

/-- The value of a correlator or a segment. -/
def Quad.get {α : Type} (o : Quad α) (i : Fin 4) : α :=
  match i with
  | 0 => o.q0
  | 1 => o.q1
  | 2 => o.q2
  | 3 => o.q3

/-- The collection with one value written. -/
def Quad.set {α : Type} (o : Quad α) (i : Fin 4) (a : α) : Quad α :=
  match i with
  | 0 => { o with q0 := a }
  | 1 => { o with q1 := a }
  | 2 => { o with q2 := a }
  | 3 => { o with q3 := a }

/-- The number of a branch, 1 to 3. -/
def Branch.number : Branch → Fin 4
  | .b1 => 1
  | .b2 => 2
  | .b3 => 3

/-- The number of a segment or a view, 0 to 3 (R186). -/
def Segment.number : Segment → Fin 4
  | .trunk => 0
  | .branch b => b.number

/-- The value of a branch. -/
def PerBranch.get {α : Type} (o : PerBranch α) : Branch → α
  | .b1 => o.b1
  | .b2 => o.b2
  | .b3 => o.b3

/-- The value of a cause. -/
def PerCause.get {α : Type} (o : PerCause α) : Cause → α
  | .step => o.step
  | .lost => o.lost
  | .stray => o.stray
  | .alarm => o.alarm
  | .silent => o.silent

/-- The collection with one cause's value written. -/
def PerCause.set {α : Type} (o : PerCause α) (c : Cause) (a : α) : PerCause α :=
  match c with
  | .step => { o with step := a }
  | .lost => { o with lost := a }
  | .stray => { o with stray := a }
  | .alarm => { o with alarm := a }
  | .silent => { o with silent := a }

/-! ### The blocks of the part, written one at a time -/

/-- The Request Port written. -/
def State.setPort (s : State) (v : RequestPort) : State := { s with port := v }
/-- The whole-line settings written. -/
def State.setLine (s : State) (v : LineSettings) : State := { s with line := v }
/-- The settings of every pair written. -/
def State.setSettings (s : State) (v : Oct PairSettings) : State := { s with settings := v }
/-- The Station Table written. -/
def State.setTable (s : State) (v : StationTable) : State := { s with table := v }
/-- The Survey Controllers written. -/
def State.setSurvey (s : State) (v : Oct SurveyController) : State := { s with survey := v }
/-- The Correlator Pool written. -/
def State.setPool (s : State) (v : CorrelatorPool) : State := { s with pool := v }
/-- The stray slots written. -/
def State.setStrays (s : State) (v : Oct StraySlot) : State := { s with strays := v }
/-- The Telegram Controllers written. -/
def State.setTelegrams (s : State) (v : Oct TelegramController) : State := { s with telegrams := v }
/-- The Poll Sweeper written. -/
def State.setSweeper (s : State) (v : PollSweeper) : State := { s with sweeper := v }
/-- The Case Arbiter written. -/
def State.setArbiter (s : State) (v : CaseArbiter) : State := { s with arbiter := v }
/-- The Claim Table written. -/
def State.setClaims (s : State) (v : List Claim) : State := { s with claims := v }
/-- The contexts written. -/
def State.setContexts (s : State) (v : Oct (Option Context)) : State := { s with contexts := v }
/-- The count of free values drawn written. -/
def State.setDraws (s : State) (v : Nat) : State := { s with draws := v }
/-- The queue of waiting commands written. -/
def State.setPending (s : State) (v : List Instr) : State := { s with pending := v }

/-- The Survey Controller of a pair. -/
def State.sc (s : State) (p : Pair) : SurveyController := s.survey.get p
/-- The Survey Controller of a pair written. -/
def State.setSc (s : State) (p : Pair) (v : SurveyController) : State := s.setSurvey (s.survey.set p v)
/-- The Telegram Controller of a pair. -/
def State.tc (s : State) (p : Pair) : TelegramController := s.telegrams.get p
/-- The Telegram Controller of a pair written. -/
def State.setTc (s : State) (p : Pair) (v : TelegramController) : State :=
  s.setTelegrams (s.telegrams.set p v)
/-- The context of a level. -/
def State.context (s : State) (l : Level) : Option Context := s.contexts.get l
/-- The context of a level written. -/
def State.setContext (s : State) (l : Level) (v : Option Context) : State :=
  s.setContexts (s.contexts.set l v)
/-- The pair is DRIVING. -/
def State.driving (s : State) (p : Pair) : Bool := (s.sc p).role == .driving

/-! ### Station records -/

/-- The record with a station number (R1). -/
def State.station? (s : State) (n : Nat) : Option Station := s.table.stations.find? (·.number == n)

/-- The record with an address (R1). -/
def State.byAddress? (s : State) (a : Nat) : Option Station := s.table.stations.find? (·.address == a)

/-- The branching unit that serves a branch (00_scope.md, "Segments"). -/
def State.unit? (s : State) (b : Branch) : Option Station :=
  s.table.stations.find? (·.kind == .branching b)

/-- A function applied to the record with a station number. -/
def State.updateStation (s : State) (n : Nat) (f : Station → Station) : State :=
  s.setTable { s.table with stations := s.table.stations.map fun r => if r.number == n then f r else r }

/-- The pair part of a pair (R3). -/
def Station.part? (r : Station) (p : Pair) : Option PairPart := r.parts.find? (·.pair == p)

/-- The pair reaches the station (R2). -/
def Station.reachedBy (r : Station) (p : Pair) : Bool := (r.part? p).isSome

/-- A function applied to the pair part of a pair. -/
def Station.updatePart (r : Station) (p : Pair) (f : PairPart → PairPart) : Station :=
  { r with parts := r.parts.map fun q => if q.pair == p then f q else q }

/-- The pair part of a station on a pair. -/
def State.part? (s : State) (n : Nat) (p : Pair) : Option PairPart :=
  match s.station? n with
  | some r => r.part? p
  | none => none

/-- A function applied to the pair part of a station on a pair. -/
def State.updatePart (s : State) (n : Nat) (p : Pair) (f : PairPart → PairPart) : State :=
  s.updateStation n (·.updatePart p f)

/-- The deviation: latest gain minus baseline gain, present when both are (R3). -/
def PairPart.deviation (q : PairPart) : Option Int :=
  match q.latest, q.baseline with
  | some l, some b => some (l.gain - b)
  | _, _ => none

/-- The station is a BRANCHING station. -/
def Station.isUnit (r : Station) : Bool :=
  match r.kind with
  | .branching _ => true
  | .repeater => false

/-- The Delay Index of a segment (R7). -/
def State.index (s : State) (g : Segment) : List Nat := s.table.index.get g.number

/-- The generation of a segment in force (R8). -/
def State.generation (s : State) (g : Segment) : Nat := s.table.generation.get g.number

/-- The records of a list of station numbers, in the list's order. -/
def State.records (s : State) (l : List Nat) : List Station := l.filterMap s.station?

/-- The generation of a segment incremented, wrapping from 65535 to 0 (R8). -/
def State.bumpGeneration (s : State) (g : Segment) : State :=
  s.setTable { s.table with
    generation := s.table.generation.set g.number ((s.generation g + 1) % 65536) }

/-- A segment's Delay Index written. -/
def State.setIndex (s : State) (g : Segment) (l : List Nat) : State :=
  s.setTable { s.table with index := s.table.index.set g.number l }

/-- The pair set of a segment: every equipped pair on the trunk, branch b's pair set on branch b (R2). -/
def LineSettings.pairsOf (l : LineSettings) : Segment → PairSet
  | .trunk => l.equipped
  | .branch b => l.branchSets.get b

/-- The pair is equipped. -/
def State.equipped (s : State) (p : Pair) : Bool := s.line.equipped.has p

/-- A record placed in increasing station number (R1). -/
def insertStation (r : Station) : List Station → List Station
  | [] => [r]
  | q :: rest => if r.number < q.number then r :: q :: rest else q :: insertStation r rest

/-- A station number placed in its segment's Delay Index by its delay (R7). -/
def State.indexInsert (s : State) (n delay : Nat) : List Nat → List Nat
  | [] => [n]
  | m :: rest =>
    if ((s.station? m).any fun r => decide (delay < r.delay)) then n :: m :: rest
    else m :: s.indexInsert n delay rest

/-! ### Cases -/

/-- The open case with a case number (R126). -/
def State.case? (s : State) (k : Nat) : Option Case := s.arbiter.cases.find? (·.number == k)

/-- The open case of a station on a pair (R126). -/
def State.caseAt? (s : State) (n : Nat) (p : Pair) : Option Case :=
  s.arbiter.cases.find? fun c => c.station == n && c.pair == p

/-- A function applied to the case with a case number. -/
def State.updateCase (s : State) (k : Nat) (f : Case → Case) : State :=
  s.setArbiter { s.arbiter with cases := s.arbiter.cases.map fun c => if c.number == k then f c else c }

/-- The case is ACTIVE or SUSPENDED. -/
def Case.inService (c : Case) : Bool := c.state == .active || c.state == .suspended

/-- The case is HELD. -/
def Case.isHeld (c : Case) : Bool :=
  match c.state with
  | .held _ => true
  | _ => false

/-- The case whose number stands on top of the in-service stack. -/
def State.topCase? (s : State) : Option Case :=
  match s.arbiter.stack with
  | [] => none
  | k :: _ => s.case? k

/-- The context of the level is the working context: its case is on top of the stack (R157). -/
def State.working (s : State) (l : Level) : Bool :=
  match s.context l, s.arbiter.stack with
  | some c, k :: _ => c.caseNumber == k
  | _, _ => false

/-! ### Health (R72) -/

/-- Health "as the fields stand": the first that applies (R72). -/
def healthOf (openCase : Bool) (q : PairPart) : Health :=
  if openCase then .suspect
  else if 1 ≤ q.confirm then .doubtful
  else if q.latest.isNone then .unmeasured
  else if q.baseline.isNone then .unbased
  else .normal

/-- The health of a pair part set as the fields stand (R72). -/
def State.refreshHealth (s : State) (n : Nat) (p : Pair) : State :=
  s.updatePart n p fun q => { q with health := healthOf (s.caseAt? n p).isSome q }

end Sys2Proof.Machine
end

