-- ==== Sys2Proof/Machine/Flags.lean ====
section
/-! DEFINITION. The part's flags and outputs: attention causes, ATN, RSP, the collision flag, the contention
and status-read flags, the overrun flag. -/

namespace Sys2Proof.Machine

/-- The six attention causes (R181). -/
inductive AttentionCause where
  | caseNew
  | caseHeld
  | stray
  | contention
  | caseFull
  | operatorDone
deriving DecidableEq, Repr

/-- A cause added to a set; one already present stays present (R181). -/
def AttentionSet.add (a : AttentionSet) : AttentionCause → AttentionSet
  | .caseNew => { a with caseNew := true }
  | .caseHeld => { a with caseHeld := true }
  | .stray => { a with stray := true }
  | .contention => { a with contention := true }
  | .caseFull => { a with caseFull := true }
  | .operatorDone => { a with operatorDone := true }

/-- The set as a mask: CASE_NEW 0, CASE_HELD 1, STRAY 2, CONTENTION 3, CASE_FULL 4, OPERATOR_DONE 5
(R186). -/
def AttentionSet.toMask (a : AttentionSet) : Nat :=
  a.caseNew.toNat + 2 * a.caseHeld.toNat + 4 * a.stray.toNat + 8 * a.contention.toNat +
  16 * a.caseFull.toNat + 32 * a.operatorDone.toNat

/-- The set that a mask names (R186). -/
def AttentionSet.ofMask (m : Byte) : AttentionSet :=
  { caseNew := m.getLsbD 0, caseHeld := m.getLsbD 1, stray := m.getLsbD 2,
    contention := m.getLsbD 3, caseFull := m.getLsbD 4, operatorDone := m.getLsbD 5 }

/-- Some cause is in both sets (R181). -/
def AttentionSet.meets (a b : AttentionSet) : Bool :=
  (a.caseNew && b.caseNew) || (a.caseHeld && b.caseHeld) || (a.stray && b.stray) ||
  (a.contention && b.contention) || (a.caseFull && b.caseFull) || (a.operatorDone && b.operatorDone)

/-- A block raises an attention cause (R181). -/
def State.raise (s : State) (c : AttentionCause) : State :=
  s.setPort { s.port with attention := s.port.attention.add c }

/-- The attention set emptied (R182, R183). -/
def State.clearAttention (s : State) : State :=
  s.setPort { s.port with attention := AttentionSet.none }

/-- The attention enable set written (R182). -/
def State.setEnable (s : State) (e : AttentionSet) : State := s.setPort { s.port with enable := e }

/-- ATN: asserted while a cause is in both the attention set and the enable set (R181). -/
def State.atn (s : State) : Bool := s.port.attention.meets s.port.enable

/-- RSP: asserted exactly in RESPONSE READY (R174). -/
def State.rsp (s : State) : Bool :=
  match s.port.state with
  | .responseReady _ _ => true
  | _ => false

/-- The collision flag set; one already set stays set (R175). -/
def State.setCollision (s : State) : State := s.setPort { s.port with collision := true }

/-- The contention flag set and the status-read flag cleared (R120). -/
def State.flagContention (s : State) (p : Pair) : State :=
  s.setSc p { s.sc p with contention := true, statusRead := false }

/-- PAIR STATUS sets the status-read flag when the contention flag is set (R122). -/
def State.flagStatusRead (s : State) (p : Pair) : State :=
  if (s.sc p).contention then s.setSc p { s.sc p with statusRead := true } else s

/-- Both flags of a pair cleared (R123). -/
def State.clearContentionFlags (s : State) (p : Pair) : State :=
  s.setSc p { s.sc p with contention := false, statusRead := false }

/-- The overrun flag of a pair's stray slot set (R80). -/
def State.flagOverrun (s : State) (p : Pair) : State :=
  s.setStrays (s.strays.set p { s.strays.get p with overrun := true })

end Sys2Proof.Machine
end

