-- ==== Sys2Proof/Machine/Cases.lean ====
section
/-! DEFINITION. The Case List and the Case Arbiter: opening and merging, levels, the choice of a grant, and
leaving service (08_cases_and_their_arbitration.md). -/

namespace Sys2Proof.Machine

/-- A cause with the evidence that its finding brings (R127). -/
inductive CauseFound where
  | step (step : Int)
  | lost (missing : Nat)
  | stray (delay : Nat) (magnitude : Int)
  | alarm (word : AlarmWord)
  | silent (kind : TelegramKind)
deriving DecidableEq, Repr

/-- The cause without its evidence. -/
def CauseFound.cause : CauseFound → Cause
  | .step _ => .step
  | .lost _ => .lost
  | .stray _ _ => .stray
  | .alarm _ => .alarm
  | .silent _ => .silent

/-- No evidence. -/
def Evidence.none : Evidence := ⟨.none, .none, .none, .none, .none⟩

/-- The cause is among the case's causes (R126, R127). -/
def Evidence.has (e : Evidence) : Cause → Bool
  | .step => e.step.isSome
  | .lost => e.lost.isSome
  | .stray => e.stray.isSome
  | .alarm => e.alarm.isSome
  | .silent => e.silent.isSome

/-- The cause is added when absent and its evidence written; every other cause's evidence stands
(R127). -/
def Evidence.add (e : Evidence) : CauseFound → Evidence
  | .step v => { e with step := some v }
  | .lost v => { e with lost := some v }
  | .stray d m => { e with stray := some (d, m) }
  | .alarm w => { e with alarm := some w }
  | .silent k => { e with silent := some k }

/-- The causes in the order that decides between equal levels (R162). -/
def causeOrder : List Cause := [.stray, .lost, .silent, .step, .alarm]

/-- The first of the causes, in their order, whose level in the map is highest (least). -/
def highestCause (m : PerCause Level) : List Cause → Option Cause
  | [] => none
  | c :: rest =>
    match highestCause m rest with
    | none => some c
    | some d => if m.get c ≤ m.get d then some c else some d

/-- The deciding cause of a case (R162): the cause whose level in the level map is highest. -/
def decidingCause (m : PerCause Level) (e : Evidence) : Option Cause :=
  highestCause m (causeOrder.filter e.has)

/-- The level of a case: the highest that the level map gives any of its causes (R129). A case always
has a cause; with none the level would be the lowest. -/
def levelOf (m : PerCause Level) (e : Evidence) : Level :=
  match decidingCause m e with
  | some c => m.get c
  | none => 7

/-- The next free case number after the last assigned, in rotating order over 1 to 255 (R128). -/
def nextCaseNumber (cases : List Case) (last : Nat) : Nat :=
  match (List.range 255).find? fun i => !(cases.any fun c => c.number == (last + i) % 255 + 1) with
  | some i => (last + i) % 255 + 1
  | none => 0

/-- A case placed in increasing case number (R126). -/
def insertCase (c : Case) : List Case → List Case
  | [] => [c]
  | d :: rest => if c.number < d.number then c :: d :: rest else d :: insertCase c rest

/-- An opening (R131): the case joins the list PENDING, the pair part becomes SUSPECT, CASE_NEW is
raised. -/
def State.openCase (s : State) (n : Nat) (p : Pair) (f : CauseFound) (round : Nat) : State :=
  let number := nextCaseNumber s.arbiter.cases s.arbiter.counter
  let evidence := Evidence.none.add f
  let case : Case :=
    { number := number, station := n, pair := p, evidence := evidence,
      level := levelOf s.arbiter.policy.levelMap evidence, state := .pending, openedRound := round,
      actionTaken := none, claim := none }
  ((s.setArbiter { s.arbiter with cases := insertCase case s.arbiter.cases, counter := number }).refreshHealth n p).raise .caseNew

/-- What a merge makes of a case, by its state (R133 to R135). -/
def Case.merge (m : PerCause Level) (f : CauseFound) (c : Case) : Case :=
  let e := c.evidence.add f
  match c.state with
  | .pending => { c with evidence := e, level := levelOf m e }
  | .active => { c with evidence := e }
  | .suspended => { c with evidence := e }
  | .held _ =>
    if c.evidence.has f.cause then { c with evidence := e }
    else { c with evidence := e, level := levelOf m e, state := .pending }

/-- The merge brings a HELD case back to PENDING (R135). -/
def Case.reopens (f : CauseFound) (c : Case) : Bool := c.isHeld && !c.evidence.has f.cause

/-- A merge (R133 to R135): CASE_NEW is raised when a HELD case returns to PENDING. -/
def State.mergeCase (s : State) (c : Case) (f : CauseFound) : State :=
  let s' := s.updateCase c.number (Case.merge s.arbiter.policy.levelMap f)
  if c.reopens f then s'.raise .caseNew else s'

/-- A block's request for an opening or merge (R130): merge into the open case, open one, or meet a
full list (R132). -/
def State.findCase (s : State) (n : Nat) (p : Pair) (f : CauseFound) (round : Nat) : State :=
  match s.caseAt? n p with
  | some c => s.mergeCase c f
  | none =>
    if s.arbiter.cases.length < Config.maxCases then s.openCase n p f round
    else s.raise .caseFull

/-! ### Grants (R137 to R140) -/

/-- The case is eligible for grant (R137). -/
def State.eligible (s : State) (c : Case) : Bool :=
  c.state == .pending && !(s.arbiter.policy.masked.get c.level) && s.driving c.pair

/-- The place of a value in rotating order from another, over 0 to 255: the values after it first,
itself last (00_scope.md, "Rotating order"). -/
def rotation (last n : Nat) : Nat := (n + 255 - last) % 256

/-- The place of a station in the order in which a level's grant serves it (R139). -/
def serveRank (last : Option Nat) (n : Nat) : Nat :=
  match last with
  | some v => rotation v n
  | none => n

/-- The case is chosen before the other: higher level, then the station's turn, then the lower pair
(R139). -/
def State.servedBefore (s : State) (c d : Case) : Bool :=
  let rank := fun e : Case => serveRank (s.arbiter.lastServed.get e.level) e.station
  c.level < d.level ||
  (c.level == d.level && (rank c < rank d || (rank c == rank d && c.pair < d.pair)))

/-- The case that a grant would choose among those given (R139). -/
def State.bestCase (s : State) : List Case → Option Case
  | [] => none
  | c :: rest =>
    match s.bestCase rest with
    | none => some c
    | some d => if s.servedBefore d c then some d else some c

/-- The case to grant, when a grant is due (R138, R139). -/
def State.grantDue (s : State) : Option Case :=
  match s.bestCase (s.arbiter.cases.filter s.eligible) with
  | none => none
  | some c =>
    match s.topCase? with
    | none => some c
    | some top => if c.level < top.level then some c else none

/-- A case's state written. -/
def State.setCaseState (s : State) (k : Nat) (st : CaseState) : State :=
  s.updateCase k fun c => { c with state := st }

/-- The case on top, if any, made SUSPENDED (R140). -/
def State.suspendTop (s : State) : State :=
  match s.arbiter.stack with
  | [] => s
  | k :: _ => s.setCaseState k .suspended

/-- The case on top, if any, made ACTIVE (R141, R142). -/
def State.activateTop (s : State) : State :=
  match s.arbiter.stack with
  | [] => s
  | k :: _ => s.setCaseState k .active

/-- The chosen case put on top, ACTIVE; its station becomes the level's last-served (R139, R140). -/
def State.pushCase (s : State) (c : Case) : State :=
  let s := (s.suspendTop).setCaseState c.number .active
  s.setArbiter { s.arbiter with
    stack := c.number :: s.arbiter.stack,
    lastServed := s.arbiter.lastServed.set c.level (some c.station) }

/-- The ACTIVE case leaves service: HELD with its outcome, off the stack, its context empty, CASE_HELD
raised, and the next case down ACTIVE (R141, R166). Whatever the outcome, the claim and the action taken that the
case has stay with it (R146, R166; for UNREACHABLE the model's reading, log 42). -/
def State.leaveService (s : State) (o : Outcome) : State :=
  match s.topCase? with
  | none => s
  | some c =>
    let s := (s.setCaseState c.number (.held o)).setContext c.level none
    ((s.setArbiter { s.arbiter with stack := s.arbiter.stack.tail }).raise .caseHeld).activateTop

/-- The case is in the stack and on the pair: the pair's leaving DRIVING interrupts it (R142). -/
def State.interrupts (s : State) (p : Pair) (c : Case) : Bool :=
  c.pair == p && s.arbiter.stack.contains c.number

/-- Every in-service case of a pair becomes HELD INTERRUPTED and leaves the stack, its context ends,
and CASE_HELD is raised once (R142, R171). A new top becomes ACTIVE. -/
def State.interruptCases (s : State) (p : Pair) : State :=
  let hit := s.arbiter.cases.filter (s.interrupts p)
  if hit.isEmpty then s
  else
    let numbers := hit.map (·.number)
    let levels := hit.map (·.level)
    let s := s.setArbiter { s.arbiter with
      cases := s.arbiter.cases.map fun c => if numbers.contains c.number then { c with state := .held .interrupted } else c,
      stack := s.arbiter.stack.filter fun k => !numbers.contains k }
    let s := s.setContexts (Oct.make fun l => if levels.contains l then none else s.context l)
    (s.raise .caseHeld).activateTop

end Sys2Proof.Machine
end

