-- ==== Sys2Proof/Machine/Claims.lean ====
section
/-! DEFINITION. The Claim Table (09_claims.md): scopes, numbers, AUTO and FAR claims, release. -/

namespace Sys2Proof.Machine

/-- Two scopes of one station overlap: the same pair, or either is ALL (R146). -/
def ClaimPair.overlaps : ClaimPair → ClaimPair → Bool
  | .all, _ => true
  | _, .all => true
  | .one p, .one q => p == q

/-- The claim's scope overlaps the scope (R146). -/
def Claim.overlaps (c : Claim) (n : Nat) (sc : ClaimPair) : Bool := c.station == n && c.pair.overlaps sc

/-- The claim covers the station and pair (R146). -/
def Claim.covers (c : Claim) (n : Nat) (p : Pair) : Bool := c.overlaps n (.one p)

/-- The claim that a scope overlaps, the one with the lowest number (R148, R151). -/
def State.holder? (s : State) (n : Nat) (sc : ClaimPair) : Option Claim :=
  s.claims.find? (·.overlaps n sc)

/-- The lowest free claim number; none when the table holds 16 claims (R147). -/
def freeClaimNumber (claims : List Claim) : Option Nat :=
  (List.range Config.maxClaims).find? fun k => !(claims.any fun c => c.number == k)

/-- A claim placed in increasing claim number (R150). -/
def insertClaim (c : Claim) : List Claim → List Claim
  | [] => [c]
  | d :: rest => if c.number < d.number then c :: d :: rest else d :: insertClaim c rest

/-- A claim joins the table (R147). -/
def State.addClaim (s : State) (c : Claim) : State := s.setClaims (insertClaim c s.claims)

/-- The claims that fail the test are released (R155). -/
def State.keepClaims (s : State) (keep : Claim → Bool) : State := s.setClaims (s.claims.filter keep)

/-- The claim with a claim number. -/
def State.claim? (s : State) (k : Nat) : Option Claim := s.claims.find? (·.number == k)

/-- What the table answers a request for a claim (R148, R151). -/
inductive ClaimAnswer where
  | granted (number : Nat)
  | busy (holder : Claim)
  | full
deriving DecidableEq, Repr

/-- The answer to a request for a scope: the overlap first, then the numbers (R148, R151). -/
def State.claimAnswer (s : State) (n : Nat) (sc : ClaimPair) : ClaimAnswer :=
  match s.holder? n sc with
  | some c => .busy c
  | none =>
    match freeClaimNumber s.claims with
    | some k => .granted k
    | none => .full

/-- An AUTO request of a case for one scope: on GRANTED the claim is made and the case's claim field
written in the same change (R146, R151). -/
def State.askAuto (s : State) (caseNumber n : Nat) (p : Pair) : State × ClaimAnswer :=
  match s.claimAnswer n (.one p) with
  | .granted k =>
    ((s.addClaim { number := k, station := n, pair := .one p, owner := .auto caseNumber }).updateCase
      caseNumber fun c => { c with claim := some k }, .granted k)
  | a => (s, a)

/-- A FAR claim, made only when the scope and a claim number are free (R152). R152 and R99 ask for no more, so the
model makes it also for a station that the pair does not reach, though R146 has a scope of one pair name a pair
that reaches the station (log 40). -/
def State.makeFar (s : State) (n : Nat) (p : Pair) : State :=
  match s.claimAnswer n (.one p) with
  | .granted k => s.addClaim { number := k, station := n, pair := .one p, owner := .far }
  | _ => s

/-- The claim is a FAR claim whose scope pair is this pair (R118, R153). -/
def Claim.isFarOn (c : Claim) (p : Pair) : Bool := c.owner == .far && c.pair == .one p

/-- The claim is the FAR claim of the station on the pair (R153). -/
def Claim.isFarOf (c : Claim) (n : Nat) (p : Pair) : Bool := c.isFarOn p && c.station == n

end Sys2Proof.Machine
end

