-- ==== Sys2Proof/Machine/Operands.lean ====
section
/-! DEFINITION. The operands of the host's requests, read by number and code: ranges, pairs and ALL, segments
and enumerations (R1, R3, R178 to R180, R186). A reader answers none where the value lies outside its
range; the request is then refused RANGE by its own rule. -/

namespace Sys2Proof.Machine

/-- The number lies in the range, both ends included. -/
def inRange (lo hi n : Nat) : Bool := lo ≤ n && n ≤ hi

/-- The signed number lies in the range, both ends included. -/
def inRangeInt (lo hi n : Int) : Bool := lo ≤ n && n ≤ hi

/-- An optional operand is absent, or meets the test. -/
def optOk {α : Type} (f : α → Bool) : Option α → Bool
  | none => true
  | some a => f a

/-- A station number: 0 to 255 (R1). -/
def stationOk (n : Nat) : Bool := inRange 0 255 n

/-- An address: 1 to 4095 (R1). -/
def addressOk (n : Nat) : Bool := inRange 1 4095 n

/-- An expected delay: 10 to 150,000 µs (R1). -/
def delayOk (n : Nat) : Bool := inRange Config.minDelay Config.maxDelay n

/-- A window: 2 to 50 µs (R1). -/
def windowOk (n : Nat) : Bool := inRange 2 50 n

/-- A baseline gain: −80.0 to 0.0 dB (R3). -/
def gainOk (g : Int) : Bool := inRangeInt (-800) 0 g

/-- A pair, 0 to 7. -/
def readPair (n : Nat) : Option Pair := if h : n < 8 then some ⟨n, h⟩ else none

/-- A pair, 0 to 7, or ALL, 255 (R186). -/
def readScope (n : Nat) : Option ClaimPair :=
  if n = 255 then some .all
  else match readPair n with
    | some p => some (.one p)
    | none => none

/-- A branch, 1 to 3. -/
def readBranch : Nat → Option Branch
  | 1 => some .b1
  | 2 => some .b2
  | 3 => some .b3
  | _ => none

/-- A segment, 0 to 3. -/
def readSegment : Nat → Option Segment
  | 0 => some .trunk
  | n => match readBranch n with
    | some b => some (.branch b)
    | none => none

/-- A level, 0 to 7. -/
def readLevel (n : Nat) : Option Level := readPair n

/-- A role: OFF 0, DRIVING 1, LISTENING 2 (R186). -/
def readRole : Nat → Option Role
  | 0 => some .off
  | 1 => some .driving
  | 2 => some .listening
  | _ => none

/-- A watch mode: OFF 0, EVENT 1, MATCH 2 (R186). -/
def readMode : Nat → Option WatchMode
  | 0 => some .off
  | 1 => some .event
  | 2 => some .matching
  | _ => none

/-- An end: END A 0, END B 1 (R186). -/
def readEnd : Nat → Option End
  | 0 => some .endA
  | 1 => some .endB
  | _ => none

/-- A cause by its bit number: STEP 0, LOST 1, STRAY 2, ALARM 3, SILENT 4 (R186, R187). -/
def readCause : Nat → Option Cause
  | 0 => some .step
  | 1 => some .lost
  | 2 => some .stray
  | 3 => some .alarm
  | 4 => some .silent
  | _ => none

/-- An action of the action map: NONE 0, SPARE 1, LIMIT 2, CUT-BRANCH 3 (R186). -/
def readMapAction : Nat → Option MapAction
  | 0 => some .none
  | 1 => some .spare
  | 2 => some .limit
  | 3 => some .cutBranch
  | _ => none

/-- A level mode: REPORT 0, AUTO 1 (R186). -/
def readLevelMode : Nat → Option LevelMode
  | 0 => some .report
  | 1 => some .auto
  | _ => none

/-- A level mask entry: not masked 0, masked 1 (R187). -/
def readMasked : Nat → Option Bool
  | 0 => some false
  | 1 => some true
  | _ => none

/-- The telegram of an ISOLATE's action: SPARE 1 or LIMIT 2 (R154, R186). -/
def readIsolate : Nat → Option TelegramKind
  | 1 => some .isolateSpare
  | 2 => some .isolateLimit
  | _ => none

/-- A kind and a branch served: a BRANCHING station (1) names one, a REPEATER (0) names none (R14). -/
def readKind : Nat → Option Nat → Option StationKind
  | 0, none => some .repeater
  | 1, some b => match readBranch b with
    | some b => some (.branching b)
    | none => none
  | _, _ => none

/-- Entries of two codes, each code read; none when any code lies outside its list. -/
def readEntries {α β : Type} (f : Nat → Option α) (g : Nat → Option β) :
    List (Nat × Nat) → Option (List (α × β))
  | [] => some []
  | e :: rest =>
    match f e.1, g e.2, readEntries f g rest with
    | some a, some b, some l => some ((a, b) :: l)
    | _, _, _ => none

/-- A list of at most so many entries, read (R185, R187). -/
def readList {α β : Type} (greatest : Nat) (f : Nat → Option α) (g : Nat → Option β)
    (l : List (Nat × Nat)) : Option (List (α × β)) :=
  if l.length ≤ greatest then readEntries f g l else none

/-- An optional code: absent, or read; none when it is present and outside its list. -/
def readOpt {α : Type} (f : Nat → Option α) : Option Nat → Option (Option α)
  | none => some none
  | some n => match f n with
    | some a => some (some a)
    | none => none

/-- The pairs of a scope on a station: the one pair, or every pair that reaches the station (R146). -/
def Station.pairsOf (r : Station) : ClaimPair → List Pair
  | .one p => [p]
  | .all => r.parts.map (·.pair)

/-- A single pair of a scope reaches the station; ALL always names pairs that do (R146). -/
def Station.scopeReaches (r : Station) : ClaimPair → Bool
  | .one p => r.reachedBy p
  | .all => true

end Sys2Proof.Machine
end

