-- ==== Sys2Proof/Machine/Views.lean ====
section
/-! DEFINITION. Views, steering states, shadowing and the definition of a round (R9, R33, R34, R37, R39). -/

namespace Sys2Proof.Machine

/-- The stations of a list up to and including the station with a number. -/
def upTo (n : Nat) : List Station → List Station
  | [] => []
  | r :: rest => if r.number == n then [r] else r :: upTo n rest

/-- The records of a segment in the order of its Delay Index (R7). -/
def State.segmentStations (s : State) (g : Segment) : List Station := s.records (s.index g)

/-- The stations of a view in increasing expected delay (R9): the trunk; or the trunk up to and
including branching unit b, then branch b. -/
def State.viewStations (s : State) : View → List Station
  | .trunk => s.segmentStations .trunk
  | .branch b =>
    match s.unit? b with
    | none => []
    | some u => upTo u.number (s.segmentStations .trunk) ++ s.segmentStations (.branch b)

/-- The segments that a view contains (R9). -/
def viewSegments : View → List Segment
  | .trunk => [.trunk]
  | .branch b => [.trunk, .branch b]

/-- The generations in force of a view's segments (R8). -/
def State.snapshotOf (s : State) (v : View) : Snapshot :=
  (viewSegments v).map fun g => (g, s.generation g)

/-- The snapshot equals the generations in force, segment by segment (R64). -/
def State.snapshotHolds (s : State) (snap : Snapshot) : Bool :=
  snap.all fun e => s.generation e.1 == e.2

/-- The steering state that a pair's controller holds for a unit (R28). -/
def SurveyController.steeringOf (c : SurveyController) (n : Nat) : Option Steering :=
  (c.steering.find? (·.1 == n)).map (·.2)

/-- The steering state of a unit written; a unit that the controller does not hold stays unheld (R28). -/
def SurveyController.setSteering (c : SurveyController) (n : Nat) (v : Steering) : SurveyController :=
  { c with steering := c.steering.map fun e => if e.1 == n then (n, v) else e }

/-- A steering state added, in increasing station number (R38). -/
def addSteering (n : Nat) (v : Steering) : List (Nat × Steering) → List (Nat × Steering)
  | [] => [(n, v)]
  | e :: rest => if n < e.1 then (n, v) :: e :: rest else e :: addSteering n v rest

/-- The branching units on a pair, those whose branch's pair set contains it, as a list of station
numbers in increasing number (R28). -/
def State.unitsOnPair (s : State) (p : Pair) : List Nat :=
  s.table.stations.filterMap fun r =>
    match r.kind with
    | .branching b => if (s.line.branchSets.get b).has p then some r.number else none
    | .repeater => none

/-- The units for which a pair's controller holds a steering state, in increasing expected delay. -/
def State.steeredUnits (s : State) (p : Pair) : List Station :=
  (s.segmentStations .trunk).filter fun r => ((s.sc p).steeringOf r.number).isSome

/-- The branch connection of branching unit b on a pair, as the station records hold it (R5). -/
def State.connectionOf (s : State) (b : Branch) (p : Pair) : Option Connection :=
  match s.unit? b with
  | none => none
  | some u =>
    match u.part? p with
    | none => none
    | some q => q.connection

/-- A view is available on a pair (R33). -/
def State.available (s : State) (p : Pair) : View → Bool
  | .trunk => true
  | .branch b =>
    match s.unit? b with
    | none => false
    | some u =>
      (s.line.branchSets.get b).has p && s.connectionOf b p == some .connected &&
      ((s.sc p).steeringOf u.number == some .trunk || (s.sc p).steeringOf u.number == some .branch)

/-- The views that follow one in the rotation, up to TRUNK, which ends every move (R32). -/
def viewsAfter : View → List View
  | .trunk => [.branch .b1, .branch .b2, .branch .b3, .trunk]
  | .branch .b1 => [.branch .b2, .branch .b3, .trunk]
  | .branch .b2 => [.branch .b3, .trunk]
  | .branch .b3 => [.trunk]

/-- The next available view of the rotation (R32). -/
def State.nextView (s : State) (p : Pair) (v : View) : View :=
  ((viewsAfter v).find? (s.available p)).getD .trunk

/-- The view's own unit, which never shadows its branch (R37). -/
def State.ownUnit (s : State) : View → Option Nat
  | .trunk => none
  | .branch b => (s.unit? b).map (·.number)

/-- The units on the pair that shadow in a view: not its own, at UNKNOWN or BRANCH, nearest first
(R37). -/
def State.shadowers (s : State) (p : Pair) (v : View) : List Station :=
  (s.steeredUnits p).filter fun u =>
    s.ownUnit v != some u.number && (s.sc p).steeringOf u.number != some .trunk

/-- A station lies beyond a unit (R37). -/
def State.beyond (s : State) (u r : Station) : Bool :=
  match r.segment with
  | .trunk => u.delay < r.delay
  | .branch c =>
    match s.unit? c with
    | none => false
    | some w => w.number == u.number || u.delay < w.delay

/-- A station is shadowed in a round of the view on the pair (R37). -/
def State.isShadowed (s : State) (p : Pair) (v : View) (r : Station) : Bool :=
  (s.shadowers p v).any fun u => s.beyond u r

/-- A station is shadowed by a unit whose steering state is UNKNOWN (R43). -/
def State.isShadowedUnknown (s : State) (p : Pair) (v : View) (r : Station) : Bool :=
  (s.shadowers p v).any fun u => (s.sc p).steeringOf u.number == some .unknown && s.beyond u r

/-- The steering plan for a round view (R34): the telegrams, STEER TRUNK first in increasing delay of
their units, then STEER BRANCH. `entry` says that the boundary is an entry to the TRUNK view. -/
def State.steeringPlan (s : State) (p : Pair) (v : View) (entry : Bool) : List Telegram :=
  let state := fun u : Station => (s.sc p).steeringOf u.number
  let steer := fun (k : TelegramKind) (u : Station) => ({ dest := u.number, kind := k, submitter := .survey } : Telegram)
  match v with
  | .trunk =>
    ((s.steeredUnits p).filter fun u =>
      state u == some .branch || (entry && state u == some .unknown)).map (steer .steerTrunk)
  | .branch _ =>
    let own := s.ownUnit v
    ((s.steeredUnits p).filter fun u => own != some u.number && state u == some .branch).map (steer .steerTrunk) ++
    ((s.steeredUnits p).filter fun u => own == some u.number && state u == some .trunk).map (steer .steerBranch)

/-- A station as a round definition holds it (R39). -/
def Station.inRound (r : Station) : RoundStation := { number := r.number, delay := r.delay, window := r.window }

/-- The end of the farthest window among those of the greatest delay: greatest expected delay plus that
station's window (R39). -/
def farthest : List Station → Nat × Nat
  | [] => (0, 0)
  | r :: rest =>
    let f := farthest rest
    if f.1 ≤ r.delay then (r.delay, r.window) else f

/-- The definition of a round, fixed at the grant from the state in force (R39). -/
def State.roundDefinition (s : State) (p : Pair) : RoundDefinition :=
  let c := s.sc p
  let v := c.roundView.getD .trunk
  let kind := c.roundKind.getD .regular
  let stations := s.viewStations v
  let shadowed := stations.filter (s.isShadowed p v)
  let depth := (s.settings.get p).stackDepth
  let far := farthest stations
  { pair := p, view := v, kind := kind,
    focus := match kind, c.focused with
      | .focused, some f => some (f.station, f.level)
      | _, _ => none,
    visible := (stations.filter fun r => !s.isShadowed p v r).map Station.inRound,
    shadowed := shadowed.map Station.inRound,
    listenSpan := far.1 + far.2 + Config.listenGuard,
    strayLimit := if shadowed.isEmpty then none else (s.shadowers p v).head?.map fun u => u.delay + u.window,
    bursts := match kind with
      | .regular => depth
      | .focused => 4 * depth }

end Sys2Proof.Machine
end

