-- ==== Sys2Proof/Machine/Telegrams.lean ====
section
/-! DEFINITION. The Telegram Controllers and the Poll Sweeper: queue and wait line, sending, the writing of
a state in force, abandonment, the poll cursors and the end of a sweep (05_telegrams.md). -/

namespace Sys2Proof

/-! ### What a reply reports (R89) -/

/-- The isolation state that a reply reports. -/
def ReportedIsolation.toIsolation : ReportedIsolation → Machine.Isolation
  | .inLine => .inLine
  | .spare => .spare
  | .limit => .limit

/-- The branch connection that a reply reports. -/
def ReportedConnection.toConnection : ReportedConnection → Machine.Connection
  | .connected => .connected
  | .cut => .cut

/-- The steering state that a reported selector side gives (R35). -/
def Side.toSteering : Side → Machine.Steering
  | .trunk => .trunk
  | .branch => .branch

/-- The state in force that a reply carries (R89). -/
def ReplyContent.state : ReplyContent → StateInForce
  | .ack st => st
  | .nak _ st => st
  | .statusReply _ st => st

/-- The reply is of the kind that answers the telegram's kind (R89, R90). -/
def ReplyContent.answers (r : ReplyContent) (k : TelegramKind) : Bool :=
  match r with
  | .statusReply _ _ => k == .status
  | .ack _ => k != .status
  | .nak _ _ => k != .status

end Sys2Proof

namespace Sys2Proof.Machine

/-! ### Queue and wait line (R85 to R87) -/

/-- The rank of a telegram's urgency class: ACTION 0, STEER 1, POLL 2 (R85, R86). -/
def Telegram.rank (t : Telegram) : Nat :=
  match t.submitter with
  | .context _ => 0
  | .operator _ => 0
  | .survey => 1
  | .sweep => 2

/-- The telegram is a POLL: a STATUS of the POLL class (R85). -/
def Telegram.isPoll (t : Telegram) : Bool :=
  match t.submitter with
  | .sweep => true
  | _ => false

/-- The telegram is a steering telegram of the Survey Controller. -/
def Telegram.isSteer (t : Telegram) : Bool :=
  match t.submitter with
  | .survey => true
  | _ => false

/-- A telegram takes its place behind every telegram of its class and of a more urgent class, ahead of
every less urgent one (R86). -/
def enqueue (t : Telegram) : List Telegram → List Telegram
  | [] => [t]
  | u :: rest => if u.rank ≤ t.rank then u :: enqueue t rest else t :: u :: rest

/-- The queue has a place for an ACTION or STEER telegram at once: fewer than 8, or a POLL to displace
(R87). -/
def TelegramController.hasPlace (c : TelegramController) : Bool :=
  c.queue.length < Config.maxQueued || c.queue.any (·.isPoll)

/-- A telegram of a context, the operator or the Survey Controller submitted to a controller (R87): it
joins the queue, displaces the POLL of a full queue, or waits. -/
def TelegramController.submit (c : TelegramController) (t : Telegram) : TelegramController :=
  if c.queue.length < Config.maxQueued then { c with queue := enqueue t c.queue }
  else if c.queue.any (·.isPoll) then { c with queue := enqueue t (c.queue.filter fun u => !u.isPoll) }
  else { c with waitLine := enqueue t c.waitLine }

/-- A telegram submitted on a pair. Only a DRIVING pair takes one (R96). -/
def State.submit (s : State) (p : Pair) (t : Telegram) : State :=
  if s.driving p then s.setTc p ((s.tc p).submit t) else s

/-- The head of the wait line enters the queue while there is a place (R87). The first argument is the
wait line, the second the queue; the answer is the queue, then what still waits. -/
def fillQueue : List Telegram → List Telegram → List Telegram × List Telegram
  | [], q => (q, [])
  | w :: rest, q => if q.length < Config.maxQueued then fillQueue rest (enqueue w q) else (q, w :: rest)

/-- A controller whose wait line has moved up as far as the queue has room (R87). -/
def TelegramController.fill (c : TelegramController) : TelegramController :=
  let f := fillQueue c.waitLine c.queue
  { c with queue := f.1, waitLine := f.2 }

/-! ### Sending (R88) -/

/-- Whole milliseconds, rounded up, of a delay in µs. -/
def msUp (d : Nat) : Nat := (d + 999) / 1000

/-- The reply deadline of a telegram to a station, in ms from its sending (R88). -/
def State.deadlineTo (s : State) (r : Station) : Nat := msUp r.delay + Config.telegramTime + s.line.turnaround

/-- A telegram launched with the next tag, the address in force, this part's end and its deadline
(R88, R93). -/
def State.launch (s : State) (p : Pair) (t : Telegram) (r : Station) (attempt : Nat) : State :=
  let c := s.tc p
  let tag := (c.tagCounter + 1) % 16
  s.setTc p { c with
    tagCounter := tag,
    outstanding := some { telegram := t, address := r.address, tag := tag, origin := s.line.terminal,
                          attempt := attempt, deadline := s.deadlineTo r } }

/-- The head of the queue is sent when the pair is DRIVING and nothing is outstanding (R88). A queued
telegram's station is always enlisted (R21, R22); one whose station is not would leave unsent (log 30). -/
def State.sendHead (s : State) (p : Pair) : State :=
  let c := s.tc p
  match s.driving p, c.outstanding, c.queue with
  | true, none, t :: rest =>
    let s := s.setTc p { c with queue := rest }
    match s.station? t.dest with
    | some r => s.launch p t r 1
    | none => s
  | _, _, _ => s

/-- The wait line of a pair moved up (R87). -/
def State.fillPair (s : State) (p : Pair) : State := s.setTc p (s.tc p).fill

/-! ### The Poll Sweeper (R100, R101) -/

/-- A pair can poll a station: DRIVING and reaching it, and for a station of branch b with unit b's
connection CONNECTED (R101). -/
def State.canPoll (s : State) (r : Station) (p : Pair) : Bool :=
  s.driving p && r.reachedBy p &&
  match r.segment with
  | .trunk => true
  | .branch b => s.connectionOf b p == some .connected

/-- The poll pair of a station: the lowest-numbered pair that can poll it (R101). -/
def State.pollPair? (s : State) (r : Station) : Option Pair := allPairs.find? (s.canPoll r)

/-- A pair's cursor can advance (R101). -/
def State.cursorFree (s : State) (p : Pair) : Bool :=
  let c := s.tc p
  s.sweeper.running && s.driving p && !(c.queue.any (·.isPoll)) && c.queue.length < Config.maxQueued &&
  c.waitLine.isEmpty

/-- A pair's cursor written. -/
def State.setCursor (s : State) (p : Pair) (v : Nat) : State :=
  s.setSweeper { s.sweeper with cursors := s.sweeper.cursors.set p v }

/-- A pair's cursor advances: it queues the POLL of the next station whose poll pair is this pair, or
passes to the end (R101). -/
def State.advanceCursor (s : State) (p : Pair) : State :=
  if s.cursorFree p then
    match s.table.stations.find? fun r =>
        decide (s.sweeper.cursors.get p ≤ r.number) && s.pollPair? r == some p with
    | some r =>
      (s.setTc p { s.tc p with
        queue := enqueue { dest := r.number, kind := .status, submitter := .sweep } (s.tc p).queue }).setCursor p (r.number + 1)
    | none => s.setCursor p 256
  else s

/-- What follows on a pair whenever its controller may have become free or a place may have freed: the
wait line moves up, the head is sent, the cursor advances (R87, R88, R101). Sending can happen once, and
the cursor can move before it and after it. -/
def State.pump (s : State) (p : Pair) : State :=
  let s := ((s.fillPair p).sendHead p).fillPair p
  let s := (s.advanceCursor p).sendHead p
  (s.fillPair p).advanceCursor p

/-- Every pair pumped, in increasing number. -/
def State.pumpAll (s : State) : State := allPairs.foldl State.pump s

/-- A pair's cursor does not hold the sweep open: the pair is not DRIVING, or its cursor has passed the
highest enlisted station number (R100). -/
def State.cursorPassed (s : State) (p : Pair) : Bool :=
  !s.driving p || s.table.stations.all fun r => r.number < s.sweeper.cursors.get p

/-- The sweep ends (R100). -/
def State.sweepOver (s : State) : Bool := s.sweeper.running && allPairs.all s.cursorPassed

/-- A sweep starts with every cursor at 0 (R100). -/
def State.startSweep (s : State) : State :=
  s.setSweeper { s.sweeper with running := true, cursors := Oct.fill 0 }

/-- A sweep that is over stops. -/
def State.stopIfOver (s : State) : State :=
  if s.sweepOver then s.setSweeper { s.sweeper with running := false } else s

/-- The close of every event: each pair is pumped, and a sweep that is over ends, or gives way to the
pending one (R100). -/
def State.settle (s : State) : State :=
  let s := s.pumpAll
  if s.sweepOver && s.sweeper.sweepPending then
    ((s.setSweeper { s.sweeper with sweepPending := false }).startSweep.pumpAll).stopIfOver
  else s.stopIfOver

/-! ### The state in force (R91) -/

/-- The measurements and counts of a pair part cleared by a branch cut, before its health is set (R91). -/
def PairPart.cleared (q : PairPart) : PairPart :=
  { q with latest := none, step := none, confirm := 0, missing := 0 }

/-- The branch-cut clearing of one station on a pair (R91). -/
def State.clearPart (s : State) (p : Pair) (n : Nat) : State :=
  (s.updatePart n p PairPart.cleared).refreshHealth n p

/-- The branch-cut clearing: every station of the branch that the pair reaches (R91). -/
def State.clearBranch (s : State) (p : Pair) (b : Branch) : State :=
  ((s.table.stations.filter fun r => r.segment == .branch b && r.reachedBy p).map (·.number)).foldl
    (State.clearPart · p) s

/-- A branching unit's branch connection on a pair written, with the clearing when it changes to CUT
(R91). -/
def State.writeConnection (s : State) (n : Nat) (p : Pair) (b : Branch) (v : Connection) : State :=
  let before := s.connectionOf b p
  let s := s.updatePart n p fun q => { q with connection := some v }
  if v == .cut && before != some .cut then s.clearBranch p b else s

/-- A repeater's isolation state on a pair written. -/
def State.writeIsolation (s : State) (n : Nat) (p : Pair) (v : Isolation) : State :=
  s.updatePart n p fun q => { q with isolation := v }

/-- The state in force that a reply reports, written into the pair part: isolation state or branch
connection (R91). A report that does not fit the station's kind writes nothing (log 20). -/
def State.writeInForce (s : State) (n : Nat) (p : Pair) (st : StateInForce) : State :=
  match s.station? n with
  | none => s
  | some r =>
    match r.kind, st with
    | .repeater, .repeater i => s.writeIsolation n p i.toIsolation
    | .branching b, .branching c _ => s.writeConnection n p b c.toConnection
    | _, _ => s

/-- The telegram commands a state that a lost exchange leaves unknown: ISOLATE, RESTORE, CUT, RECONNECT
(R94, R96). -/
def State.markUncertain (s : State) (n : Nat) (p : Pair) (k : TelegramKind) : State :=
  match s.station? n with
  | none => s
  | some r =>
    match r.kind, k with
    | .repeater, .isolateSpare => s.writeIsolation n p .uncertain
    | .repeater, .isolateLimit => s.writeIsolation n p .uncertain
    | .repeater, .restore => s.writeIsolation n p .uncertain
    | .branching b, .cut => s.writeConnection n p b .uncertain
    | .branching b, .reconnect => s.writeConnection n p b .uncertain
    | _, _ => s

/-! ### Operator outcomes (R5, R92, R94, R96) -/

/-- The operator telegram's action is still the one in force on its pair part (R5). -/
def State.operatorCurrent (s : State) (p : Pair) (t : Telegram) : Bool :=
  match t.submitter with
  | .operator issue => (s.part? t.dest p).any fun q => q.issue == issue
  | _ => false

/-- The operator outcome of a telegram's pair part written. -/
def State.writeOperator (s : State) (p : Pair) (t : Telegram) (o : OperatorOutcome) : State :=
  s.updatePart t.dest p fun q => { q with operator := q.operator.map fun a => { a with outcome := o } }

/-- The end of an operator telegram: its outcome, and OPERATOR_DONE raised, while its issue number is the
one in force (R92, R94). -/
def State.operatorDone (s : State) (p : Pair) (t : Telegram) (o : OperatorOutcome) : State :=
  if s.operatorCurrent p t then (s.writeOperator p t o).raise .operatorDone else s

/-! ### Abandonment (R96) and overhearing (R98) -/

/-- The operator outcomes of the telegrams become ABANDONED where they are in force (R96). -/
def State.abandonOutcomes (s : State) (p : Pair) (l : List Telegram) : State :=
  (l.filter (s.operatorCurrent p)).foldl (fun s t => s.writeOperator p t .abandoned) s

/-- The telegrams whose operator outcomes an abandonment ends: the outstanding one, then the queued. -/
def TelegramController.operatorWork (c : TelegramController) : List Telegram :=
  (match c.outstanding with
   | some o => [o.telegram]
   | none => []) ++ c.queue

/-- A pair's controller ends all its own work on the pair's leaving DRIVING (R96). `keep` says that the
pair goes to LISTENING, so the abandoned exchange is kept. -/
def State.abandonTelegrams (s : State) (p : Pair) (keep : Bool) : State :=
  let c := s.tc p
  let hit := c.operatorWork.filter (s.operatorCurrent p)
  let s := match c.outstanding with
    | some o => s.markUncertain o.telegram.dest p o.telegram.kind
    | none => s
  let s := s.setTc p { c with
    queue := [], waitLine := [], outstanding := none,
    abandoned := match keep, c.outstanding with
      | true, some o => some { address := o.address, tag := o.tag, kind := o.telegram.kind }
      | _, _ => none }
  let s := s.abandonOutcomes p hit
  if hit.isEmpty then s else s.raise .operatorDone

/-- An overheard telegram replaces the station's earlier one, in increasing station number (R98). -/
def recordOverheard (h : Overheard) : List Overheard → List Overheard
  | [] => [h]
  | g :: rest =>
    if h.station < g.station then h :: g :: rest
    else if h.station == g.station then h :: rest
    else g :: recordOverheard h rest

/-- A far-end telegram overheard on a LISTENING pair (R98). -/
def State.overhear (s : State) (p : Pair) (address tag : Nat) (k : TelegramKind) : State :=
  match s.byAddress? address with
  | none => s
  | some r =>
    s.setTc p { s.tc p with
      overheard := recordOverheard { station := r.number, kind := k, tag := tag } (s.tc p).overheard }

/-- The overheard telegrams cleared and the abandoned exchange dropped, on leaving LISTENING (R97, R98,
R118). -/
def State.endListening (s : State) (p : Pair) : State :=
  s.setTc p { s.tc p with overheard := [], abandoned := none }

end Sys2Proof.Machine
end

