-- ==== Sys2Proof/Machine/Survey.lean ====
section
/-! DEFINITION. The Correlator Pool's requests and grants, and the Survey Controllers: planning at a round
boundary, the end of steering, focused requests, entering and leaving DRIVING
(02_views_and_survey_rounds.md, 03_the_correlator_pool.md). -/

namespace Sys2Proof.Machine

/-! ### Presented requests and grants (R50 to R53, R60) -/

/-- The correlators in increasing number. -/
def allCorrelators : List CorrelatorNo := [0, 1, 2, 3]

/-- A request placed among the presented ones, in increasing pair number; one per pair (R50). -/
def insertRequest (p : Pair) (k : RoundKind) : List (Pair × RoundKind) → List (Pair × RoundKind)
  | [] => [(p, k)]
  | e :: rest =>
    if p < e.1 then (p, k) :: e :: rest
    else if p == e.1 then (p, k) :: rest
    else e :: insertRequest p k rest

/-- A pair's request withdrawn from the presented set (R50). -/
def State.unpresent (s : State) (p : Pair) : State :=
  s.setPool { s.pool with presented := s.pool.presented.filter fun e => e.1 != p }

/-- The lowest-numbered FREE correlator (R51). -/
def CorrelatorPool.freeCorrelator (c : CorrelatorPool) : Option CorrelatorNo :=
  allCorrelators.find? fun k => c.correlators.get k == .free

/-- The pairs in rotating order from a pair (00_scope.md, "Rotating order"). -/
def rotatingFrom (p : Pair) : List Pair := [1, 2, 3, 4, 5, 6, 7, 0].map fun i => p + i

/-- The requests that a grant may choose from: the FOCUSED ones when there is one, else all (R51). -/
def CorrelatorPool.allowed (c : CorrelatorPool) : List (Pair × RoundKind) :=
  if c.presented.any (·.2 == .focused) then c.presented.filter (·.2 == .focused) else c.presented

/-- The request that a grant chooses (R51). -/
def CorrelatorPool.chosen (c : CorrelatorPool) : Option (Pair × RoundKind) :=
  (rotatingFrom c.lastGranted).findSome? fun p => c.allowed.find? (·.1 == p)

/-- The context of a level written by a function; an empty one stays empty. -/
def State.updateContext (s : State) (l : Level) (f : Context → Context) : State :=
  s.setContext l ((s.context l).map f)

/-- The grant of a correlator to a pair's request (R51, R53): the round starts with its definition and
snapshot, the pair becomes RUNNING, a focused request leaves the controller and its context measures
(R42, R161). -/
def State.grantTo (s : State) (k : CorrelatorNo) (p : Pair) (kind : RoundKind) : State :=
  let d := s.roundDefinition p
  let round : RoundInCorrelator := { definition := d, snapshot := s.snapshotOf d.view, train := [] }
  let c := s.sc p
  let s := s.setPool { s.pool with
    correlators := s.pool.correlators.set k (.running round 0 s.line.terminal),
    presented := s.pool.presented.filter fun e => e.1 != p,
    lastGranted := if kind == .regular then p else s.pool.lastGranted }
  let s := s.setSc p { c with
    state := .running, lastView := some d.view,
    focused := if kind == .focused then none else c.focused }
  match d.focus with
  | some (_, l) => s.updateContext l fun c => { c with phase := .measuring }
  | none => s

/-- One grant, when a correlator is FREE and a request is presented (R51). -/
def State.grantOne (s : State) : State :=
  match s.pool.freeCorrelator, s.pool.chosen with
  | some k, some (p, kind) => s.grantTo k p kind
  | _, _ => s

/-- Grants until no correlator is FREE or no request is presented: at most four (R51). -/
def State.grantAll (s : State) : State := s.grantOne.grantOne.grantOne.grantOne

/-- A pair's request presented, and the grants that follow (R50, R51). -/
def State.present (s : State) (p : Pair) (k : RoundKind) : State :=
  (s.setPool { s.pool with presented := insertRequest p k s.pool.presented }).grantAll

/-- The correlator serves the pair (R49). -/
def Correlator.serves (p : Pair) : Correlator → Bool
  | .free => false
  | .running r _ _ => r.definition.pair == p
  | .ready r => r.definition.pair == p

/-- A correlator freed when it serves the pair (R60). -/
def Correlator.freeIf (p : Pair) (c : Correlator) : Correlator := if c.serves p then .free else c

/-- The Pool ends a pair's work when the pair leaves DRIVING, and grants what it freed (R60). -/
def State.abortRounds (s : State) (p : Pair) : State :=
  let c := s.pool.correlators
  (s.setPool { s.pool with
    correlators := ⟨c.q0.freeIf p, c.q1.freeIf p, c.q2.freeIf p, c.q3.freeIf p⟩,
    queue := s.pool.queue.filter fun r => r.pair != p,
    presented := s.pool.presented.filter fun e => e.1 != p }).grantAll

/-! ### Planning (R31 to R35, R40, R42 to R44) -/

/-- The empty TRUNK view: the request is held back (R40). -/
def State.heldBack (s : State) (v : View) : Bool := v == .trunk && (s.index .trunk).isEmpty

/-- The controller asks the Pool: WAITING, with its request presented unless it is held back (R31, R40). -/
def State.askPool (s : State) (p : Pair) : State :=
  let c := s.sc p
  let s := s.setSc p { c with state := .waiting }
  if s.heldBack (c.roundView.getD .trunk) then s else s.present p (c.roundKind.getD .regular)

/-- The steering telegrams of a plan submitted, or a correlator asked for when there is none (R31). -/
def State.runPlan (s : State) (p : Pair) (plan : List Telegram) : State :=
  if plan.isEmpty then s.askPool p
  else plan.foldl (State.submit · p) (s.setSc p { s.sc p with state := .steering })

/-- The plan of a regular round (R31, R32). `move` says that the rotation moves on in any case (R35),
`first` that this is the first boundary after entering DRIVING (R30). -/
def State.planRegular (s : State) (p : Pair) (move first : Bool) : State :=
  let c := s.sc p
  let moves := move || (s.settings.get p).dwell ≤ c.dwellCount || !s.available p c.rotation
  let v := if moves then s.nextView p c.rotation else c.rotation
  let entry := v == .trunk && (first || moves || c.lastView != some .trunk)
  let s := s.setSc p { c with
    rotation := v, dwellCount := if moves then 0 else c.dwellCount,
    roundView := some v, roundKind := some .regular, planStale := false }
  s.runPlan p (s.steeringPlan p v entry)

/-- The first test of a focused request, when it is taken (R43). -/
def State.canTake (s : State) (p : Pair) (f : FocusedRequest) : Bool :=
  s.available p f.view &&
  match (s.viewStations f.view).find? (·.number == f.station) with
  | none => false
  | some r => !(f.view == .trunk && s.isShadowedUnknown p f.view r)

/-- The view's own unit stands at BRANCH on the pair; TRUNK needs none (R35, R43). -/
def State.viewTurned (s : State) (p : Pair) : View → Bool
  | .trunk => true
  | .branch b =>
    match s.unit? b with
    | none => false
    | some u => (s.sc p).steeringOf u.number == some .branch

/-- The second test of a focused request, when its steering has ended (R43). -/
def State.canSee (s : State) (p : Pair) (f : FocusedRequest) : Bool :=
  s.viewTurned p f.view &&
  match (s.viewStations f.view).find? (·.number == f.station) with
  | none => false
  | some r => !s.isShadowed p f.view r

/-- A focused request refused UNREACHABLE: it leaves the pair, and a regular round is planned (R43). The
level is that of the context to be told (log 16). -/
def State.refuseFocused (s : State) (p : Pair) (f : FocusedRequest) : State × Option Level :=
  ((s.setSc p { s.sc p with focused := none }).planRegular p false false, some f.level)

/-- A taken request whose steering has ended: the second test, then the Pool (R42, R43). -/
def State.askFocused (s : State) (p : Pair) (f : FocusedRequest) : State × Option Level :=
  if s.canSee p f then (s.askPool p, none) else s.refuseFocused p f

/-- The steering of a taken request: what its view's plan still needs (R34, R42). -/
def State.steerFocused (s : State) (p : Pair) (f : FocusedRequest) : State × Option Level :=
  let c := s.sc p
  let s := s.setSc p { c with planStale := false }
  let plan := s.steeringPlan p f.view (f.view == .trunk && c.lastView != some .trunk)
  if plan.isEmpty then s.askFocused p f else (s.runPlan p plan, none)

/-- The controller with a request taken: the round is FOCUSED, in the view named (R31, R42). -/
def SurveyController.take (c : SurveyController) (f : FocusedRequest) : SurveyController :=
  { c with focused := some { f with taken := true }, roundView := some f.view, roundKind := some .focused }

/-- A focused request taken at a boundary (R31, R42, R43). -/
def State.takeFocused (s : State) (p : Pair) (f : FocusedRequest) : State × Option Level :=
  if s.canTake p f then (s.setSc p ((s.sc p).take f)).steerFocused p f else s.refuseFocused p f

/-- The plan at a round boundary of a DRIVING pair (R31): a focused request first. -/
def State.plan (s : State) (p : Pair) : State × Option Level :=
  if s.driving p then
    match (s.sc p).focused with
    | some f => s.takeFocused p f
    | none => (s.planRegular p false false, none)
  else (s, none)

/-- A WAITING pair plans again (R40), "as at a boundary": from the dwell count and rotation view as they stand, by
R31 and R32. When SETPAIR has lowered the dwell to the count reached, or the rotation view has become unavailable,
the rotation moves on in this plan and the dwell count becomes 0; that R40's "stand as they were" does not keep it
from that is the model's reading (log 36). -/
def State.replan (s : State) (p : Pair) : State × Option Level :=
  if (s.sc p).state == .waiting then (s.unpresent p).plan p else (s, none)

/-- The pair's controller has a steering telegram queued, waiting or outstanding (R29). -/
def State.steersInFlight (s : State) (p : Pair) : List Telegram :=
  let c := s.tc p
  (c.queue ++ c.waitLine ++ (match c.outstanding with
    | some o => [o.telegram]
    | none => [])).filter (·.isSteer)

/-- What follows the end of a steering exchange (R35): when it was the last of the plan, the controller
tests the round view, or makes the plan that now stands (R42, R44; log 13). -/
def State.steerEnded (s : State) (p : Pair) : State × Option Level :=
  let c := s.sc p
  if c.state == .steering && (s.steersInFlight p).isEmpty then
    match c.focused, c.roundKind with
    | some f, some .focused => if c.planStale then s.steerFocused p f else s.askFocused p f
    | _, _ =>
      if c.planStale then (s.planRegular p false false, none)
      else if s.viewTurned p (c.roundView.getD .trunk) then (s.askPool p, none)
      else (s.planRegular p true false, none)
  else (s, none)

/-- A focused request arrives at the controller of its pair (R42): held pending, or taken at once; refused
INTERRUPTED on a pair that does not drive, UNREACHABLE by R43. After a refusal a regular round is planned at the
same boundary (R31, R43): at once in WAITING; in STEERING when the exchanges in flight have ended, as for a
request that is taken or withdrawn there (log 13). -/
def State.requestFocus (s : State) (p : Pair) (f : FocusedRequest) : State × Option Outcome :=
  let c := s.sc p
  if s.driving p then
    match c.state with
    | .waiting =>
      match ((s.unpresent p).takeFocused p f) with
      | (s, some _) => (s, some .unreachable)
      | (s, none) => (s, none)
    | .steering =>
      if s.canTake p f then (s.setSc p { c.take f with planStale := true }, none)
      else (s.setSc p { c with planStale := true }, some .unreachable)
    | _ => (s.setSc p { c with focused := some { f with taken := false } }, none)
  else (s, some .interrupted)

/-- A suspended context's request, not yet granted, is withdrawn (R44). While the steering in flight runs to its
end the round view shows the rotation view and the round kind REGULAR: the spec is silent on both until the
controller plans, and this is the model's choice (log 38). -/
def State.withdrawFocus (s : State) (p : Pair) (l : Level) : State :=
  let c := s.sc p
  match c.focused with
  | none => s
  | some f =>
    if f.level == l then
      let c := { c with focused := none }
      match c.state, f.taken with
      | .waiting, true => ((s.setSc p c).unpresent p).planRegular p false false
      | .steering, true =>
        s.setSc p { c with roundView := some c.rotation, roundKind := some .regular, planStale := true }
      | _, _ => s.setSc p c
    else s

/-! ### Entering and leaving DRIVING (R30, R46) -/

/-- The survey starts afresh; the role is DRIVING already (R30). -/
def State.startSurvey (s : State) (p : Pair) : State :=
  let c := s.sc p
  (s.setSc p { c with
    steering := c.steering.map fun e => (e.1, Steering.unknown), rotation := .trunk, dwellCount := 0,
    focused := none }).planRegular p false true

/-- The survey stops: units whose STEER was in flight become UNKNOWN, a focused request goes, the state
is HALTED (R46). -/
def State.haltSurvey (s : State) (p : Pair) : State :=
  let c := s.sc p
  let lost := (s.steersInFlight p).map (·.dest)
  s.setSc p { c with
    state := .halted, roundView := none, roundKind := none, focused := none, planStale := false,
    steering := c.steering.map fun e => if lost.contains e.1 then (e.1, Steering.unknown) else e }

end Sys2Proof.Machine
end

