-- ==== Sys2Proof/Machine/Sequencer.lean ====
section
/-! DEFINITION. The Isolation Sequencer: the checks of VERIFY and CONFIRM, the action choice, CLAIM, ACT,
leaving service, suspension, resumption and interruption (10_isolation_sequencing.md). -/

namespace Sys2Proof.Machine

/-- What a piece of the working context's work comes to: the state, and the outcome that the case leaves
service with, when it does (R166). -/
abbrev Work := State × Option Outcome

/-! ### Contexts (R157) -/

/-- The context enters a step: the try count becomes 0 (R157). -/
def Context.enter (c : Context) (st : ContextStep) : Context := { c with step := st, tries := 0 }

/-- The context makes a request and waits in a phase; the try count goes up, saturating (R157). -/
def Context.asks (c : Context) (ph : ContextPhase) : Context :=
  { c with phase := ph, tries := if c.tries < 255 then c.tries + 1 else 255 }

/-- A context just occupied with a case (R158). -/
def Context.occupied (k : Case) : Context :=
  { caseNumber := k.number, step := .verify, phase := .asked, tries := 0, recorded := none, timer := none,
    chosen := none }

/-- The context and the case of the working context, when there is one (R157). -/
def State.workingCase? (s : State) : Option (Context × Case) :=
  match s.topCase? with
  | none => none
  | some k =>
    match s.context k.level with
    | some c => if c.caseNumber == k.number then some (c, k) else none
    | none => none

/-! ### The check (R159, R160) -/

/-- The causes call for the round form of the check (R159). -/
def Evidence.roundForm (e : Evidence) : Bool := e.has .step || e.has .lost || e.has .stray

/-- A telegram of a context can reach the station on the pair: a station of branch b only while unit b's
connection is CONNECTED (R159). -/
def State.telegramReaches (s : State) (r : Station) (p : Pair) : Bool :=
  match r.segment with
  | .trunk => true
  | .branch b => s.connectionOf b p == some .connected

/-- The working context makes its focused request: ASKED, on the case's pair, in the view that contains
the station (R159). -/
def State.askRound (s : State) (k : Case) (r : Station) : Work :=
  (s.updateContext k.level (·.asks .asked)).requestFocus k.pair
    { view := r.segment, station := r.number, level := k.level, taken := false }

/-- The working context submits a telegram on the case's pair: SENT; or the case ends UNREACHABLE
(R159, R164). A case that ends so in ACT or CONFIRM keeps the claim and the action taken that it gained in this
service, although the table of 10.7 has both "as before" (log 42). -/
def State.sendFor (s : State) (k : Case) (r : Station) (kind : TelegramKind) : Work :=
  if s.telegramReaches r k.pair then
    ((s.updateContext k.level (·.asks .sent)).submit k.pair
      { dest := r.number, kind := kind, submitter := .context k.level }, none)
  else (s, some .unreachable)

/-- The start of VERIFY or CONFIRM: the form from the causes as they stand, and its request (R159, R165).
A case's station is always enlisted (R21, R22; log 30). -/
def State.startCheck (s : State) (k : Case) (st : ContextStep) : Work :=
  let s := s.updateContext k.level (·.enter st)
  match s.station? k.station with
  | none => (s, some .unreachable)
  | some r => if k.evidence.roundForm then s.askRound k r else s.sendFor k r .status

/-- Two numbers differ by no more than a third. -/
def near (a b w : Nat) : Bool := a ≤ b + w && b ≤ a + w

/-- STEP, LOST or STRAY holds by a finding (R160). -/
def State.findingHolds (s : State) (k : Case) (f : Finding) : Bool :=
  let set := s.settings.get k.pair
  let stepHolds := !f.echo || f.step.any fun v => set.stepThreshold ≤ (v.natAbs : Int)
  let strayHolds := match k.evidence.stray, f.stray with
    | some (d, _), some (d', m) =>
      decide (set.strayThreshold ≤ m) && (s.station? k.station).any fun r => near d d' r.window
    | _, _ => false
  (k.evidence.has .step && stepHolds) || (k.evidence.has .lost && !f.echo) || strayHolds

/-- The two indicators of a pair (R103). -/
def pairIndicators (p : Pair) : AlarmWord := 3#16 <<< (2 * p.val)

/-- The indicators that belong to a pair that reaches the station (R103). -/
def Station.ownIndicators (r : Station) : AlarmWord :=
  r.parts.foldl (fun w q => w ||| pairIndicators q.pair) 0#16

/-- The watched indicators of a station (R103). -/
def Station.watched (r : Station) : AlarmWord := ~~~r.mask &&& r.ownIndicators

/-- Two words have the same values in the indicators of a mask (R103). -/
def equalIn (mask a b : AlarmWord) : Bool := (a ^^^ b) &&& mask == 0#16

/-- ALARM holds by a STATUS REPLY: the watched indicators of the case's pair equal those of the latched
word (R160). -/
def State.alarmHolds (s : State) (k : Case) (w : AlarmWord) : Bool :=
  k.evidence.has .alarm &&
  match s.station? k.station with
  | none => false
  | some r =>
    match r.latched with
    | none => false
    | some l => equalIn (r.watched &&& pairIndicators k.pair) w l

/-- The check is positive: a tested cause still holds (R160). -/
def State.positive (s : State) (k : Case) : ContextEvent → Bool
  | .finding f => s.findingHolds k f
  | .statusReply w _ => s.alarmHolds k w
  | .failed => k.evidence.has .silent
  | _ => false

/-! ### ACT and CLAIM (R163, R164) -/

/-- The telegram of a command (R164). -/
def Command.telegram : Command → TelegramKind
  | .spare => .isolateSpare
  | .limit => .isolateLimit
  | .cut => .cut

/-- The state in force is the one that the command sets (R164). -/
def Command.setsState : Command → StateInForce → Bool
  | .spare, .repeater .spare => true
  | .limit, .repeater .limit => true
  | .cut, .branching .cut _ => true
  | _, _ => false

/-- The station that a command of the case goes to: the case's station, or for CUT the unit that serves
the station's segment (R163). -/
def State.commandTarget (s : State) (k : Case) (cmd : Command) : Option Station :=
  match s.station? k.station with
  | none => none
  | some r =>
    match cmd, r.segment with
    | .cut, .branch b => s.unit? b
    | .cut, .trunk => none
    | _, _ => some r

/-- The ACT step: the command submitted (R164). -/
def State.act (s : State) (k : Case) (cmd : Command) (target : Station) : Work :=
  (s.updateContext k.level (·.enter .act)).sendFor k target cmd.telegram

/-- The working context asks for its AUTO claim: GRANTED leads to ACT, BUSY or FULL to CLAIM WAIT, whose
timer starts on the first such answer (R163). -/
def State.askClaim (s : State) (k : Case) (cmd : Command) (target : Station) : Work :=
  match s.askAuto k.number target.number k.pair with
  | (s, .granted _) =>
    (s.updateContext k.level fun c => { c with timer := none }).act k cmd target
  | (s, _) =>
    (s.updateContext k.level fun c =>
      { c.asks .claimWait with timer := some (c.timer.getD s.line.claimWait) }, none)

/-- The claim that the case holds is the scope that its action needs (R163). -/
def State.claimFits (s : State) (k : Case) (n : Nat) (target : Station) : Bool :=
  (s.claim? n).any fun c => c.station == target.number && c.pair == .one k.pair

/-- The CLAIM step (R163). -/
def State.startClaim (s : State) (k : Case) (cmd : Command) (target : Station) : Work :=
  let s := s.updateContext k.level fun c => { c.enter .claim with chosen := some cmd }
  match k.claim with
  | none => s.askClaim k cmd target
  | some n => if s.claimFits k n target then s.act k cmd target else (s, some .blocked)

/-! ### The action choice (R162) -/

/-- The command that an action of the map comes to at the case's station; none when it is NONE or does not
fit (R162). -/
def MapAction.command (a : MapAction) (r : Station) : Option Command :=
  match a, r.kind, r.segment with
  | .spare, .repeater, _ => some .spare
  | .limit, .repeater, _ => some .limit
  | .cutBranch, _, .branch _ => some .cut
  | _, _, _ => Option.none

/-- The action choice after a positive check in VERIFY (R162). -/
def State.chooseAction (s : State) (k : Case) : Work :=
  match decidingCause s.arbiter.policy.levelMap k.evidence, s.station? k.station with
  | some c, some r =>
    match (s.arbiter.policy.actionMap.get c).command r, s.arbiter.policy.modes.get k.level with
    | some cmd, .auto =>
      match s.commandTarget k cmd with
      | some target => s.startClaim k cmd target
      | none => (s, some .reported)
    | _, _ => (s, some .reported)
  | _, _ => (s, some .reported)

/-! ### Events of the working context (R160 to R165) -/

/-- After an ACK of the commanded state: CONFIRM, or ISOLATED at once after CUT (R164, R165). -/
def State.afterAct (s : State) (k : Case) (cmd : Command) : Work :=
  match cmd with
  | .cut => (s, some .isolated)
  | _ => s.startCheck k .confirm

/-- The end of the command's exchange (R164). -/
def State.endAct (s : State) (c : Context) (k : Case) : ContextEvent → Work
  | .ack st =>
    match c.chosen with
    | some cmd => if cmd.setsState st then s.afterAct k cmd else (s, some .refused)
    | none => (s, some .refused)
  | .nak _ _ => (s, some .refused)
  | .failed => (s, some .failed)
  | _ => (s, none)

/-- An event taken by the working context, by its step (R160 to R165, R169). -/
def State.takeEvent (s : State) (c : Context) (k : Case) (e : ContextEvent) : Work :=
  match c.step with
  | .verify => if s.positive k e then s.chooseAction k else (s, some .unconfirmed)
  | .claim => (s, some .blocked)
  | .act => s.endAct c k e
  | .confirm => (s, some (if s.positive k e then .ineffective else .isolated))

/-! ### Start, resumption and leaving service (R158, R166, R169) -/

/-- A context that starts at CONFIRM after CUT reads the branch connection of the claim's unit (R165). A
case with an action taken holds its claim (R146; log 30). -/
def State.cutInForce (s : State) (k : Case) : Bool :=
  match k.claim with
  | none => false
  | some n =>
    match s.claim? n with
    | none => false
    | some c =>
      match s.part? c.station k.pair with
      | none => false
      | some q => q.connection == some .cut

/-- The context of a granted case starts (R158, R165). -/
def State.startContext (s : State) (k : Case) : Work :=
  let s := s.setContext k.level (some (Context.occupied k))
  match k.actionTaken with
  | none => s.startCheck k .verify
  | some .cut => (s, some (if s.cutInForce k then .isolated else .ineffective))
  | some _ => s.startCheck k .confirm

/-- The working context asks for its claim again, when it waits in CLAIM WAIT (R163). -/
def State.askAgain (s : State) : Work :=
  match s.workingCase? with
  | none => (s, none)
  | some (c, k) =>
    match c.phase, c.chosen with
    | .claimWait, some cmd =>
      match s.commandTarget k cmd with
      | some target => s.askClaim k cmd target
      | none => (s, none)
    | _, _ => (s, none)

/-- The context of the case that has become ACTIVE again resumes (R169). -/
def State.resume (s : State) : Work :=
  match s.workingCase? with
  | none => (s, none)
  | some (c, k) =>
    match c.recorded with
    | some e => (s.updateContext k.level fun c => { c with recorded := none }).takeEvent c k e
    | none =>
      match c.phase with
      | .asked =>
        match s.station? k.station with
        | some r => s.askRound k r
        | none => (s, none)
      | .claimWait => s.askAgain
      | _ => (s, none)

/-- The work concluded: the case leaves service with its outcome, the next one resumes, and so on while
each ends in turn (R141, R166, R169). The number bounds the cases that can leave. -/
def concludeWithin : Nat → Work → State
  | 0, w => w.1
  | n + 1, w =>
    match w.2 with
    | none => w.1
    | some o => concludeWithin n (w.1.leaveService o).resume

/-- The work of the working context concluded. -/
def conclude (w : Work) : State := concludeWithin w.1.arbiter.stack.length w

/-! ### Events that reach a context from another block -/

/-- The action taken is written when an ACK of the commanded state reaches the context, working or
suspended (R164, R168). -/
def State.writeAction (s : State) (c : Context) : ContextEvent → State
  | .ack st =>
    match c.step, c.chosen with
    | .act, some cmd =>
      if cmd.setsState st then s.updateCase c.caseNumber fun k => { k with actionTaken := some cmd } else s
    | _, _ => s
  | _ => s

/-- An event reaches the context of a level (R161, R164, R168): the working context takes it, a suspended
one records it. -/
def State.tell (s : State) (l : Level) (e : ContextEvent) : State :=
  match s.context l with
  | none => s
  | some c =>
    let s := s.writeAction c e
    match s.working l, s.case? c.caseNumber with
    | true, some k => conclude (s.takeEvent c k e)
    | _, _ => s.updateContext l fun c => { c with recorded := some e }

/-- A focused request refused UNREACHABLE is told to its context (R161). Only the working context has
one. -/
def State.tellRefused (w : State × Option Level) : State :=
  match w.2 with
  | none => w.1
  | some l => if w.1.working l then conclude (w.1, some .unreachable) else w.1

/-- The Claim Table announces a release (R155): the working context in CLAIM WAIT asks again (R163). -/
def State.announce (s : State) : State := conclude s.askAgain

/-- A pair that is WAITING plans again, and a refusal is told (R40, R43). -/
def State.replanned (s : State) (p : Pair) : State := State.tellRefused (s.replan p)

/-- The context on top is suspended: a focused request not yet granted leaves its controller (R44,
R167). -/
def State.suspendWork (s : State) : State :=
  match s.workingCase? with
  | none => s
  | some (c, k) => if c.phase == .asked then s.withdrawFocus k.pair k.level else s

/-- The grant of a case (R140, R158, R167). -/
def State.grantCase (s : State) (k : Case) : State :=
  conclude ((s.suspendWork.pushCase k).startContext { k with state := .active })

/-- The pair's cases in service end INTERRUPTED, and a new top resumes (R142, R169, R171). -/
def State.interrupt (s : State) (p : Pair) : State :=
  let t := s.interruptCases p
  if t.arbiter.stack.head? == s.arbiter.stack.head? then t else conclude t.resume

end Sys2Proof.Machine
end

