-- ==== Sys2Proof/Machine/Alarm.lean ====
section
/-! DEFINITION. The Alarm Watch: the judgement of an alarm word, its triggers and the latched word
(06_alarm_watch.md). -/

namespace Sys2Proof.Machine

/-- A record with its candidate word absent, its match-seen mark clear and its watch armed: what a change
of watch settings leaves (R112), and RESTART (R113). -/
def Station.resetDebounce (r : Station) : Station :=
  { r with candidate := none, matchSeen := false, armed := true }

/-- What a judgement makes of the record, with the pairs that a trigger names, none when it does not
trigger (R106 to R109). -/
abbrev Judged := Station × Option (List Pair)

/-- The pairs with a watched indicator whose value differs between two words, or with a watched indicator
at all when the two words are complements (R103). In increasing number. -/
def Station.pairsDiffering (r : Station) (a b : AlarmWord) : List Pair :=
  allPairs.filter fun p => !equalIn (r.watched &&& pairIndicators p) a b

/-- The pairs that have at least one watched indicator (R108). -/
def Station.pairsWatched (r : Station) : List Pair := r.pairsDiffering 0#16 (~~~0#16)

/-- A judgement in EVENT mode (R107). -/
def Station.judgeEvent (r : Station) (w : AlarmWord) : Judged :=
  match r.settled with
  | none => ({ r with settled := some w }, none)
  | some settled =>
    if equalIn r.watched w settled then ({ r with candidate := none }, none)
    else if r.candidate.any fun c => equalIn r.watched w c then
      ({ r with settled := some w, latched := some w, candidate := none }, some (r.pairsDiffering settled w))
    else ({ r with candidate := some w }, none)

/-- A judgement in MATCH mode (R108). -/
def Station.judgeMatch (r : Station) (w : AlarmWord) : Judged :=
  let r := { r with settled := some w }
  if equalIn r.watched w r.pattern then
    if r.matchSeen then
      if r.armed then ({ r with armed := false, latched := some w }, some r.pairsWatched)
      else (r, none)
    else ({ r with matchSeen := true }, none)
  else ({ r with matchSeen := false, armed := true }, none)

/-- A judgement, by the watch mode (R106 to R108). -/
def Station.judge (r : Station) (w : AlarmWord) : Judged :=
  match r.mode with
  | .off => ({ r with settled := some w }, none)
  | .event => r.judgeEvent w
  | .matching => r.judgeMatch w

/-- Some open case of the station has ALARM among its causes (R111). -/
def State.hasAlarmCase (s : State) (n : Nat) : Bool :=
  s.arbiter.cases.any fun c => c.station == n && c.evidence.has .alarm

/-- The latched word is dropped when no open case of the station has ALARM among its causes (R111). -/
def State.dropLatch (s : State) (n : Nat) : State :=
  if s.hasAlarmCase n then s else s.updateStation n fun r => { r with latched := none }

/-- A trigger's case on one pair, with the pair's round counter as it stands (R110, R126). -/
def State.alarmCase (s : State) (n : Nat) (w : AlarmWord) (p : Pair) : State :=
  s.findCase n p (.alarm w) (s.sc p).roundCounter

/-- The alarm word of a STATUS REPLY judged (R104): the record written, then a trigger's cases in
increasing pair number, then the test of the latched word (R109 to R111). -/
def State.judgeWord (s : State) (n : Nat) (w : AlarmWord) : State :=
  match s.station? n with
  | none => s
  | some r =>
    let j := r.judge w
    let s := s.updateStation n fun _ => j.1
    match j.2 with
    | none => s
    | some pairs => (pairs.foldl (fun s p => s.alarmCase n w p) s).dropLatch n

end Sys2Proof.Machine
end

