-- ==== Sys2Proof/Machine/Assess.lean ====
section
/-! DEFINITION. Rounds and results: the listen spans of a correlator, the completion of a round, the taking
of a result and the Echo Assessor's judgement (03_the_correlator_pool.md, 04_echo_assessment.md). -/

namespace Sys2Proof.Machine

/-! ### Listen spans and completion (R53, R55 to R57) -/

/-- A level placed at a delay that the train does not hold yet, in increasing delay. -/
def placeLevel (d : Nat) (v : Int) : EchoTrain → EchoTrain
  | [] => [(d, v)]
  | e :: rest => if d < e.1 then (d, v) :: e :: rest else e :: placeLevel d v rest

/-- An echo added into the accumulated train at its delay (R53): to the level that stands there, the sum being a
free value; where nothing stands yet, the echo's own level (log 10). -/
def addLevel (d : Nat) (v : Int) (t : EchoTrain) : EchoTrain :=
  if t.any (·.1 == d) then
    t.map fun e => if e.1 == d then (d, Config.accumulatedLevel e.2 v) else e
  else placeLevel d v t

/-- The round's train after a listen span: the echoes that came back within the span, added delay by delay
(R53). -/
def RoundInCorrelator.hear (r : RoundInCorrelator) (train : EchoTrain) : RoundInCorrelator :=
  let heard := train.filter fun e => decide (e.1 ≤ r.definition.listenSpan)
  { r with train := heard.foldl (fun t e => addLevel e.1 e.2 t) r.train }

/-- The stronger of two peaks; on equal levels the first, at the smaller delay (R56, R57). -/
def stronger (best : Option (Nat × Int)) (e : Nat × Int) : Option (Nat × Int) :=
  match best with
  | none => some e
  | some b => if b.2 < e.2 then some e else some b

/-- The strongest peak of a train in increasing delay, over the delays of a region: above −80.0 dB, given
as at most 0.0 dB (R56, R57; log 11). -/
def strongestPeak (train : EchoTrain) (region : Nat → Bool) : Option (Nat × Int) :=
  ((train.filter fun e => region e.1 && decide (Config.peakFloor < e.2)).foldl stronger none).map
    fun e => (e.1, min e.2 0)

/-- The delay lies in the station's window, both edges included (R56). -/
def RoundStation.holds (r : RoundStation) (d : Nat) : Bool := near d r.delay r.window

/-- The echo entry of a visible station (R55, R56). -/
def RoundInCorrelator.entry (r : RoundInCorrelator) (st : RoundStation) : EchoEntry :=
  { station := st.number,
    peak := (strongestPeak r.train st.holds).map fun e => (e.2, (e.1 : Int) - (st.delay : Int)) }

/-- The search region of the candidate stray peak (R57). -/
def RoundDefinition.strayRegion (d : RoundDefinition) (delay : Nat) : Bool :=
  decide (Config.strayFrom ≤ delay) && decide (delay ≤ d.listenSpan) &&
  !(d.visible.any (·.holds delay)) && !(d.shadowed.any (·.holds delay)) &&
  match d.strayLimit with
  | none => true
  | some l => decide (delay ≤ l)

/-- The result of a completed round (R55). -/
def RoundInCorrelator.result (r : RoundInCorrelator) (k : CorrelatorNo) : RoundResult :=
  { correlator := k, pair := r.definition.pair, view := r.definition.view, kind := r.definition.kind,
    focus := r.definition.focus, snapshot := r.snapshot,
    entries := r.definition.visible.map r.entry,
    stray := strongestPeak r.train r.definition.strayRegion }

/-- The correlator written. -/
def State.setCorrelator (s : State) (k : CorrelatorNo) (c : Correlator) : State :=
  s.setPool { s.pool with correlators := s.pool.correlators.set k c }

/-- The completion of a round: READY, the result at the tail of the queue, the pair in RESULT (R55). -/
def State.completeRound (s : State) (k : CorrelatorNo) (r : RoundInCorrelator) : State :=
  let s := s.setCorrelator k (.ready r)
  let s := s.setPool { s.pool with queue := s.pool.queue ++ [r.result k] }
  s.setSc r.definition.pair { s.sc r.definition.pair with state := .result }

/-- A listen span of a RUNNING correlator expires (R53, R55): the train accumulates, and the next burst is
launched with the code of the end in force (R119, R178), or the round completes. -/
def State.expireSpan (s : State) (k : CorrelatorNo) (train : EchoTrain) : State :=
  match s.pool.correlators.get k with
  | .running r expired _ =>
    let r := r.hear train
    if expired + 1 < r.definition.bursts then s.setCorrelator k (.running r (expired + 1) s.line.terminal)
    else s.completeRound k r
  | _ => s

/-! ### The final content of a result (R58) -/

/-- The result compared with the echo floor and the stray threshold in force (R58). -/
def RoundResult.final (r : RoundResult) (set : PairSettings) : RoundResult :=
  { r with
    entries := r.entries.map fun e => { e with peak := e.peak.filter fun q => decide (set.echoFloor ≤ q.1) },
    stray := r.stray.filter fun q => decide (set.strayThreshold ≤ q.2) }

/-! ### Echo entries (R66 to R75) -/

/-- The pair part measured by an entry with an echo (R66, R68). -/
def PairPart.measured (q : PairPart) (gain offset : Int) (round : Nat) (prev : Option Int) : PairPart :=
  { q with
    latest := some { gain := gain, offset := offset, round := round }, missing := 0,
    step := q.baseline.map fun b => gain - b - prev.getD 0 }

/-- The pair part of an entry with no echo (R67, R68). -/
def PairPart.missed (q : PairPart) : PairPart :=
  { q with latest := none, step := none, missing := if q.missing < 15 then q.missing + 1 else 15 }

/-- The kinds of round for a station (R70). -/
inductive RoundIs where
  | exceeds (step : Int)
  | lost
  | clean
  | unjudged
deriving DecidableEq, Repr

/-- The judgement of a measured pair part (R70). -/
def PairPart.roundIs (q : PairPart) (threshold : Int) : RoundIs :=
  if q.latest.isNone then .lost
  else
    match q.step with
    | none => .unjudged
    | some v => if threshold ≤ (v.natAbs : Int) then .exceeds v else .clean

/-- The confirm count moved by a judgement (R70). -/
def RoundIs.confirm (r : RoundIs) (k count : Nat) : Nat :=
  match r with
  | .exceeds _ => min (count + 1) k
  | .lost => min (count + 1) k
  | .clean => 0
  | .unjudged => count

/-- The cause that a judgement brings, with the missing count just written (R73, R75). -/
def RoundIs.cause (r : RoundIs) (missing : Nat) : Option CauseFound :=
  match r with
  | .exceeds v => some (.step v)
  | .lost => some (.lost missing)
  | .clean => none
  | .unjudged => none

/-- The judgement of a measured entry carried out: the confirm count, the health, then an opening when
the count stands at K, or a merge into an open case (R70, R72, R73, R75). -/
def State.judgeEntry (s : State) (p : Pair) (n : Nat) (round : Nat) (q : PairPart) : State :=
  let set := s.settings.get p
  let is := q.roundIs set.stepThreshold
  let count := is.confirm set.confirmRounds q.confirm
  let s := (s.updatePart n p fun q => { q with confirm := count }).refreshHealth n p
  match is.cause q.missing with
  | none => s
  | some f =>
    if (s.caseAt? n p).isSome || set.confirmRounds ≤ count then s.findCase n p f round else s

/-- One echo entry worked (R66 to R75). The second part carries the deviation of the nearest station before
that has one in this result (R68). -/
def State.workEntry (p : Pair) (round : Nat) (w : State × Option Int) (e : EchoEntry) : State × Option Int :=
  match w.1.part? e.station p with
  | none => w
  | some q =>
    let q := match e.peak with
      | some (gain, offset) => q.measured gain offset round w.2
      | none => q.missed
    let s := w.1.updatePart e.station p fun _ => q
    let s := if q.isolation == .inLine then s.judgeEntry p e.station round q else s.refreshHealth e.station p
    (s, match q.deviation with
      | some d => some d
      | none => w.2)

/-- Every echo entry worked, in the view's delay order (R63). -/
def State.workEntries (s : State) (p : Pair) (round : Nat) (l : List EchoEntry) : State :=
  (l.foldl (State.workEntry p round) (s, none)).1

/-! ### The stray peak (R78 to R80) -/

/-- The last station of the list that lies before a delay (R78). -/
def precedingStation (d : Nat) (l : List Station) : Option Nat :=
  ((l.filter fun r => decide (r.delay < d)).getLast?).map (·.number)

/-- The first station of the list that lies beyond a delay (R78). -/
def followingStation (d : Nat) (l : List Station) : Option Nat :=
  (l.find? fun r => decide (d < r.delay)).map (·.number)

/-- A stray peak captured (R79): the slot, the case of the preceding station or of the first of the list,
and STRAY. -/
def State.captureStray (s : State) (r : RoundResult) (round : Nat) (d : Nat) (m : Int) : State :=
  let l := s.records (r.entries.map (·.station))
  let before := precedingStation d l
  let slot : StrayRecord :=
    { delay := d, magnitude := m, view := r.view, round := round, preceding := before,
      following := followingStation d l }
  let s := s.setStrays (s.strays.set r.pair { s.strays.get r.pair with held := some slot })
  let s := match before.or (l.head?.map (·.number)) with
    | some n => s.findCase n r.pair (.stray d m) round
    | none => s
  s.raise .stray

/-- The stray peak of a non-void result worked (R79, R80). -/
def State.workStray (s : State) (r : RoundResult) (round : Nat) : State :=
  match r.stray with
  | none => s
  | some (d, m) =>
    match (s.strays.get r.pair).held with
    | none => s.captureStray r round d m
    | some _ => s.flagOverrun r.pair

/-! ### Counting, the finding and the boundary (R41, R65, R76) -/

/-- A non-void result counted: the round counter, and the dwell count for a REGULAR result of the rotation
view (R41, R65). -/
def State.countResult (s : State) (r : RoundResult) : State :=
  let c := s.sc r.pair
  s.setSc r.pair { c with
    roundCounter := (c.roundCounter + 1) % 65536,
    dwellCount := if r.kind == .regular && r.view == c.rotation then c.dwellCount + 1 else c.dwellCount }

/-- The focused finding of a result (R76). The focused station always has an entry (R43, R76; log 25). -/
def State.findingOf (s : State) (r : RoundResult) (n round : Nat) : Finding :=
  { pair := r.pair, view := r.view, station := n, round := round,
    echo := (r.entries.find? (·.station == n)).any (·.peak.isSome),
    step := (s.part? n r.pair).bind (·.step),
    stray := r.stray }

/-- The finding of a non-void FOCUSED result handed to its context (R76). -/
def State.handOver (s : State) (r : RoundResult) (round : Nat) : State :=
  match r.focus with
  | none => s
  | some (n, l) => s.tell l (.finding (s.findingOf r n round))

/-- A non-void result assessed (R63, R65). -/
def State.assess (s : State) (r : RoundResult) : State :=
  let s := s.countResult r
  let round := (s.sc r.pair).roundCounter
  ((s.workEntries r.pair round r.entries).workStray r round).handOver r round

/-- A void result (R41, R64): a FOCUSED one puts its request back, pending and not taken, unless its context
is suspended (R44); the context returns to ASKED (R161, R168). -/
def State.voidResult (s : State) (r : RoundResult) : State :=
  match r.focus with
  | none => s
  | some (n, l) =>
    let s' := s.updateContext l fun c => { c with phase := .asked }
    if s.working l then
      s'.setSc r.pair { s'.sc r.pair with
        focused := some { view := r.view, station := n, level := l, taken := false } }
    else s'

/-- The head result leaves the queue and its correlator becomes FREE (R58). -/
def State.releaseResult (s : State) (r : RoundResult) : State :=
  let s := s.setCorrelator r.correlator .free
  s.setPool { s.pool with queue := s.pool.queue.filter fun q => q.correlator != r.correlator }

/-- What follows the assessment or the discard of a result (R58): the release, the pair's boundary, the grant, and
a focused request refused at the boundary told to its context (R43). -/
def State.endResult (s : State) (r : RoundResult) : State :=
  let w := (s.releaseResult r).plan r.pair
  (State.tellRefused (w.1.grantAll, w.2)).settle

/-- The Echo Assessor takes the head result (R58, R63): assessed or void, then ended. -/
def State.takeResult (s : State) : State :=
  match s.pool.queue with
  | [] => s
  | r :: _ =>
    let r := r.final (s.settings.get r.pair)
    (if s.snapshotHolds r.snapshot then s.assess r else s.voidResult r).endResult r

end Sys2Proof.Machine
end

