-- ==== Sys2Proof/Machine/LineEvents.lean ====
section
/-! DEFINITION. Replies and timers: the matched reply and its hand-on, retries and failures, the answer to
an abandoned exchange, overheard replies, the poll timer, and the steps that the part takes by itself
(05_telegrams.md; R53, R58, R163). -/

namespace Sys2Proof.Machine

/-! ### A matched reply (R90 to R92) -/

/-- The reply matches the outstanding telegram, and is of the kind that answers it (R90). -/
def State.matchesReply (s : State) (o : Outstanding) (r : Reply) : Bool :=
  r.dest == s.line.terminal && r.source == o.address && r.tag == o.tag && r.content.answers o.telegram.kind

/-- The exchange ends: nothing is outstanding (R91, R94, R95). -/
def State.endExchange (s : State) (p : Pair) : State := s.setTc p { s.tc p with outstanding := none }

/-- The station's silent count written. -/
def State.setSilent (s : State) (n v : Nat) : State := s.updateStation n fun r => { r with silent := v }

/-- The selector side that a reply reports goes to the pair's Survey Controller (R36). -/
def State.reportSide (s : State) (p : Pair) (n : Nat) : StateInForce → State
  | .repeater _ => s
  | .branching _ side => s.setSc p ((s.sc p).setSteering n side.toSteering)

/-- What the survey of a pair sees of a unit on it: steering state and branch connection; nothing of a
station that is not such a unit (R40). -/
def State.unitSeen (s : State) (p : Pair) (n : Nat) : Option (Steering × Option Connection) :=
  ((s.sc p).steeringOf n).map fun v => (v, (s.part? n p).bind (·.connection))

/-- The pair plans again when it is WAITING and what its survey sees of a unit has changed (R40). -/
def State.replanIfChanged (s : State) (before : State) (p : Pair) (n : Nat) : State :=
  if s.unitSeen p n == before.unitSeen p n then s else s.replanned p

/-- The record written by a matched reply, and a WAITING pair planned again (R36, R40, R91). -/
def State.writeReply (s : State) (p : Pair) (n : Nat) (st : StateInForce) : State :=
  (((s.setSilent n 0).writeInForce n p st).reportSide p n st).replanIfChanged s p n

/-- The alarm word of a STATUS REPLY handed to the Alarm Watch (R92, R99). -/
def State.handWord (s : State) (n : Nat) : ReplyContent → State
  | .statusReply w _ => s.judgeWord n w
  | _ => s

/-- The operator outcome that a reply brings (R92). -/
def replyOutcome : ReplyContent → OperatorOutcome
  | .nak _ _ => .refused
  | _ => .done

/-- The event that a reply is to a context (R92, R168). -/
def replyEvent : ReplyContent → ContextEvent
  | .ack st => .ack st
  | .nak reason st => .nak reason st
  | .statusReply w st => .statusReply w st

/-- A matched reply handed on by its submitter (R92). -/
def State.handReply (s : State) (p : Pair) (t : Telegram) (c : ReplyContent) : State :=
  match t.submitter with
  | .operator _ => s.operatorDone p t (replyOutcome c)
  | .survey => State.tellRefused (s.steerEnded p)
  | .context l => s.tell l (replyEvent c)
  | .sweep => s

/-- A matched reply (R91, R92). -/
def State.matchedReply (s : State) (p : Pair) (t : Telegram) (c : ReplyContent) : State :=
  ((((s.endExchange p).writeReply p t.dest c.state).handWord t.dest c).handReply p t c).settle

/-- A reply on a DRIVING pair: matched, or discarded (R90). -/
def State.replyDriving (s : State) (p : Pair) (r : Reply) : State :=
  match (s.tc p).outstanding with
  | none => s
  | some o => if s.matchesReply o r then s.matchedReply p o.telegram r.content else s

/-! ### Replies on a LISTENING pair (R97, R99) -/

/-- The abandoned exchange dropped (R97). -/
def State.dropAbandoned (s : State) (p : Pair) : State := s.setTc p { s.tc p with abandoned := none }

/-- A reply for this part's end: the answer to the abandoned exchange, or discarded (R97). R97 does not say which
record the answer writes when the table has changed since the exchange was abandoned: the model takes the
station that carries the source address now, and where none does it drops the exchange and writes nothing
(log 39). -/
def State.replyAbandoned (s : State) (p : Pair) (r : Reply) : State :=
  match (s.tc p).abandoned with
  | none => s
  | some a =>
    if r.source == a.address && r.tag == a.tag then
      match s.byAddress? r.source with
      | some q => (s.writeInForce q.number p r.content.state).dropAbandoned p
      | none => s.dropAbandoned p
    else s

/-- The telegram kinds whose overheard answers are used (R99). -/
def commandsStation (k : TelegramKind) : Bool :=
  k == .isolateSpare || k == .isolateLimit || k == .restore || k == .cut || k == .reconnect

/-- The ACK of a far-end command isolates the station (R99, R152). -/
def isolates (k : TelegramKind) : ReplyContent → Bool
  | .ack (.repeater i) => (k == .isolateSpare || k == .isolateLimit) && (i == .spare || i == .limit)
  | .ack (.branching c _) => k == .cut && c == .cut
  | _ => false

/-- The ACK of a far-end command brings the station back (R99, R153). -/
def restores (k : TelegramKind) : ReplyContent → Bool
  | .ack _ => k == .restore || k == .reconnect
  | _ => false

/-- The FAR claim of a station on a pair released and announced, if there is one (R153, R155). -/
def State.releaseFarOf (s : State) (n : Nat) (p : Pair) : State :=
  if s.claims.any (·.isFarOf n p) then (s.keepClaims fun c => !c.isFarOf n p).announce else s

/-- An ACK or NAK that answers an overheard command (R99). -/
def State.useOverheard (s : State) (p : Pair) (n : Nat) (k : TelegramKind) (c : ReplyContent) : State :=
  let s := s.writeInForce n p c.state
  let s := if isolates k c then s.makeFar n p else s
  if restores k c then (s.releaseFarOf n p).settle else s

/-- The command overheard for a station on a pair that a reply's tag answers (R99). -/
def TelegramController.overheardCommand (c : TelegramController) (n tag : Nat) : Option TelegramKind :=
  (c.overheard.find? fun h => h.station == n && h.tag == tag && commandsStation h.kind).map (·.kind)

/-- A reply for the other end (R99). -/
def State.replyOverheard (s : State) (p : Pair) (r : Reply) : State :=
  match s.byAddress? r.source with
  | none => s
  | some q =>
    match r.content with
    | .statusReply w _ => s.judgeWord q.number w
    | _ =>
      match (s.tc p).overheardCommand q.number r.tag with
      | some k => s.useOverheard p q.number k r.content
      | none => s

/-- A reply arrives on a pair (R90, R97, R99). An unequipped pair's channel carries no cable (R115,
R119; log 28). -/
def State.hearReply (s : State) (p : Pair) (r : Reply) : State :=
  if s.equipped p then
    match (s.sc p).role with
    | .off => s
    | .driving => s.replyDriving p r
    | .listening => if r.dest == s.line.terminal then s.replyAbandoned p r else s.replyOverheard p r
  else s

/-! ### The reply timer (R93 to R95) -/

/-- The second try of a telegram, at once (R93). -/
def State.retry (s : State) (p : Pair) (t : Telegram) : State :=
  match s.station? t.dest with
  | some r => s.launch p t r 2
  | none => s

/-- A SILENT opening or merge, with the pair's round counter as it stands (R94, R95, R126). A telegram's
station is always enlisted (R21, R22); for one that is not, there is no case (log 30). -/
def State.silentCase (s : State) (n : Nat) (p : Pair) (k : TelegramKind) : State :=
  if (s.station? n).isSome then s.findCase n p (.silent k) (s.sc p).roundCounter else s

/-- The submitter of a failed telegram is told (R35, R94). -/
def State.handFailure (s : State) (p : Pair) (t : Telegram) : State :=
  match t.submitter with
  | .survey => State.tellRefused ((s.setSc p ((s.sc p).setSteering t.dest .unknown)).steerEnded p)
  | .context l => s.tell l .failed
  | _ => s

/-- An exchange fails (R94): the record, the operator outcome, the SILENT case, the submitter. -/
def State.failExchange (s : State) (p : Pair) (t : Telegram) : State :=
  let e := s.endExchange p
  let e := (e.markUncertain t.dest p t.kind).replanIfChanged e p t.dest
  ((((e.operatorDone p t .silent).silentCase t.dest p t.kind).handFailure p t)).settle

/-- A POLL expires (R95): the silent count, and the SILENT case when it stands at 3. -/
def State.failPoll (s : State) (p : Pair) (t : Telegram) : State :=
  let s := s.endExchange p
  match s.station? t.dest with
  | none => s.settle
  | some r =>
    let n := if r.silent < 3 then r.silent + 1 else 3
    let s := s.setSilent t.dest n
    (if n == 3 then s.silentCase t.dest p .status else s).settle

/-- The reply timer of a pair expires (R93 to R95). -/
def State.expireReply (s : State) (p : Pair) : State :=
  match (s.tc p).outstanding with
  | none => s
  | some o =>
    if o.telegram.isPoll then s.failPoll p o.telegram
    else if o.attempt == 1 then s.retry p o.telegram
    else s.failExchange p o.telegram

/-! ### The poll timer (R100) and the claim wait timer (R163) -/

/-- The poll timer expires: a sweep starts, or one waits (R100). The timer goes on with the poll period
in force. -/
def State.expirePoll (s : State) : State :=
  let s := s.setSweeper { s.sweeper with pollTimer := s.line.pollPeriod }
  if s.sweeper.running then s.setSweeper { s.sweeper with sweepPending := true } else s.startSweep.settle

/-- The claim wait timer of a level's context expires, when it runs (R163, R168). -/
def State.expireClaimWait (s : State) (l : Level) : State :=
  match s.context l with
  | none => s
  | some c =>
    if c.timer.isSome then ((s.updateContext l fun c => { c with timer := none }).tell l .expired).settle
    else s

/-- REPLY. -/
def execReply (p : Pair) (r : Reply) (s : State) : Host.Outcome State Fault Refusal := .next (s.hearReply p r)

/-- REPLY_TIMER_EXPIRY. -/
def execReplyTimerExpiry (p : Pair) (s : State) : Host.Outcome State Fault Refusal := .next (s.expireReply p)

/-- POLL_TIMER_EXPIRY. -/
def execPollTimerExpiry (s : State) : Host.Outcome State Fault Refusal := .next s.expirePoll

/-- LISTEN_SPAN_EXPIRY. -/
def execListenSpanExpiry (k : CorrelatorNo) (train : EchoTrain) (s : State) :
    Host.Outcome State Fault Refusal := .next (s.expireSpan k train)

/-- TAKE_RESULT. -/
def execTakeResult (s : State) : Host.Outcome State Fault Refusal := .next s.takeResult

/-- CLAIM_WAIT_EXPIRY. -/
def execClaimWaitExpiry (l : Level) (s : State) : Host.Outcome State Fault Refusal :=
  .next (s.expireClaimWait l)

end Sys2Proof.Machine
end

