-- ==== Sys2Proof/WellFormed.lean ====
section
/-! DEFINITION. Which commands can be sent: every operand fits the field that carries it (R186, R187),
or is what a station or the line can bring (R89, R98). A well-formed operand may still lie outside its
request's range: that is answered RANGE, and is no matter of this file. -/

namespace Sys2Proof

/-- A field of one byte. -/
def fits1 (n : Nat) : Bool := n < 256

/-- A field of two bytes. -/
def fits2 (n : Nat) : Bool := n < 65536

/-- A field of four bytes. -/
def fits4 (n : Nat) : Bool := n < 4294967296

/-- A signed field of two bytes (R186). -/
def fitsSigned2 (i : Int) : Bool := -32768 ≤ i && i ≤ 32767

/-- An optional field whose value, if present, meets the test. -/
def optFits {α : Type} (f : α → Bool) : Option α → Bool
  | none => true
  | some a => f a

/-- A list whose count fits its byte and whose entries meet the test (R186). -/
def listFits {α : Type} (f : α → Bool) (l : List α) : Bool := l.length < 256 && l.all f

/-- ENLIST's fields (R187). -/
def EnlistArgs.wf (a : EnlistArgs) : Bool :=
  fits1 a.station && fits1 a.kind && fits1 a.segment && optFits fits1 a.branch && fits2 a.address &&
  fits4 a.delay && optFits fits1 a.window

/-- AMEND's fields (R187). -/
def AmendArgs.wf (a : AmendArgs) : Bool :=
  fits1 a.station && optFits fits2 a.address && optFits fits4 a.delay && optFits fits1 a.window &&
  optFits fits1 a.mode && listFits (fun e => fits1 e.1 && fitsSigned2 e.2) a.baselines

/-- SETLINE's fields (R187). -/
def SetlineArgs.wf (a : SetlineArgs) : Bool :=
  optFits fits1 a.terminal && optFits fits2 a.pollPeriod && optFits fits1 a.turnaround &&
  optFits fits1 a.claimWait

/-- SETPAIR's fields (R187). -/
def SetpairArgs.wf (a : SetpairArgs) : Bool :=
  fits1 a.pair && optFits fits1 a.stackDepth && optFits fits1 a.dwell &&
  optFits fitsSigned2 a.stepThreshold && optFits fits1 a.confirmRounds &&
  optFits fitsSigned2 a.echoFloor && optFits fitsSigned2 a.strayThreshold

/-- POLICY's fields (R187). -/
def PolicyArgs.wf (a : PolicyArgs) : Bool :=
  listFits (fun e => fits1 e.1 && fits1 e.2) a.levels &&
  listFits (fun e => fits1 e.1 && fits1 e.2) a.actions &&
  listFits (fun e => fits1 e.1 && fits1 e.2) a.modes &&
  listFits (fun e => fits1 e.1 && fits1 e.2) a.masks

/-- An address that a station or a telegram can carry: 1 to 4095 (R1). -/
def addressFits (n : Nat) : Bool := 1 ≤ n && n ≤ 4095

/-- A tag, 0 to 15 (R84). -/
def tagFits (n : Nat) : Bool := n < 16

/-- Every operand of the command fits the field or the signal that carries it. -/
def Instr.wf : Instr → Bool
  | .findByNumber n => fits1 n
  | .findByAddress n => fits2 n
  | .findByDelay seg d => fits1 seg && fits4 d
  | .findNext order start => fits1 order && fits2 start
  | .enlist a => a.wf
  | .amend a => a.wf
  | .retire n => fits1 n
  | .rebase n p => fits2 n && fits1 p
  | .shift seg d delta => fits1 seg && fits4 d && fitsSigned2 delta
  | .setline a => a.wf
  | .setpair a => a.wf
  | .policy a => a.wf
  | .role p r => fits1 p && fits1 r
  | .pairStatus p => fits1 p
  | .clearContention p => fits1 p
  | .listCases => true
  | .readCase n => fits1 n
  | .close n => fits1 n
  | .take n p => fits1 n && fits1 p
  | .drop n => fits1 n
  | .listClaims => true
  | .isolate n p a => fits1 n && fits1 p && fits1 a
  | .restore n p => fits1 n && fits1 p
  | .cut n p => fits1 n && fits1 p
  | .reconnect n p => fits1 n && fits1 p
  | .strayRead p => fits1 p
  | .attend => true
  | .attentionEnable _ => true
  | .restart => true
  | .badframe _ => true
  | .frameCollision => true
  | .responseReady => true
  | .readTransaction _ => true
  | .ignoredTransaction first _ => first != 81#8 && first != 82#8
  | .powerOnReset => true
  | .farEndDrive _ (.probe _) => true
  | .farEndDrive _ (.telegram _ address tag _) => addressFits address && tagFits tag
  | .reply _ r => addressFits r.source && tagFits r.tag
  | .replyTimerExpiry _ => true
  | .pollTimerExpiry => true
  | .listenSpanExpiry _ train => decide ((train.map (·.1)).Nodup)
  | .takeResult => true
  | .caseGrant => true
  | .claimWaitExpiry _ => true

end Sys2Proof
end

