-- ==== Sys2Proof/Decode.lean ====
section
/-! DEFINITION. Words and frames. The rows of spec/opcode_table.json give no bits, so a table word
spells no command. What the part does decode is the request frame (R174, R185 to R187): its check, its
kind, its length and its body; and the host's side of it, an encoder, stands after it. -/

namespace Sys2Proof

/-- No row of spec/opcode_table.json gives bits ("fields" is empty in every row), so no word of table
bits spells a command. -/
def decodeTableWord (_nbits _w : Nat) : Option Instr := none

/-! ### The check (R185) -/

/-- One bit of the CRC register: generator x16 + x12 + x5 + 1, most significant bit first (R185). -/
def crcBit (crc : BitVec 16) : BitVec 16 :=
  if crc.msb then (crc <<< 1) ^^^ 0x1021#16 else crc <<< 1

/-- One byte into the CRC register (R185). -/
def crcByte (crc : BitVec 16) (b : Byte) : BitVec 16 :=
  let crc := crc ^^^ (b.zeroExtend 16 <<< 8)
  crcBit (crcBit (crcBit (crcBit (crcBit (crcBit (crcBit (crcBit crc)))))))

/-- The check over the bytes from the kind to the last byte of the body: the register starts at all
ones, and there is no final inversion (R185). -/
def crc16 (bytes : List Byte) : BitVec 16 := bytes.foldl crcByte 0xFFFF#16

/-! ### Numbers as bytes, big-endian (R186) -/

/-- A number in one byte. -/
def put1 (n : Nat) : List Byte := [BitVec.ofNat 8 n]

/-- A number in two bytes. -/
def put2 (n : Nat) : List Byte := [BitVec.ofNat 8 (n / 256), BitVec.ofNat 8 n]

/-- A number in four bytes. -/
def put4 (n : Nat) : List Byte :=
  [BitVec.ofNat 8 (n / 16777216), BitVec.ofNat 8 (n / 65536), BitVec.ofNat 8 (n / 256), BitVec.ofNat 8 n]

/-- A signed number in one byte, two's complement. -/
def putSigned1 (i : Int) : List Byte := [BitVec.ofInt 8 i]

/-- A signed number in two bytes, two's complement. -/
def putSigned2 (i : Int) : List Byte := put2 (BitVec.ofInt 16 i).toNat

/-- A word of 16 indicators in two bytes. -/
def putWord (w : AlarmWord) : List Byte := put2 w.toNat

/-- An optional field: a presence byte, then the value when present. -/
def putOpt {α : Type} (f : α → List Byte) : Option α → List Byte
  | none => [0#8]
  | some a => 1#8 :: f a

/-- A list: a count byte, then the entries. -/
def putList {α : Type} (f : α → List Byte) (l : List α) : List Byte :=
  put1 l.length ++ l.flatMap f

/-! ### Bytes as numbers -/

/-- A reader of a body: what it read, and the bytes that remain; none when they do not suffice. -/
abbrev Reader (α : Type) := List Byte → Option (α × List Byte)

/-- A number of one byte. -/
def get1 : Reader Nat
  | b :: rest => some (b.toNat, rest)
  | [] => none

/-- A number of two bytes. -/
def get2 : Reader Nat
  | a :: b :: rest => some (a.toNat * 256 + b.toNat, rest)
  | _ => none

/-- A number of four bytes. -/
def get4 : Reader Nat
  | a :: b :: c :: d :: rest =>
    some (a.toNat * 16777216 + b.toNat * 65536 + c.toNat * 256 + d.toNat, rest)
  | _ => none

/-- A signed number of two bytes. -/
def getSigned2 : Reader Int := fun bytes =>
  match get2 bytes with
  | some (n, rest) => some ((BitVec.ofNat 16 n).toInt, rest)
  | none => none

/-- A word of 16 indicators. -/
def getWord : Reader AlarmWord := fun bytes =>
  match get2 bytes with
  | some (n, rest) => some (BitVec.ofNat 16 n, rest)
  | none => none

/-- A mask of one byte. -/
def getMask : Reader Byte
  | b :: rest => some (b, rest)
  | [] => none

/-- An optional field (R186). A presence byte other than 0 and 1 fits no length (log 8). -/
def getOpt {α : Type} (f : Reader α) : Reader (Option α)
  | b :: rest =>
    if b = 0#8 then some (none, rest)
    else if b = 1#8 then
      match f rest with
      | some (a, rest') => some (some a, rest')
      | none => none
    else none
  | [] => none

/-- That many entries. -/
def getMany {α : Type} (f : Reader α) : Nat → Reader (List α)
  | 0 => fun bytes => some ([], bytes)
  | n + 1 => fun bytes =>
    match f bytes with
    | some (a, rest) =>
      match getMany f n rest with
      | some (l, rest') => some (a :: l, rest')
      | none => none
    | none => none

/-- A list: a count byte, then the entries (R186). -/
def getList {α : Type} (f : Reader α) : Reader (List α) := fun bytes =>
  match get1 bytes with
  | some (n, rest) => getMany f n rest
  | none => none

/-- Two fields, one after the other. -/
def getPair {α β : Type} (f : Reader α) (g : Reader β) : Reader (α × β) := fun bytes =>
  match f bytes with
  | some (a, rest) =>
    match g rest with
    | some (b, rest') => some ((a, b), rest')
    | none => none
  | none => none

/-- A field read and turned into another form. -/
def getMap {α β : Type} (g : α → β) (f : Reader α) : Reader β := fun bytes =>
  match f bytes with
  | some (a, rest) => some (g a, rest)
  | none => none

/-- An empty body. -/
def getNothing {α : Type} (a : α) : Reader α := fun bytes => some (a, bytes)

/-! ### Request bodies (R187) -/

/-- ENLIST's body. -/
def getEnlist : Reader EnlistArgs :=
  getMap (fun (n, k, g, b, a, d, w) => ⟨n, k, g, b, a, d, w⟩)
    (getPair get1 (getPair get1 (getPair get1 (getPair (getOpt get1) (getPair get2 (getPair get4 (getOpt get1)))))))

/-- AMEND's body. -/
def getAmend : Reader AmendArgs :=
  getMap (fun (n, a, d, w, m, k, c, l) => ⟨n, a, d, w, m, k, c, l⟩)
    (getPair get1 (getPair (getOpt get2) (getPair (getOpt get4) (getPair (getOpt get1)
      (getPair (getOpt get1) (getPair (getOpt getWord) (getPair (getOpt getWord)
        (getList (getPair get1 getSigned2)))))))))

/-- SETLINE's body. -/
def getSetline : Reader SetlineArgs :=
  getMap (fun (e, q, b1, b2, b3, p, t, c) => ⟨e, q, b1, b2, b3, p, t, c⟩)
    (getPair (getOpt get1) (getPair (getOpt getMask) (getPair (getOpt getMask) (getPair (getOpt getMask)
      (getPair (getOpt getMask) (getPair (getOpt get2) (getPair (getOpt get1) (getOpt get1))))))))

/-- SETPAIR's body. -/
def getSetpair : Reader SetpairArgs :=
  getMap (fun (p, s, d, t, k, f, y) => ⟨p, s, d, t, k, f, y⟩)
    (getPair get1 (getPair (getOpt get1) (getPair (getOpt get1) (getPair (getOpt getSigned2)
      (getPair (getOpt get1) (getPair (getOpt getSigned2) (getOpt getSigned2)))))))

/-- A list of two-byte entries of POLICY. -/
def getEntries : Reader (List (Nat × Nat)) := getList (getPair get1 get1)

/-- POLICY's body. -/
def getPolicy : Reader PolicyArgs :=
  getMap (fun (l, a, m, k) => ⟨l, a, m, k⟩)
    (getPair getEntries (getPair getEntries (getPair getEntries getEntries)))

/-- The reader of a request kind's body; none for a kind that is no request (R187). -/
def bodyReader (kind : Nat) : Option (Reader Instr) :=
  match kind with
  | 1 => some (getMap .findByNumber get1)
  | 2 => some (getMap .findByAddress get2)
  | 3 => some (getMap (fun (g, d) => .findByDelay g d) (getPair get1 get4))
  | 4 => some (getMap (fun (o, n) => .findNext o n) (getPair get1 get2))
  | 5 => some (getMap .enlist getEnlist)
  | 6 => some (getMap .amend getAmend)
  | 7 => some (getMap .retire get1)
  | 8 => some (getMap (fun (n, p) => .rebase n p) (getPair get2 get1))
  | 9 => some (getMap (fun (g, d, x) => .shift g d x) (getPair get1 (getPair get4 getSigned2)))
  | 10 => some (getMap .setline getSetline)
  | 11 => some (getMap .setpair getSetpair)
  | 12 => some (getMap .policy getPolicy)
  | 13 => some (getMap (fun (p, r) => .role p r) (getPair get1 get1))
  | 14 => some (getMap .pairStatus get1)
  | 15 => some (getMap .clearContention get1)
  | 16 => some (getNothing .listCases)
  | 17 => some (getMap .readCase get1)
  | 18 => some (getMap .close get1)
  | 19 => some (getMap (fun (n, p) => .take n p) (getPair get1 get1))
  | 20 => some (getMap .drop get1)
  | 21 => some (getNothing .listClaims)
  | 22 => some (getMap (fun (n, p, a) => .isolate n p a) (getPair get1 (getPair get1 get1)))
  | 23 => some (getMap (fun (n, p) => .restore n p) (getPair get1 get1))
  | 24 => some (getMap (fun (n, p) => .cut n p) (getPair get1 get1))
  | 25 => some (getMap (fun (n, p) => .reconnect n p) (getPair get1 get1))
  | 26 => some (getMap .strayRead get1)
  | 27 => some (getNothing .attend)
  | 28 => some (getMap .attentionEnable getMask)
  | 29 => some (getNothing .restart)
  | _ => none

/-- The request in a body of that kind: the body has exactly the length its kind requires (R185). -/
def decodeBody (kind : Nat) (body : List Byte) : Option Instr :=
  match bodyReader kind with
  | none => none
  | some reader =>
    match reader body with
    | some (i, []) => some i
    | _ => none

/-- The request in a frame: kind (1), body length n (2), body (n), check (2), and no byte more. None
when the check, the kind or the length is wrong (R174, R185). -/
def decodeFrame (bytes : List Byte) : Option Instr :=
  match bytes with
  | kind :: hi :: lo :: rest =>
    let n := hi.toNat * 256 + lo.toNat
    let body := rest.take n
    if rest.length = n + 2 ∧ rest.drop n = putWord (crc16 (kind :: hi :: lo :: body)) then
      decodeBody kind.toNat body
    else none
  | _ => none

/-! ### The host's side: request frames written out (R185 to R187) -/

/-- The kind byte of a host request; none for a command that is no request (R187). -/
def requestKind : Instr → Option Nat
  | .findByNumber _ => some 1
  | .findByAddress _ => some 2
  | .findByDelay _ _ => some 3
  | .findNext _ _ => some 4
  | .enlist _ => some 5
  | .amend _ => some 6
  | .retire _ => some 7
  | .rebase _ _ => some 8
  | .shift _ _ _ => some 9
  | .setline _ => some 10
  | .setpair _ => some 11
  | .policy _ => some 12
  | .role _ _ => some 13
  | .pairStatus _ => some 14
  | .clearContention _ => some 15
  | .listCases => some 16
  | .readCase _ => some 17
  | .close _ => some 18
  | .take _ _ => some 19
  | .drop _ => some 20
  | .listClaims => some 21
  | .isolate _ _ _ => some 22
  | .restore _ _ => some 23
  | .cut _ _ => some 24
  | .reconnect _ _ => some 25
  | .strayRead _ => some 26
  | .attend => some 27
  | .attentionEnable _ => some 28
  | .restart => some 29
  | .badframe _ => none
  | .frameCollision => none
  | .responseReady => none
  | .readTransaction _ => none
  | .ignoredTransaction _ _ => none
  | .powerOnReset => none
  | .farEndDrive _ _ => none
  | .reply _ _ => none
  | .replyTimerExpiry _ => none
  | .pollTimerExpiry => none
  | .listenSpanExpiry _ _ => none
  | .takeResult => none
  | .caseGrant => none
  | .claimWaitExpiry _ => none

/-- A list of two-byte entries of POLICY. -/
def putEntries (l : List (Nat × Nat)) : List Byte := putList (fun e => put1 e.1 ++ put1 e.2) l

/-- The body of a host request (R187); empty for a command that is no request. -/
def encodeBody : Instr → List Byte
  | .findByNumber n => put1 n
  | .findByAddress n => put2 n
  | .findByDelay g d => put1 g ++ put4 d
  | .findNext o n => put1 o ++ put2 n
  | .enlist a =>
    put1 a.station ++ (put1 a.kind ++ (put1 a.segment ++ (putOpt put1 a.branch ++ (put2 a.address ++
      (put4 a.delay ++ putOpt put1 a.window)))))
  | .amend a =>
    put1 a.station ++ (putOpt put2 a.address ++ (putOpt put4 a.delay ++ (putOpt put1 a.window ++
      (putOpt put1 a.mode ++ (putOpt putWord a.mask ++ (putOpt putWord a.pattern ++
        putList (fun e => put1 e.1 ++ putSigned2 e.2) a.baselines))))))
  | .retire n => put1 n
  | .rebase n p => put2 n ++ put1 p
  | .shift g d x => put1 g ++ (put4 d ++ putSigned2 x)
  | .setline a =>
    putOpt put1 a.terminal ++ (putOpt (fun b => [b]) a.equipped ++ (putOpt (fun b => [b]) a.branch1 ++
      (putOpt (fun b => [b]) a.branch2 ++ (putOpt (fun b => [b]) a.branch3 ++
        (putOpt put2 a.pollPeriod ++ (putOpt put1 a.turnaround ++ putOpt put1 a.claimWait))))))
  | .setpair a =>
    put1 a.pair ++ (putOpt put1 a.stackDepth ++ (putOpt put1 a.dwell ++ (putOpt putSigned2 a.stepThreshold ++
      (putOpt put1 a.confirmRounds ++ (putOpt putSigned2 a.echoFloor ++ putOpt putSigned2 a.strayThreshold)))))
  | .policy a => putEntries a.levels ++ (putEntries a.actions ++ (putEntries a.modes ++ putEntries a.masks))
  | .role p r => put1 p ++ put1 r
  | .pairStatus p => put1 p
  | .clearContention p => put1 p
  | .listCases => []
  | .readCase n => put1 n
  | .close n => put1 n
  | .take n p => put1 n ++ put1 p
  | .drop n => put1 n
  | .listClaims => []
  | .isolate n p a => put1 n ++ (put1 p ++ put1 a)
  | .restore n p => put1 n ++ put1 p
  | .cut n p => put1 n ++ put1 p
  | .reconnect n p => put1 n ++ put1 p
  | .strayRead p => put1 p
  | .attend => []
  | .attentionEnable m => [m]
  | .restart => []
  | .badframe _ => []
  | .frameCollision => []
  | .responseReady => []
  | .readTransaction _ => []
  | .ignoredTransaction _ _ => []
  | .powerOnReset => []
  | .farEndDrive _ _ => []
  | .reply _ _ => []
  | .replyTimerExpiry _ => []
  | .pollTimerExpiry => []
  | .listenSpanExpiry _ _ => []
  | .takeResult => []
  | .caseGrant => []
  | .claimWaitExpiry _ => []

/-- Bytes closed with their check (R185). -/
def withCheck (bytes : List Byte) : List Byte := bytes ++ putWord (crc16 bytes)

/-- The request frame of a host request (R185); empty for a command that is no request. -/
def encodeFrame (i : Instr) : List Byte :=
  match requestKind i with
  | none => []
  | some k => withCheck (put1 k ++ (put2 (encodeBody i).length ++ encodeBody i))

end Sys2Proof
end

