-- ==== Sys2Proof/Machine/Records.lean ====
section
/-! DEFINITION. The bytes of responses: enumeration codes, records, response bodies, the response frame and
the NOTREADY frame (12_frame_and_record_formats.md). -/

namespace Sys2Proof.Machine

/-! ### Enumerations (R186) -/

/-- Status codes (R186). NOTREADY is given only in the NOTREADY frame (R177). -/
def Status.code : Status → Nat
  | .ok => 0
  | .queued => 1
  | .notReady => 2
  | .busy => 3
  | .full => 4
  | .notFound => 5
  | .duplicate => 6
  | .overlap => 7
  | .range => 8
  | .state => 9
  | .noClaim => 10
  | .held => 11
  | .contended => 12
  | .role => 13
  | .badFrame => 14

/-- The station kind's code (R186). -/
def StationKind.code : StationKind → Nat
  | .repeater => 0
  | .branching _ => 1

/-- The branch that a kind serves, as a number (R188). -/
def StationKind.servesNumber : StationKind → Option Nat
  | .repeater => none
  | .branching b => some b.number.val

/-- The watch mode's code (R186). -/
def WatchMode.code : WatchMode → Nat
  | .off => 0
  | .event => 1
  | .matching => 2

/-- The health's code (R186). -/
def Health.code : Health → Nat
  | .unmeasured => 0
  | .unbased => 1
  | .normal => 2
  | .doubtful => 3
  | .suspect => 4

/-- The isolation state's code (R186). -/
def Isolation.code : Isolation → Nat
  | .inLine => 0
  | .spare => 1
  | .limit => 2
  | .uncertain => 3

/-- The branch connection's code (R186). -/
def Connection.code : Connection → Nat
  | .connected => 0
  | .cut => 1
  | .uncertain => 2

/-- The operator outcome's code (R186). -/
def OperatorOutcome.code : OperatorOutcome → Nat
  | .pending => 0
  | .done => 1
  | .refused => 2
  | .silent => 3
  | .abandoned => 4

/-- The role's code (R186). -/
def Role.code : Role → Nat
  | .off => 0
  | .driving => 1
  | .listening => 2

/-- The survey state's code (R186). -/
def SurveyState.code : SurveyState → Nat
  | .halted => 0
  | .steering => 1
  | .waiting => 2
  | .running => 3
  | .result => 4

/-- The round kind's code (R186). -/
def RoundKind.code : RoundKind → Nat
  | .regular => 0
  | .focused => 1

/-- The steering state's code (R186). -/
def Steering.code : Steering → Nat
  | .trunk => 0
  | .branch => 1
  | .unknown => 2

/-- The case state's code (R186). -/
def CaseState.code : CaseState → Nat
  | .pending => 0
  | .active => 1
  | .suspended => 2
  | .held _ => 3

/-- The outcome of a HELD case (R126). -/
def CaseState.outcome : CaseState → Option Outcome
  | .held o => some o
  | _ => none

/-- The outcome's code (R186). -/
def Outcome.code : Outcome → Nat
  | .reported => 0
  | .isolated => 1
  | .ineffective => 2
  | .unconfirmed => 3
  | .refused => 4
  | .failed => 5
  | .blocked => 6
  | .interrupted => 7
  | .unreachable => 8

/-- The action taken's code: CUT is 3 (R186). -/
def Command.code : Command → Nat
  | .spare => 1
  | .limit => 2
  | .cut => 3

/-- The claim owner's code (R186). -/
def ClaimOwner.code : ClaimOwner → Nat
  | .auto _ => 0
  | .operator => 1
  | .far => 2

/-- The case of an AUTO claim (R146). -/
def ClaimOwner.caseNumber : ClaimOwner → Option Nat
  | .auto k => some k
  | _ => none

/-- The pair field of a claim: ALL is 255 (R186). -/
def ClaimPair.code : ClaimPair → Nat
  | .one p => p.val
  | .all => 255

/-- The context step's code (R186). -/
def ContextStep.code : ContextStep → Nat
  | .verify => 0
  | .claim => 1
  | .act => 2
  | .confirm => 3

/-- The step phase's code (R186). -/
def ContextPhase.code : ContextPhase → Nat
  | .asked => 0
  | .measuring => 1
  | .sent => 2
  | .claimWait => 3

/-- The recorded event's code (R186). -/
def ContextEvent.code : ContextEvent → Nat
  | .finding _ => 0
  | .statusReply _ _ => 1
  | .ack _ => 2
  | .nak _ _ => 3
  | .failed => 4
  | .expired => 5

/-- The causes as a mask: STEP 0, LOST 1, STRAY 2, ALARM 3, SILENT 4 (R186). -/
def Evidence.mask (e : Evidence) : Nat :=
  (e.has .step).toNat + 2 * (e.has .lost).toNat + 4 * (e.has .stray).toNat +
  8 * (e.has .alarm).toNat + 16 * (e.has .silent).toNat

end Sys2Proof.Machine

namespace Sys2Proof

/-- The telegram kind's code, which is the operator action kind's too (R186). -/
def TelegramKind.code : TelegramKind → Nat
  | .status => 0
  | .isolateSpare => 1
  | .isolateLimit => 2
  | .restore => 3
  | .cut => 4
  | .reconnect => 5
  | .steerTrunk => 6
  | .steerBranch => 7

end Sys2Proof

namespace Sys2Proof.Machine

/-! ### Records (R188) -/

/-- A pair part. -/
def putPart (q : PairPart) : List Byte :=
  put1 q.pair.val ++ putOpt putSigned2 q.baseline ++
  putOpt putSigned2 (q.latest.map (·.gain)) ++ putOpt putSigned1 (q.latest.map (·.offset)) ++
  putOpt put2 (q.latest.map (·.round)) ++ putOpt putSigned2 q.deviation ++ putOpt putSigned2 q.step ++
  put1 q.confirm ++ put1 q.missing ++ put1 q.health.code ++ put1 q.isolation.code ++
  putOpt (fun c => put1 (Connection.code c)) q.connection ++
  putOpt (fun a => put1 (TelegramKind.code (OperatorAction.kind a)) ++ put1 (OperatorOutcome.code a.outcome)) q.operator

/-- A station record with its segment's generation. R188 gives bits 0 and 1 of the marks byte; the model puts 0 in
the others (log 41). -/
def putStation (v : StationView) : List Byte :=
  let r := v.record
  put1 r.number ++ put1 r.kind.code ++ put1 r.segment.number.val ++ putOpt put1 r.kind.servesNumber ++
  put2 r.address ++ put4 r.delay ++ put1 r.window ++ put2 v.generation ++
  put1 r.mode.code ++ putWord r.mask ++ putWord r.pattern ++ putOpt putWord r.settled ++
  putOpt putWord r.candidate ++ putOpt putWord r.latched ++
  put1 (r.matchSeen.toNat + 2 * r.armed.toNat) ++ put1 r.silent ++ putList putPart r.parts

/-- A context, as CASE returns it (R172). -/
def putContext (c : Context) : List Byte :=
  put1 c.step.code ++ put1 c.phase.code ++ put1 c.tries ++
  putOpt (fun e => put1 (ContextEvent.code e)) c.recorded ++ put1 c.timer.isSome.toNat

/-- A case record with its context, present while the case is in service. -/
def putCase (k : Case) (c : Option Context) : List Byte :=
  let e := k.evidence
  put1 k.number ++ put1 k.station ++ put1 k.pair.val ++ put1 e.mask ++ put1 k.level.val ++
  put1 k.state.code ++ putOpt (fun o => put1 (Outcome.code o)) k.state.outcome ++ put2 k.openedRound ++
  putOpt putSigned2 e.step ++ putOpt put1 e.lost ++
  putOpt (fun q => put4 (Prod.fst q) ++ putSigned2 (Prod.snd q)) e.stray ++ putOpt putWord e.alarm ++
  putOpt (fun t => put1 (TelegramKind.code t)) e.silent ++
  putOpt (fun a => put1 (Command.code a)) k.actionTaken ++ putOpt put1 k.claim ++ putOpt putContext c

/-- A claim entry. -/
def putClaim (c : Claim) : List Byte :=
  put1 c.number ++ put1 c.station ++ put1 c.pair.code ++ put1 c.owner.code ++ putOpt put1 c.owner.caseNumber

/-- A focused request: none 0, pending 1, taken 2. -/
def putFocused : Option FocusedRequest → List Byte
  | none => put1 0
  | some f => put1 (1 + f.taken.toNat)

/-- A pair status. R188 gives bits 0 and 1 of the flags byte; the model puts 0 in the others (log 41). -/
def putPairStatus (v : PairView) : List Byte :=
  let c := v.controller
  put1 v.pair.val ++ put1 v.equipped.toNat ++ put1 c.role.code ++
  put1 (c.contention.toNat + 2 * c.statusRead.toNat) ++
  put1 c.state.code ++ put1 c.rotation.number.val ++ put1 c.dwellCount ++
  putOpt (fun w => put1 (Segment.number w).val) c.roundView ++
  putOpt (fun k => put1 (RoundKind.code k)) c.roundKind ++ put2 c.roundCounter ++
  putList (fun e => put1 (Prod.fst e) ++ put1 (Steering.code (Prod.snd e))) c.steering ++
  putFocused c.focused ++
  put1 v.settings.stackDepth ++ put1 v.settings.dwell ++ putSigned2 v.settings.stepThreshold ++
  put1 v.settings.confirmRounds ++ putSigned2 v.settings.echoFloor ++ putSigned2 v.settings.strayThreshold

/-- A stray slot with its overrun flag. -/
def putStray (v : StraySlot) : List Byte :=
  (match v.held with
   | none => put1 0
   | some r => put1 1 ++ put4 r.delay ++ putSigned2 r.magnitude ++ put1 r.view.number.val ++ put2 r.round ++
       putOpt put1 r.preceding ++ putOpt put1 r.following) ++
  put1 v.overrun.toNat

/-- The body of a response (R188). -/
def Body.bytes : Body → List Byte
  | .empty => []
  | .claimEntry c => putClaim c
  | .station v => putStation v
  | .stationAtDelay v => put1 0 ++ putStation v
  | .span a b => put1 1 ++ putOpt putStation a ++ putOpt putStation b
  | .nextStation v => putOpt putStation v
  | .count n => put2 n
  | .cases l => putList (fun e => put1 e.1 ++ put1 (CaseState.code e.2.1) ++ put1 e.2.2.val) l
  | .case k c => putCase k c
  | .claimNumber n => put1 n
  | .claims l => putList putClaim l
  | .pairStatus v => putPairStatus v
  | .stray v => putStray v
  | .causes a => put1 a.toMask

/-! ### Frames of the part (R185) -/

/-- The response frame, with the collision flag it was placed with. -/
def Response.frame (r : Response) (collision : Bool) : List Byte :=
  let body := r.body.bytes
  withCheck ([r.kind] ++ put1 r.status.code ++ put1 collision.toNat ++ put2 body.length ++ body)

/-- The NOTREADY frame: the collision flag as it stands, and the port state, IDLE 0 or PERFORMING 1. -/
def notReadyFrame (collision : Bool) (portState : Nat) : List Byte :=
  withCheck (put1 0 ++ put1 Status.notReady.code ++ put1 collision.toNat ++ put2 1 ++ put1 portState)

/-- What a transaction that clocks so many bytes reads of a frame: bytes beyond its end shift out as 0. -/
def clockOut (n : Nat) (frame : List Byte) : List Byte := (frame ++ List.replicate n 0#8).take n

end Sys2Proof.Machine
end

