-- ==== Sys2Proof/Machine/Port.lean ====
section
/-! DEFINITION. The Request Port: taking a request, the end of performing, reading, collisions
(11_the_request_port.md). -/

namespace Sys2Proof.Machine

/-- What performing a request comes to: the state, the status and the body (R174, R177). -/
abbrev Answer := State × Status × Body

/-- A refusal: nothing changes, and the body is empty (R177, R188). -/
def State.refuse (s : State) (st : Status) : Answer := (s, st, .empty)

/-- OK with a body. -/
def State.ok (s : State) (b : Body) : Answer := (s, .ok, b)

/-- The port written to PERFORMING with the response that performing forms (R174; log 4). -/
def State.respond (s : State) (r : Response) : State :=
  s.setPort { s.port with state := .performing r }

/-- A request frame ends (R174, R175): taken and performed when the port is IDLE, else discarded with the
collision flag set. -/
def State.request (s : State) (kind : Byte) (perform : State → Answer) : State :=
  match s.port.state with
  | .idle =>
    let a := perform s
    a.1.respond { kind := kind, status := a.2.1, body := a.2.2 }
  | _ => s.setCollision

/-- The end of performing: the response is placed with the collision flag as it stands (R174). -/
def State.finishPerforming (s : State) : State :=
  match s.port.state with
  | .performing r => s.setPort { s.port with state := .responseReady r s.port.collision }
  | _ => s

/-- The bytes that a transaction shifts out, written down (R185; log 26). -/
def State.shiftOut (s : State) (l : List Byte) : State := s.setPort { s.port with shiftedOut := l }

/-- The response delivered (R176): the port IDLE, the collision flag cleared if the response carried it. -/
def State.deliver (s : State) (carried : Bool) : State :=
  s.setPort { s.port with state := .idle, collision := s.port.collision && !carried }

/-- A read transaction that clocks so many bytes after the mark (R176). -/
def State.read (s : State) (n : Nat) : State :=
  match s.port.state with
  | .idle => s.shiftOut (clockOut n (notReadyFrame s.port.collision 0))
  | .performing _ => s.shiftOut (clockOut n (notReadyFrame s.port.collision 1))
  | .responseReady r carried =>
    let s := s.shiftOut (clockOut n (r.frame carried))
    if (r.frame carried).length ≤ n then s.deliver carried else s

end Sys2Proof.Machine
end

