-- ==== Sys2Proof/Machine/Enlisting.lean ====
section
/-! DEFINITION. The requests that change which stations the table holds: ENLIST (R14, R15) and RETIRE
(R21, R22), with what they reach at the Survey Controllers (R38, R40). -/

namespace Sys2Proof.Machine

/-! ### The overlap laws (R6) -/

/-- Two windows overlap (R6). -/
def overlapping (d1 w1 d2 w2 : Nat) : Bool := d1 ≤ d2 + (w1 + w2) && d2 ≤ d1 + (w1 + w2)

/-- A delay exceeds a unit's delay by more than the sum of the half-widths (R6). -/
def clears (unitDelay unitWindow d w : Nat) : Bool := unitDelay + (unitWindow + w) < d

/-- A station of a segment with this delay and window lies beyond its branching unit; the trunk has none
(R6). -/
def State.clearsUnit (s : State) (g : Segment) (d w : Nat) : Bool :=
  match g with
  | .trunk => true
  | .branch b =>
    match s.unit? b with
    | none => true
    | some u => clears u.delay u.window d w

/-- A window would overlap that of another station of the segment than the one with a number (R6). -/
def State.overlapsIn (s : State) (g : Segment) (except : Nat) (d w : Nat) : Bool :=
  s.table.stations.any fun r =>
    r.segment == g && r.number != except && overlapping r.delay r.window d w

/-! ### ENLIST -/

/-- A pair part at ENLIST (R15). -/
def PairPart.fresh (kind : StationKind) (p : Pair) : PairPart :=
  { pair := p, baseline := none, latest := none, step := none, confirm := 0, missing := 0,
    health := .unmeasured, isolation := .inLine,
    connection := match kind with
      | .branching _ => some .connected
      | .repeater => none,
    operator := none, issue := 0 }

/-- A record at ENLIST (R2, R15, R105): one pair part for each pair that reaches the station. -/
def State.newStation (s : State) (a : EnlistArgs) (kind : StationKind) (g : Segment) : Station :=
  { number := a.station, kind := kind, segment := g, address := a.address, delay := a.delay,
    window := a.window.getD Config.defaultWindow, mode := .off, mask := 0#16, pattern := 0#16,
    settled := none, candidate := none, latched := none, matchSeen := false, armed := true, silent := 0,
    parts := (allPairs.filter (s.line.pairsOf g).has).map (PairPart.fresh kind) }

/-- ENLIST's first check read out: the kind and the segment, none where a field lies outside its range or
does not fit the kind (R14, check 1). -/
def readEnlist (a : EnlistArgs) : Option (StationKind × Segment) :=
  if stationOk a.station && addressOk a.address && delayOk a.delay && optOk windowOk a.window then
    match readKind a.kind a.branch, readSegment a.segment with
    | some .repeater, some g => some (.repeater, g)
    | some (.branching b), some .trunk => some (.branching b, .trunk)
    | _, _ => none
  else none

/-- ENLIST's third check: the table is full, or the branch does not fit (R14). -/
def State.enlistState (s : State) (kind : StationKind) (g : Segment) : Bool :=
  decide (Config.maxStations ≤ s.table.stations.length) ||
  match kind, g with
  | .repeater, .branch b => (s.unit? b).isNone
  | .branching b, _ => (s.unit? b).isSome
  | _, _ => false

/-- ENLIST's checks after the first, in order (R14): none when the record can be placed. -/
def State.enlistRefusal (s : State) (a : EnlistArgs) (kind : StationKind) (g : Segment) : Option Status :=
  let w := a.window.getD Config.defaultWindow
  if (s.station? a.station).isSome || (s.byAddress? a.address).isSome then some .duplicate
  else if s.enlistState kind g then some .state
  else if !s.clearsUnit g a.delay w then some .range
  else if s.overlapsIn g a.station a.delay w then some .overlap
  else none

/-- A record placed in the table and in its segment's Delay Index, the generation incremented (R15). -/
def State.placeStation (s : State) (r : Station) : State :=
  let l := s.indexInsert r.number r.delay (s.index r.segment)
  let s := s.setTable { s.table with stations := insertStation r s.table.stations }
  (s.setIndex r.segment l).bumpGeneration r.segment

/-- The Survey Controllers of the pairs of a new unit's branch gain a steering state UNKNOWN (R38). -/
def State.gainSteering (s : State) (n : Nat) (kind : StationKind) : State :=
  match kind with
  | .repeater => s
  | .branching b =>
    s.setSurvey (Oct.make fun p =>
      let c := s.sc p
      if (s.line.branchSets.get b).has p then { c with steering := addSteering n .unknown c.steering } else c)

/-- A WAITING pair whose request was held back presents it (R40). -/
def State.presentHeldBack (s : State) (p : Pair) : State :=
  let c := s.sc p
  if c.state == .waiting && !(s.pool.presented.any (·.1 == p)) && !s.heldBack (c.roundView.getD .trunk)
  then s.present p (c.roundKind.getD .regular) else s

/-- What an ENLIST does on one pair: a pair that gained a steering state plans again when it is WAITING,
and a request held back is presented (R38, R40). -/
def State.enlistOnPair (kind : StationKind) (s : State) (p : Pair) : State :=
  match kind with
  | .repeater => s.presentHeldBack p
  | .branching b =>
    if (s.line.branchSets.get b).has p then s.replanned p else s.presentHeldBack p

/-- An accepted ENLIST (R15, R38, R40). -/
def State.enlist (s : State) (a : EnlistArgs) (kind : StationKind) (g : Segment) : State :=
  let s := (s.placeStation (s.newStation a kind g)).gainSteering a.station kind
  (allPairs.foldl (State.enlistOnPair kind) s).settle

/-- ENLIST (R14, R15). -/
def performEnlist (a : EnlistArgs) (s : State) : Answer :=
  match readEnlist a with
  | none => s.refuse .range
  | some (kind, g) =>
    match s.enlistRefusal a kind g with
    | some st => s.refuse st
    | none => (s.enlist a kind g).ok .empty

/-! ### RETIRE -/

/-- A telegram to the station is outstanding on some pair (R16, R21). -/
def State.hasOutstanding (s : State) (n : Nat) : Bool :=
  allPairs.any fun p => (s.tc p).outstanding.any (·.telegram.dest == n)

/-- A telegram other than a POLL to the station is queued or waits on some pair (R21). -/
def State.hasQueued (s : State) (n : Nat) : Bool :=
  allPairs.any fun p => ((s.tc p).queue ++ (s.tc p).waitLine).any fun t => t.dest == n && !t.isPoll

/-- Some case of the station meets the test. -/
def State.hasCase (s : State) (n : Nat) (f : Case → Bool) : Bool :=
  s.arbiter.cases.any fun c => c.station == n && f c

/-- RETIRE's second check: work in flight on the station (R21). -/
def State.retireBusy (s : State) (n : Nat) : Bool :=
  s.hasCase n (·.inService) || s.hasOutstanding n || s.hasQueued n

/-- The branch of a unit holds a station (R21). -/
def State.branchInUse (s : State) (r : Station) : Bool :=
  match r.kind with
  | .repeater => false
  | .branching b => !(s.index (.branch b)).isEmpty

/-- RETIRE's third check (R21). -/
def State.retireState (s : State) (r : Station) : Bool :=
  (s.claims.any (·.station == r.number)) || s.branchInUse r || s.hasCase r.number (·.isHeld) ||
  s.hasCase r.number fun c => c.state == .pending && c.claim.isSome

/-- What RETIRE leaves of a Telegram Controller: no POLL to the station, and no overheard telegram of it
(R22; log 19). -/
def TelegramController.forget (c : TelegramController) (n : Nat) : TelegramController :=
  { c with
    queue := c.queue.filter fun t => !(t.isPoll && t.dest == n),
    overheard := c.overheard.filter fun h => h.station != n }

/-- The cases of a station withdrawn from the Case List, with no outcome and no attention (R22). -/
def State.withdrawCases (s : State) (n : Nat) : State :=
  s.setArbiter { s.arbiter with cases := s.arbiter.cases.filter fun c => c.station != n }

/-- A record taken out of the table and of its segment's Delay Index, the generation incremented (R22). -/
def State.removeStation (s : State) (r : Station) : State :=
  let l := (s.index r.segment).filter (· != r.number)
  let s := s.setTable { s.table with stations := s.table.stations.filter fun q => q.number != r.number }
  (s.setIndex r.segment l).bumpGeneration r.segment

/-- Every Survey Controller drops its steering state for a station (R38). -/
def State.dropSteering (s : State) (n : Nat) : State :=
  s.setSurvey (s.survey.map fun c => { c with steering := c.steering.filter fun e => e.1 != n })

/-- A pair plans again after a RETIRE that dropped one of its steering states, or left segment 0 with no
station (R38, R40). -/
def State.retireOnPair (before : State) (n : Nat) (s : State) (p : Pair) : State :=
  if ((before.sc p).steeringOf n).isSome || (s.index .trunk).isEmpty then s.replanned p else s

/-- An accepted RETIRE (R22, R38, R40). -/
def State.retire (s : State) (r : Station) : State :=
  let t := (((s.withdrawCases r.number).setTelegrams (s.telegrams.map (·.forget r.number))).removeStation r).dropSteering
    r.number
  (allPairs.foldl (s.retireOnPair r.number) t).settle

/-- RETIRE (R21, R22). -/
def performRetire (n : Nat) (s : State) : Answer :=
  match s.station? n with
  | none => s.refuse .notFound
  | some r =>
    if s.retireBusy n then s.refuse .busy
    else if s.retireState r then s.refuse .state
    else (s.retire r).ok .empty

/-- ENLIST. -/
def execEnlist (a : EnlistArgs) (s : State) : Host.Outcome State Fault Refusal :=
  .next (s.request 5 (performEnlist a))

/-- RETIRE. -/
def execRetire (n : Nat) (s : State) : Host.Outcome State Fault Refusal :=
  .next (s.request 7 (performRetire n))

end Sys2Proof.Machine
end

