-- ==== Sys2Proof/Machine/Amending.lean ====
section
/-! DEFINITION. The requests that change the stations enlisted: AMEND (R16 to R20, R112), REBASE (R23) and
SHIFT (R24 to R26). -/

namespace Sys2Proof.Machine

/-! ### AMEND -/

/-- A baseline entry names a pair that reaches the station and a gain in range (R2, R3). -/
def Station.baselineOk (r : Station) (e : Nat × Int) : Bool :=
  gainOk e.2 &&
  match readPair e.1 with
  | some p => r.reachedBy p
  | none => false

/-- AMEND's second check: every named value in its range (R16). -/
def Station.amendRanges (r : Station) (a : AmendArgs) : Bool :=
  optOk addressOk a.address && optOk delayOk a.delay && optOk windowOk a.window &&
  optOk (fun m => (readMode m).isSome) a.mode &&
  decide (a.baselines.length ≤ 8) && a.baselines.all r.baselineOk

/-- The request names a field of the geometry and address group (R16). -/
def amendsKeys (a : AmendArgs) : Bool := a.address.isSome || a.delay.isSome || a.window.isSome

/-- The request moves the station or its window (R17). -/
def amendsPlace (a : AmendArgs) : Bool := a.delay.isSome || a.window.isSome

/-- The request is a change of watch settings (R112). -/
def amendsWatch (a : AmendArgs) : Bool := a.mode.isSome || a.mask.isSome || a.pattern.isSome

/-- The second half of R6 with a new delay and window (R16, check 5): between a branch station and its
unit, or between a unit and every station of its branch. -/
def State.amendClears (s : State) (r : Station) (d w : Nat) : Bool :=
  s.clearsUnit r.segment d w &&
  match r.kind with
  | .repeater => true
  | .branching b => (s.segmentStations (.branch b)).all fun q => clears d w q.delay q.window

/-- A new address is in use by another record (R16, check 4). -/
def State.addressTaken (s : State) (n : Nat) : Option Nat → Bool
  | none => false
  | some x => s.table.stations.any fun q => q.address == x && q.number != n

/-- AMEND's checks after NOTFOUND, in order (R16; log 24). -/
def State.amendRefusal (s : State) (r : Station) (a : AmendArgs) : Option Status :=
  let d := a.delay.getD r.delay
  let w := a.window.getD r.window
  if !r.amendRanges a then some .range
  else if amendsKeys a && (s.hasOutstanding r.number || s.hasCase r.number (·.inService)) then some .busy
  else if s.addressTaken r.number a.address then some .duplicate
  else if amendsPlace a && !s.amendClears r d w then some .range
  else if amendsPlace a && s.overlapsIn r.segment r.number d w then some .overlap
  else none

/-- The record with its new address, delay and window (R17, R18). -/
def Station.amendGeometry (r : Station) (a : AmendArgs) : Station :=
  { r with address := a.address.getD r.address, delay := a.delay.getD r.delay,
           window := a.window.getD r.window }

/-- The record with its new watch settings, and the debounce reset when any is named (R20, R112). -/
def Station.amendWatch (r : Station) (a : AmendArgs) : Station :=
  if amendsWatch a then
    { r.resetDebounce with
      mode := (a.mode.bind readMode).getD r.mode, mask := a.mask.getD r.mask,
      pattern := a.pattern.getD r.pattern }
  else r

/-- The station moved to its place in its segment's Delay Index, and the generation incremented (R17). -/
def State.amendIndex (s : State) (r : Station) (d : Nat) : State :=
  let l := (s.index r.segment).filter (· != r.number)
  (s.setIndex r.segment (s.indexInsert r.number d l)).bumpGeneration r.segment

/-- A new baseline in a pair part: the confirm count 0, the health as the fields stand (R19). -/
def State.setBaseline (n : Nat) (s : State) (e : Nat × Int) : State :=
  match readPair e.1 with
  | none => s
  | some p =>
    (s.updatePart n p fun q => { q with baseline := some e.2, confirm := 0 }).refreshHealth n p

/-- An accepted AMEND (R16 to R20, R112). -/
def State.amend (s : State) (r : Station) (a : AmendArgs) : State :=
  let s := s.updateStation r.number fun r => (r.amendGeometry a).amendWatch a
  let s := if amendsPlace a then s.amendIndex r (a.delay.getD r.delay) else s
  a.baselines.foldl (State.setBaseline r.number) s

/-- AMEND (R16 to R20). -/
def performAmend (a : AmendArgs) (s : State) : Answer :=
  match s.station? a.station with
  | none => s.refuse .notFound
  | some r =>
    match s.amendRefusal r a with
    | some st => s.refuse st
    | none => (s.amend r a).ok .empty

/-! ### REBASE -/

/-- The stations that REBASE names: one, or ALL; none for a value that is neither (R23, R186). -/
def readStations (n : Nat) : Option (Option Nat) :=
  if n = 65535 then some none else if stationOk n then some (some n) else none

/-- The pair part is named by REBASE and has a latest gain (R23). -/
def rebases (station : Option Nat) (scope : ClaimPair) (r : Station) (q : PairPart) : Bool :=
  (station.isNone || station == some r.number) &&
  (match scope with
   | .all => true
   | .one p => q.pair == p) &&
  q.latest.isSome

/-- A pair part rebased (R23). -/
def State.rebasePart (s : State) (r : Station) (q : PairPart) : PairPart :=
  let q : PairPart := { q with baseline := q.latest.map (·.gain), confirm := 0 }
  { q with health := healthOf (s.caseAt? r.number q.pair).isSome q }

/-- Every named pair part with a latest gain rebased (R23). -/
def State.rebase (s : State) (station : Option Nat) (scope : ClaimPair) : State :=
  s.setTable { s.table with
    stations := s.table.stations.map fun r =>
      { r with parts := r.parts.map fun q => if rebases station scope r q then s.rebasePart r q else q } }

/-- How many pair parts REBASE changes (R23). -/
def State.rebaseCount (s : State) (station : Option Nat) (scope : ClaimPair) : Nat :=
  (s.table.stations.flatMap fun r => r.parts.filter (rebases station scope r)).length

/-- A single station and a single pair that name no pair part, or a single station that is not enlisted
(R23). -/
def State.rebaseFinds (s : State) (station : Option Nat) (scope : ClaimPair) : Bool :=
  match station, scope with
  | none, _ => true
  | some n, .all => (s.station? n).isSome
  | some n, .one p => (s.part? n p).isSome

/-- REBASE (R23), the refusals in the order of the rule (log 23). -/
def performRebase (station pair : Nat) (s : State) : Answer :=
  match readStations station with
  | none => s.refuse .range
  | some st =>
    if !s.rebaseFinds st .all then s.refuse .notFound
    else
      match readScope pair with
      | none => s.refuse .range
      | some scope =>
        if s.rebaseFinds st scope then (s.rebase st scope).ok (.count (s.rebaseCount st scope))
        else s.refuse .notFound

/-! ### SHIFT -/

/-- The station is in the moved set (R24). -/
def State.shifts (s : State) (g : Segment) (fromDelay : Nat) (r : Station) : Bool :=
  match g, r.segment with
  | .trunk, .trunk => fromDelay ≤ r.delay
  | .trunk, .branch b => (s.unit? b).any fun u => decide (fromDelay ≤ u.delay)
  | .branch b, _ => r.segment == .branch b && fromDelay ≤ r.delay

/-- A station's expected delay after the move. -/
def State.shiftedDelay (s : State) (g : Segment) (fromDelay : Nat) (delta : Int) (r : Station) : Int :=
  if s.shifts g fromDelay r then (r.delay : Int) + delta else r.delay

/-- A moved station stays in the delay range and beyond its unit (R25, check 3). -/
def State.shiftRange (s : State) (g : Segment) (fromDelay : Nat) (delta : Int) (r : Station) : Bool :=
  let d := s.shiftedDelay g fromDelay delta
  !s.shifts g fromDelay r ||
  (inRangeInt Config.minDelay Config.maxDelay (d r) &&
   match r.segment with
   | .trunk => true
   | .branch b =>
     match s.unit? b with
     | none => true
     | some u => decide (d u + ((u.window + r.window : Nat) : Int) < d r))

/-- Two stations of a segment fall out after the move: their windows overlap, or a moved one passes an
unmoved one (R25, check 4). -/
def State.shiftClash (s : State) (g : Segment) (fromDelay : Nat) (delta : Int) (r q : Station) : Bool :=
  let d := s.shiftedDelay g fromDelay delta
  r.segment == q.segment && r.number != q.number &&
  (decide ((d r - d q).natAbs ≤ r.window + q.window) ||
   (s.shifts g fromDelay r && !s.shifts g fromDelay q &&
    decide (r.delay < q.delay) != decide (d r < d q)))

/-- SHIFT's checks after the ranges, in order (R25). -/
def State.shiftRefusal (s : State) (g : Segment) (fromDelay : Nat) (delta : Int) : Option Status :=
  let l := s.table.stations
  let unitless := match g with
    | .trunk => false
    | .branch b => (s.unit? b).isNone
  if unitless then some .state
  else if !(l.all (s.shiftRange g fromDelay delta)) then some .range
  else if l.any fun r => l.any (s.shiftClash g fromDelay delta r) then some .overlap
  else none

/-- The segments of the line. -/
def allSegments : List Segment := [.trunk, .branch .b1, .branch .b2, .branch .b3]

/-- An accepted SHIFT that moves stations (R26). -/
def State.shift (s : State) (g : Segment) (fromDelay : Nat) (delta : Int) : State :=
  let moved := s.table.stations.filter (s.shifts g fromDelay)
  let t := s.setTable { s.table with
    stations := s.table.stations.map fun r => { r with delay := (s.shiftedDelay g fromDelay delta r).toNat } }
  (allSegments.filter fun h => moved.any (·.segment == h)).foldl State.bumpGeneration t

/-- An accepted SHIFT: a count of 0 and no change when it moves no station (R26). -/
def State.acceptShift (s : State) (g : Segment) (fromDelay : Nat) (delta : Int) : Answer :=
  if delta == 0 then s.ok (.count 0)
  else (s.shift g fromDelay delta).ok (.count (s.table.stations.filter (s.shifts g fromDelay)).length)

/-- SHIFT (R24 to R26). -/
def performShift (segment fromDelay : Nat) (delta : Int) (s : State) : Answer :=
  match readSegment segment with
  | none => s.refuse .range
  | some g =>
    if delayOk fromDelay && inRangeInt (-5000) 5000 delta then
      match s.shiftRefusal g fromDelay delta with
      | some st => s.refuse st
      | none => s.acceptShift g fromDelay delta
    else s.refuse .range

/-- AMEND. -/
def execAmend (a : AmendArgs) (s : State) : Host.Outcome State Fault Refusal :=
  .next (s.request 6 (performAmend a))

/-- REBASE. -/
def execRebase (station pair : Nat) (s : State) : Host.Outcome State Fault Refusal :=
  .next (s.request 8 (performRebase station pair))

/-- SHIFT. -/
def execShift (segment fromDelay : Nat) (delta : Int) (s : State) : Host.Outcome State Fault Refusal :=
  .next (s.request 9 (performShift segment fromDelay delta))

end Sys2Proof.Machine
end

