-- ==== Sys2Proof/Machine/AttentionRequests.lean ====
section
/-! DEFINITION. STRAY_READ (R81), ATTEND and ATTENTION_ENABLE (R182), RESTART (R183) and POWER_ON_RESET
(R184). -/

namespace Sys2Proof.Machine

/-- A stray slot emptied, its overrun flag clear (R78). -/
def StraySlot.empty : StraySlot := { held := none, overrun := false }

/-- STRAY READ (R81): the slot as it stood, then emptied. -/
def performStrayRead (pair : Nat) (s : State) : Answer :=
  match readPair pair with
  | none => s.refuse .range
  | some p => (s.setStrays (s.strays.set p StraySlot.empty)).ok (.stray (s.strays.get p))

/-- ATTEND (R182). -/
def performAttend (s : State) : Answer := s.clearAttention.ok (.causes s.port.attention)

/-- The mask names no cause outside the six (R182, R186). -/
def enableOk (m : Byte) : Bool := m &&& 0xC0#8 == 0#8

/-- ATTENTION ENABLE (R182). -/
def performAttentionEnable (m : Byte) (s : State) : Answer :=
  if enableOk m then (s.setEnable (AttentionSet.ofMask m)).ok (.causes (AttentionSet.ofMask m))
  else s.refuse .range

/-! ### RESTART -/

/-- A pair part after RESTART (R27): the measurements and the judgement go, the states in force stay, a
PENDING operator outcome becomes ABANDONED. -/
def PairPart.restarted (q : PairPart) : PairPart :=
  { q with
    latest := none, step := none, confirm := 0, missing := 0, health := .unmeasured,
    operator := q.operator.map fun a =>
      if a.outcome == .pending then { a with outcome := .abandoned } else a }

/-- A record after RESTART (R27, R113). -/
def Station.restarted (r : Station) : Station :=
  { r.resetDebounce with
    settled := none, latched := none, silent := 0, parts := r.parts.map PairPart.restarted }

/-- The whole part after RESTART (R183): each block takes it for its own state; the settings, the enable
set, the tag counters and the port's own state stand; the attention set is emptied last. -/
def State.restart (s : State) : State :=
  { s with
    port := { s.port with attention := AttentionSet.none },
    table := { s.table with stations := s.table.stations.map Station.restarted },
    survey := Oct.make fun p =>
      SurveyController.fresh ((s.unitsOnPair p).map fun n => (n, Steering.unknown)),
    pool := CorrelatorPool.fresh,
    strays := Oct.fill StraySlot.empty,
    telegrams := s.telegrams.map fun c => TelegramController.fresh c.tagCounter,
    sweeper := PollSweeper.fresh s.line.pollPeriod,
    arbiter := CaseArbiter.fresh s.arbiter.policy,
    claims := [],
    contexts := Oct.fill none }

/-- RESTART (R183). -/
def performRestart (s : State) : Answer := s.restart.ok .empty

/-- The part after the assertion and release of RESET (R184). The two fields of the model's own stand: the
commands that wait, and the count of free values drawn (log 27). -/
def State.powerOn (s : State) : State := { State.reset with pending := s.pending, draws := s.draws }

/-- STRAY_READ. -/
def execStrayRead (pair : Nat) (s : State) : Host.Outcome State Fault Refusal :=
  .next (s.request 26 (performStrayRead pair))

/-- ATTEND. -/
def execAttend (s : State) : Host.Outcome State Fault Refusal := .next (s.request 27 performAttend)

/-- ATTENTION_ENABLE. -/
def execAttentionEnable (m : Byte) (s : State) : Host.Outcome State Fault Refusal :=
  .next (s.request 28 (performAttentionEnable m))

/-- RESTART. -/
def execRestart (s : State) : Host.Outcome State Fault Refusal := .next (s.request 29 performRestart)

/-- POWER_ON_RESET. -/
def execPowerOnReset (s : State) : Host.Outcome State Fault Refusal := .next s.powerOn

end Sys2Proof.Machine
end

