-- ==== Sys2Proof/Machine/CaseRequests.lean ====
section
/-! DEFINITION. The case requests CASES, CASE and CLOSE (R143, R144), and the grant of a case as an event
(R138). -/

namespace Sys2Proof.Machine

/-- A case number, 1 to 255 (R126). -/
def caseNumberOk (n : Nat) : Bool := inRange 1 255 n

/-- CASES (R143). -/
def performListCases (s : State) : Answer :=
  s.ok (.cases (s.arbiter.cases.map fun c => (c.number, c.state, c.level)))

/-- The context that CASE returns with a case: present exactly while the case is in service (R172). -/
def State.contextOf (s : State) (c : Case) : Option Context :=
  if c.inService then s.context c.level else none

/-- CASE (R143, R172). -/
def performReadCase (n : Nat) (s : State) : Answer :=
  if caseNumberOk n then
    match s.case? n with
    | some c => s.ok (.case c (s.contextOf c))
    | none => s.refuse .notFound
  else s.refuse .range

/-- The AUTO claims of a case (R146). -/
def Claim.belongsTo (c : Claim) (n : Nat) : Bool := c.owner == .auto n

/-- The AUTO claim of a closed case released, and the release announced (R144, R155). -/
def State.releaseAuto (s : State) (n : Nat) : State :=
  if s.claims.any (·.belongsTo n) then (s.keepClaims fun c => !c.belongsTo n).announce else s

/-- A PENDING or HELD case closed (R144): the list, the confirm count and the health of its pair part, the
latched word, then its claim. -/
def State.closeCase (s : State) (c : Case) : State :=
  let s := s.setArbiter { s.arbiter with cases := s.arbiter.cases.filter fun d => d.number != c.number }
  let s := (s.updatePart c.station c.pair fun q => { q with confirm := 0 }).refreshHealth c.station c.pair
  let s := if c.evidence.has .alarm then s.dropLatch c.station else s
  (s.releaseAuto c.number).settle

/-- CLOSE (R144). -/
def performClose (n : Nat) (s : State) : Answer :=
  if caseNumberOk n then
    match s.case? n with
    | none => s.refuse .notFound
    | some c => if c.inService then s.refuse .busy else (s.closeCase c).ok .empty
  else s.refuse .range

/-- A grant, when one is due (R138 to R140, R158, R167). -/
def State.caseGrant (s : State) : State :=
  match s.grantDue with
  | none => s
  | some k => (s.grantCase k).settle

/-- CASES. -/
def execListCases (s : State) : Host.Outcome State Fault Refusal :=
  .next (s.request 16 performListCases)

/-- CASE. -/
def execReadCase (n : Nat) (s : State) : Host.Outcome State Fault Refusal :=
  .next (s.request 17 (performReadCase n))

/-- CLOSE. -/
def execClose (n : Nat) (s : State) : Host.Outcome State Fault Refusal :=
  .next (s.request 18 (performClose n))

/-- CASE_GRANT. -/
def execCaseGrant (s : State) : Host.Outcome State Fault Refusal := .next s.caseGrant

end Sys2Proof.Machine
end

