-- ==== Sys2Proof/Machine/ClaimRequests.lean ====
section
/-! DEFINITION. The claim requests TAKE, DROP and CLAIMS (R148 to R150), and the operator actions ISOLATE,
RESTORE, CUT and RECONNECT (R154). -/

namespace Sys2Proof.Machine

/-! ### Claims -/

/-- TAKE on a scope in range (R148). -/
def State.takeScope (s : State) (r : Station) (scope : ClaimPair) : Answer :=
  if r.scopeReaches scope then
    match s.claimAnswer r.number scope with
    | .busy c => (s, .held, .claimEntry c)
    | .full => s.refuse .full
    | .granted k =>
      (s.addClaim { number := k, station := r.number, pair := scope, owner := .operator }).ok (.claimNumber k)
  else s.refuse .range

/-- TAKE (R148). -/
def performTake (station pair : Nat) (s : State) : Answer :=
  match readScope pair with
  | none => s.refuse .range
  | some scope =>
    if stationOk station then
      match s.station? station with
      | none => s.refuse .notFound
      | some r => s.takeScope r scope
    else s.refuse .range

/-- An accepted DROP: the claim released and the release announced (R149, R155). -/
def State.dropClaim (s : State) (n : Nat) : State :=
  ((s.keepClaims fun c => c.number != n).announce).settle

/-- DROP (R149). -/
def performDrop (n : Nat) (s : State) : Answer :=
  if inRange 0 15 n then
    match s.claim? n with
    | none => s.refuse .notFound
    | some c => if c.owner == .operator then (s.dropClaim n).ok .empty else s.refuse .state
  else s.refuse .range

/-- CLAIMS (R150). -/
def performListClaims (s : State) : Answer := s.ok (.claims s.claims)

/-! ### Operator actions (R154) -/

/-- The pair is covered by an OPERATOR claim on the station (R154). -/
def State.operatorCovers (s : State) (n : Nat) (p : Pair) : Bool :=
  s.claims.any fun c => c.owner == .operator && c.covers n p

/-- The kind fits the station: CUT and RECONNECT go to a branching unit only (R154). -/
def Station.operatorFits (r : Station) (k : TelegramKind) : Bool :=
  r.isUnit || (k != .cut && k != .reconnect)

/-- The checks of an operator action on a scope that reaches the station, in order (R154). -/
def State.operatorRefusal (s : State) (r : Station) (scope : ClaimPair) (k : TelegramKind) : Option Status :=
  let pairs := r.pairsOf scope
  if !(r.scopeReaches scope && r.operatorFits k) then some .range
  else if !(pairs.all (s.operatorCovers r.number)) then some .noClaim
  else if !(pairs.all s.driving) then some .role
  else if !(pairs.all fun p => (s.tc p).hasPlace) then some .full
  else none

/-- A pair part with a new operator action: PENDING, with the next issue number (R5). -/
def PairPart.operate (q : PairPart) (k : TelegramKind) : PairPart :=
  { q with operator := some { kind := k, outcome := .pending }, issue := (q.issue + 1) % 256 }

/-- An operator action on one pair: the pair part's action, and the telegram placed (R5, R85, R154). -/
def State.operateOn (n : Nat) (k : TelegramKind) (s : State) (p : Pair) : State :=
  let s := s.updatePart n p (·.operate k)
  match s.part? n p with
  | some q => s.submit p { dest := n, kind := k, submitter := .operator q.issue }
  | none => s

/-- An accepted operator action: one telegram on each pair of the action (R154). -/
def State.operate (s : State) (r : Station) (scope : ClaimPair) (k : TelegramKind) : State :=
  ((r.pairsOf scope).foldl (State.operateOn r.number k) s).settle

/-- An operator action (R154); the kind is none where an ISOLATE names no action of its own. -/
def performOperator (station pair : Nat) (kind : Option TelegramKind) (s : State) : Answer :=
  match readScope pair, kind with
  | some scope, some k =>
    if stationOk station then
      match s.station? station with
      | none => s.refuse .notFound
      | some r =>
        match s.operatorRefusal r scope k with
        | some st => s.refuse st
        | none => (s.operate r scope k, .queued, .empty)
    else s.refuse .range
  | _, _ => s.refuse .range

/-- ISOLATE (R154). -/
def performIsolate (station pair action : Nat) : State → Answer :=
  performOperator station pair (readIsolate action)

/-- RESTORE (R154). -/
def performRestore (station pair : Nat) : State → Answer := performOperator station pair (some .restore)

/-- CUT (R154). -/
def performCut (station pair : Nat) : State → Answer := performOperator station pair (some .cut)

/-- RECONNECT (R154). -/
def performReconnect (station pair : Nat) : State → Answer := performOperator station pair (some .reconnect)

/-- TAKE. -/
def execTake (station pair : Nat) (s : State) : Host.Outcome State Fault Refusal :=
  .next (s.request 19 (performTake station pair))

/-- DROP. -/
def execDrop (n : Nat) (s : State) : Host.Outcome State Fault Refusal :=
  .next (s.request 20 (performDrop n))

/-- CLAIMS. -/
def execListClaims (s : State) : Host.Outcome State Fault Refusal :=
  .next (s.request 21 performListClaims)

/-- ISOLATE. -/
def execIsolate (station pair action : Nat) (s : State) : Host.Outcome State Fault Refusal :=
  .next (s.request 22 (performIsolate station pair action))

/-- RESTORE. -/
def execRestore (station pair : Nat) (s : State) : Host.Outcome State Fault Refusal :=
  .next (s.request 23 (performRestore station pair))

/-- CUT. -/
def execCut (station pair : Nat) (s : State) : Host.Outcome State Fault Refusal :=
  .next (s.request 24 (performCut station pair))

/-- RECONNECT. -/
def execReconnect (station pair : Nat) (s : State) : Host.Outcome State Fault Refusal :=
  .next (s.request 25 (performReconnect station pair))

end Sys2Proof.Machine
end

