-- ==== Sys2Proof/Machine/Lookups.lean ====
section
/-! DEFINITION. The lookups FIND_BY_NUMBER, FIND_BY_ADDRESS, FIND_BY_DELAY and FIND_NEXT (R11 to R13). -/

namespace Sys2Proof.Machine

/-- A record as a lookup returns it, with the generation in force of its segment (section 1.5). -/
def State.view (s : State) (r : Station) : StationView := { record := r, generation := s.generation r.segment }

/-- FIND BY NUMBER (R11). -/
def performFindByNumber (n : Nat) (s : State) : Answer :=
  match s.station? n with
  | some r => s.ok (.station (s.view r))
  | none => s.refuse .notFound

/-- FIND BY ADDRESS (R11). -/
def performFindByAddress (a : Nat) (s : State) : Answer :=
  if addressOk a then
    match s.byAddress? a with
    | some r => s.ok (.station (s.view r))
    | none => s.refuse .notFound
  else s.refuse .range

/-- The station's window holds a delay, both ends included (R12). -/
def Station.holds (r : Station) (d : Nat) : Bool := r.delay ≤ d + r.window && d ≤ r.delay + r.window

/-- The answer of FIND BY DELAY on a segment (R12). -/
def State.findDelay (s : State) (g : Segment) (d : Nat) : Answer :=
  let l := s.segmentStations g
  if l.isEmpty then s.refuse .notFound
  else
    match l.find? (·.holds d) with
    | some r => s.ok (.stationAtDelay (s.view r))
    | none =>
      s.ok (.span (((l.filter fun r => decide (r.delay < d)).getLast?).map s.view)
        ((l.find? fun r => decide (d < r.delay)).map s.view))

/-- FIND BY DELAY (R12). -/
def performFindByDelay (segment d : Nat) (s : State) : Answer :=
  match readSegment segment with
  | some g => if d ≤ 150050 then s.findDelay g d else s.refuse .range
  | none => s.refuse .range

/-- The station number that follows one in a list. -/
def nextAfter (n : Nat) : List Nat → Option Nat
  | [] => none
  | m :: rest => if m == n then rest.head? else nextAfter n rest

/-- The start value that means START (R186). -/
def startValue : Nat := 65535

/-- FIND NEXT in number order (R13). -/
def State.findNextNumber (s : State) (start : Nat) : Answer :=
  if start == startValue then s.ok (.nextStation (s.table.stations.head?.map s.view))
  else if stationOk start then
    s.ok (.nextStation ((s.table.stations.find? fun r => decide (start < r.number)).map s.view))
  else s.refuse .range

/-- FIND NEXT in delay order (R13). -/
def State.findNextDelay (s : State) (start : Nat) : Answer :=
  if stationOk start then
    match s.station? start with
    | none => s.refuse .notFound
    | some r => s.ok (.nextStation (((nextAfter start (s.index r.segment)).bind s.station?).map s.view))
  else s.refuse .range

/-- FIND NEXT: order NUMBER 0, DELAY 1 (R13, R187). -/
def performFindNext (order start : Nat) (s : State) : Answer :=
  match order with
  | 0 => s.findNextNumber start
  | 1 => s.findNextDelay start
  | _ => s.refuse .range

/-- FIND_BY_NUMBER. -/
def execFindByNumber (n : Nat) (s : State) : Host.Outcome State Fault Refusal :=
  .next (s.request 1 (performFindByNumber n))

/-- FIND_BY_ADDRESS. -/
def execFindByAddress (a : Nat) (s : State) : Host.Outcome State Fault Refusal :=
  .next (s.request 2 (performFindByAddress a))

/-- FIND_BY_DELAY. -/
def execFindByDelay (segment d : Nat) (s : State) : Host.Outcome State Fault Refusal :=
  .next (s.request 3 (performFindByDelay segment d))

/-- FIND_NEXT. -/
def execFindNext (order start : Nat) (s : State) : Host.Outcome State Fault Refusal :=
  .next (s.request 4 (performFindNext order start))

end Sys2Proof.Machine
end

