-- ==== Sys2Proof/Machine/Roles.lean ====
section
/-! DEFINITION. Pair roles and contention: entering and leaving roles, ROLE, PAIR_STATUS, CLEAR and
FAR_END_DRIVE (07_pair_roles_and_contention.md). -/

namespace Sys2Proof.Machine

/-- The role of a pair written. -/
def State.setRole (s : State) (p : Pair) (r : Role) : State := s.setSc p { s.sc p with role := r }

/-- Every block ends its work on a pair that leaves DRIVING, in the order of R117's table (log 15). The role
is the new one already; `keep` says that it is LISTENING, so the abandoned exchange is kept. -/
def State.leaveDriving (s : State) (p : Pair) (keep : Bool) : State :=
  (((s.haltSurvey p).abortRounds p).abandonTelegrams p keep).interrupt p

/-- The FAR claims of a pair released, in one change with one announcement (R118, R153, R155). -/
def State.releaseFar (s : State) (p : Pair) : State :=
  if s.claims.any (·.isFarOn p) then (s.keepClaims fun c => !c.isFarOn p).announce else s

/-- A pair leaves LISTENING (R118): its FAR claims, its overheard telegrams and the abandoned exchange go. -/
def State.leaveListening (s : State) (p : Pair) : State := (s.endListening p).releaseFar p

/-- A pair leaves its role and enters another (R115 to R118). -/
def State.changeRole (s : State) (p : Pair) (r : Role) : State :=
  let old := (s.sc p).role
  let s := s.setRole p r
  let s := match old with
    | .driving => s.leaveDriving p (r == .listening)
    | .listening => s.leaveListening p
    | .off => s
  match r with
  | .driving => s.startSurvey p
  | _ => s

/-- An accepted ROLE: nothing changes when the role is the one in force (R115). -/
def State.role (s : State) (p : Pair) (r : Role) : State :=
  if (s.sc p).role == r then s else (s.changeRole p r).settle

/-- ROLE (R115). -/
def performRole (pair role : Nat) (s : State) : Answer :=
  match readPair pair, readRole role with
  | some p, some r =>
    if r == .driving && !s.equipped p then s.refuse .state
    else if r == .driving && (s.sc p).contention then s.refuse .contended
    else (s.role p r).ok .empty
  | _, _ => s.refuse .range

/-- What PAIR STATUS returns of a pair (R122). -/
def State.pairView (s : State) (p : Pair) : PairView :=
  { pair := p, equipped := s.equipped p, controller := s.sc p, settings := s.settings.get p }

/-- PAIR STATUS (R122): the state as it stands after the status-read flag is set. -/
def performPairStatus (pair : Nat) (s : State) : Answer :=
  match readPair pair with
  | none => s.refuse .range
  | some p =>
    let s := s.flagStatusRead p
    s.ok (.pairStatus (s.pairView p))

/-- CLEAR (R123). -/
def performClear (pair : Nat) (s : State) : Answer :=
  match readPair pair with
  | none => s.refuse .range
  | some p =>
    if (s.sc p).contention && (s.sc p).statusRead then (s.clearContentionFlags p).ok .empty
    else s.refuse .state

/-! ### Far-end drive (R119, R120) -/

/-- The signal is the other end's (R119). -/
def State.fromFarEnd (s : State) : FarSignal → Bool
  | .probe code => code == s.line.terminal.other
  | .telegram origin _ _ _ => origin == s.line.terminal.other

/-- A far-end telegram is decoded; a probe carries nothing (R98, R120). -/
def State.decode (s : State) (p : Pair) : FarSignal → State
  | .probe _ => s
  | .telegram _ address tag kind => s.overhear p address tag kind

/-- Contention (R120): LISTENING, the flags, CONTENTION raised, the effects of leaving DRIVING. -/
def State.contend (s : State) (p : Pair) : State :=
  ((((s.setRole p .listening).flagContention p).raise .contention).leaveDriving p true)

/-- Far-end drive taken by the role in force (R119). -/
def State.farEndDrive (s : State) (p : Pair) (sig : FarSignal) : State :=
  if s.equipped p && s.fromFarEnd sig then
    match (s.sc p).role with
    | .driving => ((s.contend p).decode p sig).settle
    | .listening => s.decode p sig
    | .off => s
  else s

/-- ROLE. -/
def execRole (pair role : Nat) (s : State) : Host.Outcome State Fault Refusal :=
  .next (s.request 13 (performRole pair role))

/-- PAIR_STATUS. -/
def execPairStatus (pair : Nat) (s : State) : Host.Outcome State Fault Refusal :=
  .next (s.request 14 (performPairStatus pair))

/-- CLEAR. -/
def execClear (pair : Nat) (s : State) : Host.Outcome State Fault Refusal :=
  .next (s.request 15 (performClear pair))

/-- FAR_END_DRIVE. -/
def execFarEndDrive (p : Pair) (sig : FarSignal) (s : State) : Host.Outcome State Fault Refusal :=
  .next (s.farEndDrive p sig)

end Sys2Proof.Machine
end

