-- ==== Sys2Proof/Machine/Settings.lean ====
section
/-! DEFINITION. The settings requests SETLINE, SETPAIR and POLICY (R178 to R180). -/

namespace Sys2Proof.Machine

/-! ### SETLINE -/

/-- The first set of pairs is a subset of the second. -/
def subsetOf (a b : PairSet) : Bool := a &&& ~~~b == 0#8

/-- A named branch pair set is a non-empty subset of the equipped pairs (R178). -/
def branchSetOk (equipped : PairSet) (b : PairSet) : Bool := b != 0#8 && subsetOf b equipped

/-- The equipped pairs that the request leaves in force (R178). -/
def LineSettings.equippedAfter (l : LineSettings) (a : SetlineArgs) : PairSet := a.equipped.getD l.equipped

/-- SETLINE's first check (R178). -/
def LineSettings.setlineRanges (l : LineSettings) (a : SetlineArgs) : Bool :=
  let e := l.equippedAfter a
  optOk (fun n => (readEnd n).isSome) a.terminal && optOk (fun q => q != 0#8) a.equipped &&
  optOk (branchSetOk e) a.branch1 && optOk (branchSetOk e) a.branch2 && optOk (branchSetOk e) a.branch3 &&
  optOk (inRange 1 3600) a.pollPeriod && optOk (inRange 1 50) a.turnaround && optOk (inRange 1 60) a.claimWait

/-- The settings that an accepted SETLINE leaves; a branch pair set not named becomes the whole of the
equipped pairs (R178). -/
def LineSettings.setline (l : LineSettings) (a : SetlineArgs) : LineSettings :=
  let e := l.equippedAfter a
  { terminal := (a.terminal.bind readEnd).getD l.terminal, equipped := e,
    branchSets := { b1 := a.branch1.getD e, b2 := a.branch2.getD e, b3 := a.branch3.getD e },
    pollPeriod := a.pollPeriod.getD l.pollPeriod, turnaround := a.turnaround.getD l.turnaround,
    claimWait := a.claimWait.getD l.claimWait }

/-- SETLINE's second check: a record in the table, or a pair that is not OFF (R178). -/
def State.lineInUse (s : State) : Bool :=
  !s.table.stations.isEmpty || allPairs.any fun p => (s.sc p).role != .off

/-- An accepted SETLINE: every setting, and the poll timer restarted with the new period (R100, R178). -/
def State.setline (s : State) (a : SetlineArgs) : State :=
  let l := s.line.setline a
  (s.setLine l).setSweeper { s.sweeper with pollTimer := l.pollPeriod }

/-- SETLINE (R178). -/
def performSetline (a : SetlineArgs) (s : State) : Answer :=
  if s.line.setlineRanges a then
    if s.lineInUse then s.refuse .state else (s.setline a).ok .empty
  else s.refuse .range

/-! ### SETPAIR -/

/-- SETPAIR's ranges, in 0.1 dB where they are levels (R179). -/
def setpairRanges (a : SetpairArgs) : Bool :=
  optOk (inRange 4 64) a.stackDepth && optOk (inRange 1 16) a.dwell &&
  optOk (inRangeInt 5 200) a.stepThreshold && optOk (inRange 1 8) a.confirmRounds &&
  optOk (inRangeInt (-800) (-300)) a.echoFloor && optOk (inRangeInt (-600) (-100)) a.strayThreshold

/-- The settings that an accepted SETPAIR leaves (R179). -/
def PairSettings.setpair (v : PairSettings) (a : SetpairArgs) : PairSettings :=
  { stackDepth := a.stackDepth.getD v.stackDepth, dwell := a.dwell.getD v.dwell,
    stepThreshold := a.stepThreshold.getD v.stepThreshold,
    confirmRounds := a.confirmRounds.getD v.confirmRounds,
    echoFloor := a.echoFloor.getD v.echoFloor, strayThreshold := a.strayThreshold.getD v.strayThreshold }

/-- The confirm counts of a pair clamped to its confirm rounds (R71). -/
def State.clampConfirm (s : State) (p : Pair) : State :=
  let k := (s.settings.get p).confirmRounds
  s.setTable { s.table with
    stations := s.table.stations.map fun r => r.updatePart p fun q => { q with confirm := min q.confirm k } }

/-- An accepted SETPAIR (R71, R179). -/
def State.setpair (s : State) (p : Pair) (a : SetpairArgs) : State :=
  (s.setSettings (s.settings.set p ((s.settings.get p).setpair a))).clampConfirm p

/-- SETPAIR (R179). -/
def performSetpair (a : SetpairArgs) (s : State) : Answer :=
  match readPair a.pair with
  | none => s.refuse .range
  | some p => if setpairRanges a then (s.setpair p a).ok .empty else s.refuse .range

/-! ### POLICY -/

/-- The policy after entries of the level map, in order: the last of a repeated cause stands (R180,
R187). -/
def Policy.setLevels (v : Policy) (l : List (Cause × Level)) : Policy :=
  l.foldl (fun v e => { v with levelMap := v.levelMap.set e.1 e.2 }) v

/-- The policy after entries of the action map (R180). -/
def Policy.setActions (v : Policy) (l : List (Cause × MapAction)) : Policy :=
  l.foldl (fun v e => { v with actionMap := v.actionMap.set e.1 e.2 }) v

/-- The policy after level modes (R180). -/
def Policy.setModes (v : Policy) (l : List (Level × LevelMode)) : Policy :=
  l.foldl (fun v e => { v with modes := v.modes.set e.1 e.2 }) v

/-- The policy after level masks (R180). -/
def Policy.setMasks (v : Policy) (l : List (Level × Bool)) : Policy :=
  l.foldl (fun v e => { v with masked := v.masked.set e.1 e.2 }) v

/-- The policy that an accepted POLICY leaves; none where a code or a count lies outside its range (R180,
R185, R187). -/
def Policy.amended (v : Policy) (a : PolicyArgs) : Option Policy :=
  match readList 5 readCause readLevel a.levels, readList 5 readCause readMapAction a.actions,
    readList 8 readLevel readLevelMode a.modes, readList 8 readLevel readMasked a.masks with
  | some l, some c, some m, some k => some ((((v.setLevels l).setActions c).setModes m).setMasks k)
  | _, _, _, _ => none

/-- POLICY (R180). -/
def performPolicy (a : PolicyArgs) (s : State) : Answer :=
  match s.arbiter.policy.amended a with
  | none => s.refuse .range
  | some v => (s.setArbiter { s.arbiter with policy := v }).ok .empty

/-- SETLINE. -/
def execSetline (a : SetlineArgs) (s : State) : Host.Outcome State Fault Refusal :=
  .next (s.request 10 (performSetline a))

/-- SETPAIR. -/
def execSetpair (a : SetpairArgs) (s : State) : Host.Outcome State Fault Refusal :=
  .next (s.request 11 (performSetpair a))

/-- POLICY. -/
def execPolicy (a : PolicyArgs) (s : State) : Host.Outcome State Fault Refusal :=
  .next (s.request 12 (performPolicy a))

end Sys2Proof.Machine
end

