-- ==== Sys2Proof/Machine/PortEvents.lean ====
section
/-! DEFINITION. The port's own events: BADFRAME, FRAME_COLLISION, RESPONSE_READY, READ_TRANSACTION and
IGNORED_TRANSACTION (R174 to R176, R185). -/

namespace Sys2Proof.Machine

/-- What performs a request; none for a command that is no request (R187). -/
def performer : Instr → Option (State → Answer)
  | .findByNumber n => some (performFindByNumber n)
  | .findByAddress a => some (performFindByAddress a)
  | .findByDelay g d => some (performFindByDelay g d)
  | .findNext o n => some (performFindNext o n)
  | .enlist a => some (performEnlist a)
  | .amend a => some (performAmend a)
  | .retire n => some (performRetire n)
  | .rebase n p => some (performRebase n p)
  | .shift g d x => some (performShift g d x)
  | .setline a => some (performSetline a)
  | .setpair a => some (performSetpair a)
  | .policy a => some (performPolicy a)
  | .role p r => some (performRole p r)
  | .pairStatus p => some (performPairStatus p)
  | .clearContention p => some (performClear p)
  | .listCases => some performListCases
  | .readCase n => some (performReadCase n)
  | .close n => some (performClose n)
  | .take n p => some (performTake n p)
  | .drop n => some (performDrop n)
  | .listClaims => some performListClaims
  | .isolate n p a => some (performIsolate n p a)
  | .restore n p => some (performRestore n p)
  | .cut n p => some (performCut n p)
  | .reconnect n p => some (performReconnect n p)
  | .strayRead p => some (performStrayRead p)
  | .attend => some performAttend
  | .attentionEnable m => some (performAttentionEnable m)
  | .restart => some performRestart
  | .badframe _ => none
  | .frameCollision => none
  | .responseReady => none
  | .readTransaction _ => none
  | .ignoredTransaction _ _ => none
  | .powerOnReset => none
  | .farEndDrive _ _ => none
  | .reply _ _ => none
  | .replyTimerExpiry _ => none
  | .pollTimerExpiry => none
  | .listenSpanExpiry _ _ => none
  | .takeResult => none
  | .caseGrant => none
  | .claimWaitExpiry _ => none

/-- A frame that fails the tests is answered BADFRAME (R174). -/
def performBadFrame (s : State) : Answer := s.refuse .badFrame

/-- A frame of no byte is answered BADFRAME, and the free value of its kind byte is drawn (log 7). -/
def performEmptyFrame (s : State) : Answer := (s.setDraws (s.draws + 1), .badFrame, .empty)

/-- The end of a request transaction, given by the bytes after its mark: a frame that passes the tests is
performed as its request (log 6), any other is answered BADFRAME with its kind byte as received (R174,
R185). A transaction with no byte after its mark has a kind byte that the spec does not state: a free
value (log 7). -/
def State.requestFrame (s : State) (bytes : List Byte) : State :=
  match bytes with
  | [] => s.request (Config.emptyFrameKind s.draws) performEmptyFrame
  | kind :: _ =>
    match (decodeFrame bytes).bind performer with
    | some perform => s.request kind perform
    | none => s.request kind performBadFrame

/-- A transaction given by all its bytes: the request mark 81, the read mark 82, or ignored with filler
bytes shifted out (R185; log 6). -/
def State.transaction (s : State) (first : Byte) (rest : List Byte) : State :=
  if first == 81#8 then s.requestFrame rest
  else if first == 82#8 then s.read rest.length
  else s.shiftOut (List.replicate (rest.length + 1) 0#8)

/-- A request frame's transaction ends while the port is PERFORMING or RESPONSE READY (R175). In IDLE there
is no such event (log 3). -/
def State.collide (s : State) : State :=
  match s.port.state with
  | .idle => s
  | _ => s.setCollision

/-- BADFRAME. -/
def execBadframe (bytes : List Byte) (s : State) : Host.Outcome State Fault Refusal :=
  .next (s.requestFrame bytes)

/-- FRAME_COLLISION. -/
def execFrameCollision (s : State) : Host.Outcome State Fault Refusal := .next s.collide

/-- RESPONSE_READY. -/
def execResponseReady (s : State) : Host.Outcome State Fault Refusal := .next s.finishPerforming

/-- READ_TRANSACTION. -/
def execReadTransaction (n : Nat) (s : State) : Host.Outcome State Fault Refusal := .next (s.read n)

/-- IGNORED_TRANSACTION. -/
def execIgnoredTransaction (first : Byte) (rest : List Byte) (s : State) :
    Host.Outcome State Fault Refusal := .next (s.transaction first rest)

end Sys2Proof.Machine
end

