-- ==== Sys2Proof/Machine/Dispatch.lean ====
section
/-! DEFINITION. The effect of every command on the part, but for the queue of waiting commands. -/

namespace Sys2Proof.Machine

def exec (i : Instr) (s : State) : Host.Outcome State Fault Refusal :=
  match i with
  -- lookups
  | .findByNumber n => Sys2Proof.Machine.execFindByNumber n s
  | .findByAddress a => Sys2Proof.Machine.execFindByAddress a s
  | .findByDelay g d => Sys2Proof.Machine.execFindByDelay g d s
  | .findNext o n => Sys2Proof.Machine.execFindNext o n s
  -- the Station Table
  | .enlist a => Sys2Proof.Machine.execEnlist a s
  | .amend a => Sys2Proof.Machine.execAmend a s
  | .retire n => Sys2Proof.Machine.execRetire n s
  | .rebase n p => Sys2Proof.Machine.execRebase n p s
  | .shift g d x => Sys2Proof.Machine.execShift g d x s
  -- settings
  | .setline a => Sys2Proof.Machine.execSetline a s
  | .setpair a => Sys2Proof.Machine.execSetpair a s
  | .policy a => Sys2Proof.Machine.execPolicy a s
  -- pair roles
  | .role p r => Sys2Proof.Machine.execRole p r s
  | .pairStatus p => Sys2Proof.Machine.execPairStatus p s
  | .clearContention p => Sys2Proof.Machine.execClear p s
  -- cases
  | .listCases => Sys2Proof.Machine.execListCases s
  | .readCase n => Sys2Proof.Machine.execReadCase n s
  | .close n => Sys2Proof.Machine.execClose n s
  -- claims
  | .take n p => Sys2Proof.Machine.execTake n p s
  | .drop n => Sys2Proof.Machine.execDrop n s
  | .listClaims => Sys2Proof.Machine.execListClaims s
  -- operator actions
  | .isolate n p a => Sys2Proof.Machine.execIsolate n p a s
  | .restore n p => Sys2Proof.Machine.execRestore n p s
  | .cut n p => Sys2Proof.Machine.execCut n p s
  | .reconnect n p => Sys2Proof.Machine.execReconnect n p s
  -- strays, attention, RESTART
  | .strayRead p => Sys2Proof.Machine.execStrayRead p s
  | .attend => Sys2Proof.Machine.execAttend s
  | .attentionEnable m => Sys2Proof.Machine.execAttentionEnable m s
  | .restart => Sys2Proof.Machine.execRestart s
  -- the Request Port
  | .badframe b => Sys2Proof.Machine.execBadframe b s
  | .frameCollision => Sys2Proof.Machine.execFrameCollision s
  | .responseReady => Sys2Proof.Machine.execResponseReady s
  | .readTransaction n => Sys2Proof.Machine.execReadTransaction n s
  | .ignoredTransaction f b => Sys2Proof.Machine.execIgnoredTransaction f b s
  | .powerOnReset => Sys2Proof.Machine.execPowerOnReset s
  -- the line and the part's own events
  | .farEndDrive p x => Sys2Proof.Machine.execFarEndDrive p x s
  | .reply p r => Sys2Proof.Machine.execReply p r s
  | .replyTimerExpiry p => Sys2Proof.Machine.execReplyTimerExpiry p s
  | .pollTimerExpiry => Sys2Proof.Machine.execPollTimerExpiry s
  | .listenSpanExpiry k t => Sys2Proof.Machine.execListenSpanExpiry k t s
  | .takeResult => Sys2Proof.Machine.execTakeResult s
  | .caseGrant => Sys2Proof.Machine.execCaseGrant s
  | .claimWaitExpiry l => Sys2Proof.Machine.execClaimWaitExpiry l s

end Sys2Proof.Machine
end

