-- ==== Sys2Proof/Machine/Step.lean ====
section
/-! DEFINITION. One step: the command at the front of the queue, taken with the queue's rest. -/

namespace Sys2Proof.Machine

/-- The step: the front command's effect on the part with the queue's rest; on an empty queue the part
idles (log 1). -/
def step (s : State) : Host.Outcome State Fault Refusal :=
  match s.pending with
  | [] => .next s
  | i :: rest => exec i (s.setPending rest)

/-- The part with the command that a table word spells put at the front of its queue; unchanged where the
word spells none. -/
def State.withFetchWord (s : State) (nbits w : Nat) : State :=
  match decodeTableWord nbits w with
  | some i => s.setPending (i :: s.pending)
  | none => s

end Sys2Proof.Machine
end

