-- ==== Sys2Proof/Safety.lean ====
section
/-! DEFINITION. What statements about the part are made of: frames (which blocks a change reaches), the laws of
the spec as decidable conditions on a state, and what requests, reports, polls, plans and contexts come to, in the
words of the rules. -/

namespace Sys2Proof.Machine

/-! ### Frames -/

/-- The blocks of a state, one for each field. -/
inductive Part where
  | port
  | line
  | settings
  | table
  | survey
  | pool
  | strays
  | telegrams
  | sweeper
  | arbiter
  | claims
  | contexts
  | draws
  | pending
deriving DecidableEq, Repr

/-- The block stands in the second state as in the first. -/
def Part.same (s t : State) : Part → Prop
  | .port => t.port = s.port
  | .line => t.line = s.line
  | .settings => t.settings = s.settings
  | .table => t.table = s.table
  | .survey => t.survey = s.survey
  | .pool => t.pool = s.pool
  | .strays => t.strays = s.strays
  | .telegrams => t.telegrams = s.telegrams
  | .sweeper => t.sweeper = s.sweeper
  | .arbiter => t.arbiter = s.arbiter
  | .claims => t.claims = s.claims
  | .contexts => t.contexts = s.contexts
  | .draws => t.draws = s.draws
  | .pending => t.pending = s.pending

/-- Every block outside the list stands as it stood. -/
def Only (l : List Part) (s t : State) : Prop := ∀ f, f ∉ l → f.same s t

/-- The port but for its state: the flags, the sets and the bytes shifted out. -/
def State.samePortBesidesState (s t : State) : Prop :=
  t.port.collision = s.port.collision ∧ t.port.attention = s.port.attention ∧
  t.port.enable = s.port.enable ∧ t.port.shiftedOut = s.port.shiftedOut

/-! ### Requests and their answers -/

/-- The request, taken in the first state, leaves the second one behind a response that has the request's kind
byte, the status and the body (R174, R177, R187). -/
def Answers (i : Instr) (s t : State) (st : Status) (b : Body) : Prop :=
  ∃ k, requestKind i = some k ∧
    exec i s = .next (t.setPort { t.port with
      state := .performing { kind := BitVec.ofNat 8 k, status := st, body := b } })

/-- The request is refused: nothing changes behind its response, which has an empty body (R177, R188). -/
def Refuses (i : Instr) (s : State) (st : Status) : Prop := Answers i s s st .empty

/-- The status is that of the first condition of the list that holds. -/
def FirstApplies : List (Prop × Status) → Status → Prop
  | [], _ => False
  | (c, v) :: rest, st => (c ∧ st = v) ∨ (¬c ∧ FirstApplies rest st)

/-- No condition of the list holds. -/
def NoneApplies (l : List (Prop × Status)) : Prop := ∀ e ∈ l, ¬e.1

/-- The value of the last entry of a list that names a code; none when no entry names it. -/
def lastEntry {α : Type} (n : Nat) (l : List (Nat × α)) : Option α := (l.reverse.find? (·.1 == n)).map (·.2)

/-! ### Order and distinctness of lists -/

/-- The numbers are strictly rising. -/
def rising : List Nat → Bool
  | [] => true
  | [_] => true
  | a :: b :: rest => a < b && rising (b :: rest)

/-- No two values of the list meet the relation. -/
def noTwo {α : Type} (f : α → α → Bool) : List α → Bool
  | [] => true
  | a :: rest => rest.all (fun b => !f a b) && noTwo f rest

/-! ### Settings (R178, R179) -/

/-- Every pair setting in its range (R179). -/
def PairSettings.wf (v : PairSettings) : Bool :=
  inRange 4 64 v.stackDepth && inRange 1 16 v.dwell && inRangeInt 5 200 v.stepThreshold &&
  inRange 1 8 v.confirmRounds && inRangeInt (-800) (-300) v.echoFloor &&
  inRangeInt (-600) (-100) v.strayThreshold

/-- Every whole-line setting in its range; the branch pair sets are non-empty subsets of the equipped pairs
(R178). -/
def LineSettings.wf (l : LineSettings) : Bool :=
  l.equipped != 0#8 && branchSetOk l.equipped l.branchSets.b1 && branchSetOk l.equipped l.branchSets.b2 &&
  branchSetOk l.equipped l.branchSets.b3 && inRange 1 3600 l.pollPeriod && inRange 1 50 l.turnaround &&
  inRange 1 60 l.claimWait

/-- The settings law. -/
def State.settingsLaw (s : State) : Bool := s.line.wf && allPairs.all fun p => (s.settings.get p).wf

/-! ### Station Table (R1, R6, R7, R71) -/

/-- At most 256 records, in increasing station number, numbers below 256, no two with one address (R1). -/
def State.keyLaw (s : State) : Bool :=
  let l := s.table.stations
  decide (l.length ≤ 256) && rising (l.map (·.number)) && l.all (fun r => decide (r.number < 256)) &&
  noTwo (fun r q : Station => r.address == q.address) l

/-- A segment's Delay Index lists the stations of the segment, each once and no other, in strictly
increasing expected delay (R7). -/
def State.indexLaw (s : State) (g : Segment) : Bool :=
  let l := s.segmentStations g
  l.map (·.number) == s.index g && rising (l.map (·.delay)) && l.all (·.segment == g) &&
  s.table.stations.all fun r => r.segment != g || (s.index g).contains r.number

/-- Within each segment no two windows overlap, every branch has at most one unit and every branch station
stands beyond its own (R6, R14). -/
def State.overlapLaw (s : State) : Bool :=
  let l := s.table.stations
  noTwo (fun r q : Station => r.segment == q.segment && overlapping r.delay r.window q.delay q.window) l &&
  noTwo (fun r q : Station => r.isUnit && r.kind == q.kind) l &&
  l.all (fun r => !r.isUnit || r.segment == .trunk) &&
  l.all fun r =>
    match r.segment with
    | .trunk => true
    | .branch b => (s.unit? b).any fun u => clears u.delay u.window r.delay r.window

/-- The geometry of the Station Table: keys, Delay Indexes and overlap laws together (R1, R6, R7). -/
def State.geometryLaw (s : State) : Bool :=
  s.keyLaw && allSegments.all s.indexLaw && s.overlapLaw

/-- Every record has its pair parts in increasing pair number, one for a pair (R2). -/
def State.partsLaw (s : State) : Bool := s.table.stations.all fun r => rising (r.parts.map (·.pair.val))

/-- The confirm count of every pair part is at most its pair's confirm rounds (R71). -/
def State.confirmLaw (s : State) : Bool :=
  s.table.stations.all fun r => r.parts.all fun q =>
    decide (q.confirm ≤ (s.settings.get q.pair).confirmRounds)

/-! ### Roles and flags (R29, R62, R114) -/

/-- The status-read flag of a pair is never set while its contention flag is clear (R114), and no sweep is
pending while none runs (R100). -/
def State.flagLaw (s : State) : Bool :=
  (allPairs.all fun p => (s.sc p).contention || !(s.sc p).statusRead) &&
  (s.sweeper.running || !s.sweeper.sweepPending)

/-- A pair that is not DRIVING is HALTED, with no round view, round kind or focused request (R28, R29,
R46). -/
def SurveyController.quiet (c : SurveyController) : Bool :=
  c.state == .halted && c.roundView.isNone && c.roundKind.isNone && c.focused.isNone

/-- A pair has no presented request, no correlator and no result (R62). -/
def CorrelatorPool.free (c : CorrelatorPool) (p : Pair) : Bool :=
  !(c.presented.any (·.1 == p)) && !(c.queue.any (·.pair == p)) &&
  allCorrelators.all fun k => !(c.correlators.get k).serves p

/-- A pair that is not DRIVING has no survey running and nothing at the Correlator Pool (R29, R62). -/
def State.surveyLaw (s : State) : Bool :=
  allPairs.all fun p => s.driving p || ((s.sc p).quiet && s.pool.free p)

/-! ### Telegrams (R84, R86, R87, R96) -/

/-- Telegrams stand in the order of their classes (R86). -/
def classOrdered (l : List Telegram) : Bool :=
  match l with
  | [] => true
  | t :: rest => rest.all (fun u => decide (t.rank ≤ u.rank)) && classOrdered rest

/-- A controller's queue holds at most 8 telegrams in class order, at most one of them a POLL; its wait line
is in class order and holds no POLL; its tag counter is below 16 (R84, R86, R87). -/
def TelegramController.wf (c : TelegramController) : Bool :=
  decide (c.queue.length ≤ 8) && classOrdered c.queue && decide ((c.queue.filter (·.isPoll)).length ≤ 1) &&
  classOrdered c.waitLine && !(c.waitLine.any (·.isPoll)) && decide (c.tagCounter < 16)

/-- A controller has nothing queued, waiting or outstanding (R96). -/
def TelegramController.idle (c : TelegramController) : Bool :=
  c.queue.isEmpty && c.waitLine.isEmpty && c.outstanding.isNone

/-- Every controller is well formed, and idle unless its pair is DRIVING (R86, R96). -/
def State.telegramLaw (s : State) : Bool :=
  allPairs.all fun p => (s.tc p).wf && (s.driving p || (s.tc p).idle)

/-! ### Cases (R126, R136) -/

/-- Some cause is present (R126). -/
def Evidence.some? (e : Evidence) : Bool := causeOrder.any e.has

/-- At most 32 cases, in increasing case number from 1 to 255, no two of one station and pair, each with a
cause (R126). -/
def State.caseLaw (s : State) : Bool :=
  let l := s.arbiter.cases
  decide (l.length ≤ 32) && rising (l.map (·.number)) && l.all (fun c => inRange 1 255 c.number) &&
  noTwo (fun c d : Case => c.station == d.station && c.pair == d.pair) l && l.all (·.evidence.some?)

/-- The cases of the in-service stack, top first. -/
def State.stackCases (s : State) : List Case := s.arbiter.stack.filterMap s.case?

/-- The stack lists open cases, with priority strictly rising toward the top; its top is ACTIVE and the others
SUSPENDED; no other case is in service (R136). -/
def State.stackLaw (s : State) : Bool :=
  let l := s.stackCases
  decide (l.length = s.arbiter.stack.length) && rising (l.map (·.level.val)) &&
  (match l with
   | [] => true
   | c :: rest => c.state == .active && rest.all (·.state == .suspended)) &&
  s.arbiter.cases.all fun c => !c.inService || s.arbiter.stack.contains c.number

/-- A case in service is on a pair that is DRIVING (R124). -/
def State.serviceLaw (s : State) : Bool := s.arbiter.cases.all fun c => !c.inService || s.driving c.pair

/-- Every open case is of an enlisted station, and a pair part is SUSPECT exactly when its station has an open
case on its pair (R72). -/
def State.healthLaw (s : State) : Bool :=
  (s.arbiter.cases.all fun c => (s.station? c.station).isSome) &&
  s.table.stations.all fun r => r.parts.all fun q =>
    (q.health == .suspect) == (s.caseAt? r.number q.pair).isSome

/-! ### Stray slots (R78, R81) -/

/-- The overrun flag of an EMPTY slot is clear (R81). -/
def State.strayLaw (s : State) : Bool :=
  allPairs.all fun p => (s.strays.get p).held.isSome || !(s.strays.get p).overrun

/-! ### Claims (R146, R147) -/

/-- At most 16 claims, in increasing claim number from 0 to 15, no two with overlapping scopes (R146). -/
def State.claimLaw (s : State) : Bool :=
  let l := s.claims
  decide (l.length ≤ 16) && rising (l.map (·.number)) && l.all (fun c => decide (c.number < 16)) &&
  noTwo (fun c d : Claim => c.overlaps d.station d.pair) l

/-! ### The checks of requests, in the order of their rules -/

/-- ENLIST's fields lie in their ranges and fit the kind (R14, check 1; R1). -/
def enlistFieldsFit (a : EnlistArgs) : Prop :=
  a.station ≤ 255 ∧ a.segment ≤ 3 ∧ (1 ≤ a.address ∧ a.address ≤ 4095) ∧ (10 ≤ a.delay ∧ a.delay ≤ 150000) ∧
  (∀ w, a.window = some w → 2 ≤ w ∧ w ≤ 50) ∧
  ((a.kind = 0 ∧ a.branch = none) ∨
   (a.kind = 1 ∧ a.segment = 0 ∧ (a.branch = some 1 ∨ a.branch = some 2 ∨ a.branch = some 3)))

/-- ENLIST's checks (R14); a window that the frame does not name is 8 µs. -/
def State.enlistChecks (s : State) (a : EnlistArgs) : List (Prop × Status) :=
  let w := a.window.getD 8
  let l := s.table.stations
  [(¬enlistFieldsFit a, .range),
   (∃ r ∈ l, r.number = a.station ∨ r.address = a.address, .duplicate),
   (256 ≤ l.length ∨
      (a.kind = 0 ∧ a.segment ≠ 0 ∧ ∀ r ∈ l, ∀ b, r.kind = .branching b → b.number.val ≠ a.segment) ∨
      (a.kind = 1 ∧ ∃ r ∈ l, ∃ b, r.kind = .branching b ∧ a.branch = some b.number.val), .state),
   (∃ u ∈ l, ∃ b, u.kind = .branching b ∧ b.number.val = a.segment ∧ a.delay ≤ u.delay + (u.window + w), .range),
   (∃ r ∈ l, r.segment.number.val = a.segment ∧ r.delay ≤ a.delay + (r.window + w) ∧
      a.delay ≤ r.delay + (r.window + w), .overlap)]

/-- A telegram to the station is outstanding on some pair. -/
def State.outstandingTo (s : State) (n : Nat) : Prop :=
  ∃ p o, (s.tc p).outstanding = some o ∧ o.telegram.dest = n

/-- The station has a case in service. -/
def State.caseInService (s : State) (n : Nat) : Prop :=
  ∃ c ∈ s.arbiter.cases, c.station = n ∧ (c.state = .active ∨ c.state = .suspended)

/-- AMEND's checks after the first, for the station's record (R16; log 24). -/
def State.amendChecks (s : State) (r : Station) (a : AmendArgs) : List (Prop × Status) :=
  let d := a.delay.getD r.delay
  let w := a.window.getD r.window
  let l := s.table.stations
  let place := a.delay ≠ none ∨ a.window ≠ none
  [((∃ x, a.address = some x ∧ (x < 1 ∨ 4095 < x)) ∨ (∃ x, a.delay = some x ∧ (x < 10 ∨ 150000 < x)) ∨
      (∃ x, a.window = some x ∧ (x < 2 ∨ 50 < x)) ∨ (∃ x, a.mode = some x ∧ 2 < x) ∨
      8 < a.baselines.length ∨
      (∃ e ∈ a.baselines, e.2 < -800 ∨ 0 < e.2 ∨ ∀ q ∈ r.parts, q.pair.val ≠ e.1), .range),
   ((a.address ≠ none ∨ place) ∧ (s.outstandingTo r.number ∨ s.caseInService r.number), .busy),
   (∃ x, a.address = some x ∧ ∃ q ∈ l, q.address = x ∧ q.number ≠ r.number, .duplicate),
   (place ∧
      ((∃ b, r.segment = .branch b ∧ ∃ u ∈ l, u.kind = .branching b ∧ d ≤ u.delay + (u.window + w)) ∨
       (∃ b, r.kind = .branching b ∧ ∃ q ∈ l, q.segment = .branch b ∧ q.delay ≤ d + (w + q.window))), .range),
   (place ∧ ∃ q ∈ l, q.segment = r.segment ∧ q.number ≠ r.number ∧ q.delay ≤ d + (q.window + w) ∧
      d ≤ q.delay + (q.window + w), .overlap)]

/-- A record after an accepted AMEND of its station (R17 to R20, R112). -/
def Station.afterAmend (s : State) (a : AmendArgs) (r : Station) : Station :=
  let watch := a.mode ≠ none ∨ a.mask ≠ none ∨ a.pattern ≠ none
  { r with
    address := a.address.getD r.address, delay := a.delay.getD r.delay, window := a.window.getD r.window,
    mode := (a.mode.bind readMode).getD r.mode, mask := a.mask.getD r.mask, pattern := a.pattern.getD r.pattern,
    candidate := if watch then none else r.candidate,
    matchSeen := if watch then false else r.matchSeen,
    armed := if watch then true else r.armed,
    parts := r.parts.map fun q =>
      match lastEntry q.pair.val a.baselines with
      | none => q
      | some g =>
        { q with
          baseline := some g, confirm := 0,
          health := if (s.caseAt? r.number q.pair).isSome then .suspect
            else if q.latest.isNone then .unmeasured else .normal } }

/-- RETIRE's checks after the first, for the station's record (R21). -/
def State.retireChecks (s : State) (r : Station) : List (Prop × Status) :=
  [(s.caseInService r.number ∨ s.outstandingTo r.number ∨
      ∃ p, ∃ t, (t ∈ (s.tc p).queue ∨ t ∈ (s.tc p).waitLine) ∧ t.dest = r.number ∧ t.submitter ≠ .sweep, .busy),
   ((∃ c ∈ s.claims, c.station = r.number) ∨
      (∃ b, r.kind = .branching b ∧ ∃ q ∈ s.table.stations, q.segment = .branch b) ∨
      (∃ c ∈ s.arbiter.cases, c.station = r.number ∧ ∃ o, c.state = .held o) ∨
      (∃ c ∈ s.arbiter.cases, c.station = r.number ∧ c.state = .pending ∧ c.claim ≠ none), .state)]

/-- REBASE's checks (R23; the order is log 23's). -/
def State.rebaseChecks (s : State) (n p : Nat) : List (Prop × Status) :=
  let l := s.table.stations
  [(n ≠ 65535 ∧ 255 < n, .range),
   (n ≠ 65535 ∧ ∀ r ∈ l, r.number ≠ n, .notFound),
   (p ≠ 255 ∧ 7 < p, .range),
   (n ≠ 65535 ∧ p ≠ 255 ∧ ∀ r ∈ l, r.number = n → ∀ q ∈ r.parts, q.pair.val ≠ p, .notFound)]

/-- REBASE names the pair part, and it has a latest gain (R23). -/
def rebaseNames (n p : Nat) (r : Station) (q : PairPart) : Bool :=
  (n == 65535 || r.number == n) && (p == 255 || q.pair.val == p) && q.latest.isSome

/-- The station is in SHIFT's moved set (R24). -/
def State.moved (s : State) (g fromDelay : Nat) (r : Station) : Prop :=
  (g = 0 ∧ r.segment = .trunk ∧ fromDelay ≤ r.delay) ∨
  (g = 0 ∧ ∃ b, r.segment = .branch b ∧ ∃ u ∈ s.table.stations, u.kind = .branching b ∧ fromDelay ≤ u.delay) ∨
  (g ≠ 0 ∧ r.segment.number.val = g ∧ fromDelay ≤ r.delay)

/-- The number is the station's expected delay after SHIFT's move (R24). -/
def State.movesTo (s : State) (g fromDelay : Nat) (delta : Int) (r : Station) (d : Int) : Prop :=
  (s.moved g fromDelay r ∧ d = r.delay + delta) ∨ (¬s.moved g fromDelay r ∧ d = r.delay)

/-- SHIFT's checks (R25). -/
def State.shiftChecks (s : State) (g fromDelay : Nat) (delta : Int) : List (Prop × Status) :=
  let l := s.table.stations
  [(3 < g ∨ fromDelay < 10 ∨ 150000 < fromDelay ∨ delta < -5000 ∨ 5000 < delta, .range),
   (g ≠ 0 ∧ ∀ u ∈ l, ∀ b, u.kind = .branching b → b.number.val ≠ g, .state),
   (∃ r ∈ l, s.moved g fromDelay r ∧
      ((r.delay : Int) + delta < 10 ∨ 150000 < (r.delay : Int) + delta ∨
       ∃ b, r.segment = .branch b ∧ ∃ u ∈ l, u.kind = .branching b ∧ ∃ d, s.movesTo g fromDelay delta u d ∧
         (r.delay : Int) + delta ≤ d + ((u.window : Int) + r.window)), .range),
   (∃ r ∈ l, ∃ q ∈ l, r.segment = q.segment ∧ r.number ≠ q.number ∧
      ∃ d e, s.movesTo g fromDelay delta r d ∧ s.movesTo g fromDelay delta q e ∧
        ((d ≤ e + ((r.window : Int) + q.window) ∧ e ≤ d + ((r.window : Int) + q.window)) ∨
         (s.moved g fromDelay r ∧ ¬s.moved g fromDelay q ∧ ¬(r.delay < q.delay ↔ d < e))), .overlap)]

/-- SETLINE's checks (R178). -/
def State.setlineChecks (s : State) (a : SetlineArgs) : List (Prop × Status) :=
  let e := a.equipped.getD s.line.equipped
  [((∃ n, a.terminal = some n ∧ 1 < n) ∨ a.equipped = some 0#8 ∨
      (∃ x ∈ [a.branch1, a.branch2, a.branch3], ∃ m, x = some m ∧ (m = 0#8 ∨ m &&& e ≠ m)) ∨
      (∃ n, a.pollPeriod = some n ∧ (n < 1 ∨ 3600 < n)) ∨ (∃ n, a.turnaround = some n ∧ (n < 1 ∨ 50 < n)) ∨
      (∃ n, a.claimWait = some n ∧ (n < 1 ∨ 60 < n)), .range),
   (s.table.stations ≠ [] ∨ ∃ p, (s.sc p).role ≠ .off, .state)]

/-- SETPAIR names a pair or a value outside its range (R179). -/
def setpairOutside (a : SetpairArgs) : Prop :=
  7 < a.pair ∨ (∃ n, a.stackDepth = some n ∧ (n < 4 ∨ 64 < n)) ∨ (∃ n, a.dwell = some n ∧ (n < 1 ∨ 16 < n)) ∨
  (∃ n, a.stepThreshold = some n ∧ (n < 5 ∨ 200 < n)) ∨ (∃ n, a.confirmRounds = some n ∧ (n < 1 ∨ 8 < n)) ∨
  (∃ n, a.echoFloor = some n ∧ (n < -800 ∨ -300 < n)) ∨ (∃ n, a.strayThreshold = some n ∧ (n < -600 ∨ -100 < n))

/-- POLICY names a code outside its list, or a list holds more entries than there are causes or levels (R180,
R185, R187). -/
def policyOutside (a : PolicyArgs) : Prop :=
  5 < a.levels.length ∨ 5 < a.actions.length ∨ 8 < a.modes.length ∨ 8 < a.masks.length ∨
  (∃ e ∈ a.levels, 4 < e.1 ∨ 7 < e.2) ∨ (∃ e ∈ a.actions, 4 < e.1 ∨ 3 < e.2) ∨
  (∃ e ∈ a.modes, 7 < e.1 ∨ 1 < e.2) ∨ (∃ e ∈ a.masks, 7 < e.1 ∨ 1 < e.2)

/-- ROLE's checks (R115). -/
def State.roleChecks (s : State) (p r : Nat) : List (Prop × Status) :=
  [(7 < p ∨ 2 < r, .range),
   (r = 1 ∧ ∃ q : Pair, q.val = p ∧ s.equipped q = false, .state),
   (r = 1 ∧ ∃ q : Pair, q.val = p ∧ (s.sc q).contention = true, .contended)]

/-- CLOSE's checks (R144). -/
def State.closeChecks (s : State) (n : Nat) : List (Prop × Status) :=
  [(n < 1 ∨ 255 < n, .range),
   (∀ c ∈ s.arbiter.cases, c.number ≠ n, .notFound),
   (∃ c ∈ s.arbiter.cases, c.number = n ∧ (c.state = .active ∨ c.state = .suspended), .busy)]

/-- The claim overlaps the scope of a station and a pair, 0 to 7 or ALL as 255 (R146). -/
def claimMeets (n p : Nat) (c : Claim) : Prop :=
  c.station = n ∧ (p = 255 ∨ c.pair = .all ∨ ∃ q : Pair, q.val = p ∧ c.pair = .one q)

/-- TAKE's checks but for HELD, which carries a claim (R148). -/
def State.takeChecks (s : State) (n p : Nat) : List (Prop × Status) :=
  [(255 < n ∨ (p ≠ 255 ∧ 7 < p), .range),
   (∀ r ∈ s.table.stations, r.number ≠ n, .notFound),
   (p ≠ 255 ∧ ∃ r ∈ s.table.stations, r.number = n ∧ ∀ q ∈ r.parts, q.pair.val ≠ p, .range)]

/-- DROP's checks (R149). -/
def State.dropChecks (s : State) (n : Nat) : List (Prop × Status) :=
  [(15 < n, .range),
   (∀ c ∈ s.claims, c.number ≠ n, .notFound),
   (∃ c ∈ s.claims, c.number = n ∧ c.owner ≠ .operator, .state)]

/-- The pair is one of an action's pairs: the pair named, or with ALL, 255, any (R154). -/
def actsOn (p : Nat) (q : Pair) : Bool := p == 255 || q.val == p

/-- The checks of an operator action of a kind (R154). -/
def State.operatorChecks (s : State) (n p : Nat) (k : TelegramKind) : List (Prop × Status) :=
  let acts := fun f : Pair → Prop =>
    ∃ r ∈ s.table.stations, r.number = n ∧ ∃ q ∈ r.parts, actsOn p q.pair = true ∧ f q.pair
  [(255 < n ∨ (p ≠ 255 ∧ 7 < p), .range),
   (∀ r ∈ s.table.stations, r.number ≠ n, .notFound),
   (∃ r ∈ s.table.stations, r.number = n ∧
      ((p ≠ 255 ∧ ∀ q ∈ r.parts, q.pair.val ≠ p) ∨ ((k = .cut ∨ k = .reconnect) ∧ r.kind = .repeater)), .range),
   (acts fun q => ∀ c ∈ s.claims, ¬(c.owner = .operator ∧ c.station = n ∧ (c.pair = .all ∨ c.pair = .one q)),
      .noClaim),
   (acts fun q => (s.sc q).role ≠ .driving, .role),
   (acts fun q => 8 ≤ (s.tc q).queue.length ∧ ∀ t ∈ (s.tc q).queue, t.submitter ≠ .sweep, .full)]

/-- The operator actions of a station and a pair, each with the kind of its telegram (R154, R186). -/
def operatorActions (n p : Nat) : List (Instr × TelegramKind) :=
  [(.isolate n p 1, .isolateSpare), (.isolate n p 2, .isolateLimit), (.restore n p, .restore),
   (.cut n p, .cut), (.reconnect n p, .reconnect)]

/-! ### Searches -/

/-- The answer is the record of the station that has the least key above a bound, among the stations that meet
the condition; absent when there is none. -/
def State.isLeastAbove (s : State) (key : Station → Nat) (among : Station → Prop) (bound : Nat) :
    Option StationView → Prop
  | none => ∀ q ∈ s.table.stations, among q → key q ≤ bound
  | some v =>
    v.record ∈ s.table.stations ∧ among v.record ∧ bound < key v.record ∧
    v.generation = s.generation v.record.segment ∧
    ∀ q ∈ s.table.stations, among q → bound < key q → key v.record ≤ key q

/-- The answer is the record of the station that has the greatest key below a bound, among the stations that
meet the condition; absent when there is none. -/
def State.isGreatestBelow (s : State) (key : Station → Nat) (among : Station → Prop) (bound : Nat) :
    Option StationView → Prop
  | none => ∀ q ∈ s.table.stations, among q → bound ≤ key q
  | some v =>
    v.record ∈ s.table.stations ∧ among v.record ∧ key v.record < bound ∧
    v.generation = s.generation v.record.segment ∧
    ∀ q ∈ s.table.stations, among q → key q < bound → key q ≤ key v.record

/-- The accumulated level that a train holds at a delay. -/
def levelAt (t : EchoTrain) (d : Nat) : Option Int := (t.find? (·.1 == d)).map (·.2)

/-! ### Leaving DRIVING (R117) -/

/-- The case of the first state stands in the second one as it was, or HELD INTERRUPTED when it was in service
on the pair that leaves (R142). -/
def interruptedIn (p : Pair) (t : State) (c : Case) : Prop :=
  c.pair = p → (if c.inService then { c with state := .held .interrupted } else c) ∈ t.arbiter.cases

/-- The abandoned exchange of the pair commanded the station with a telegram of the kind. -/
def State.loses (s : State) (p : Pair) (n : Nat) (k : TelegramKind) : Prop :=
  ∃ o, (s.tc p).outstanding = some o ∧ o.telegram.dest = n ∧ o.telegram.kind = k

/-- A telegram of the operator action in force on the pair part is outstanding or queued (R5, R96). -/
def State.abandonsAction (s : State) (p : Pair) (x : Station) (y : PairPart) : Prop :=
  ∃ w, (w ∈ (s.tc p).queue ∨ ∃ o, (s.tc p).outstanding = some o ∧ o.telegram = w) ∧ w.dest = x.number ∧
    w.submitter = .operator y.issue

/-- What leaving DRIVING makes of a pair part on the pair that leaves (R96): UNCERTAIN by an abandoned command,
ABANDONED for an operator action under way, everything else as it stood. -/
def abandonedIn (s : State) (p : Pair) (x : Station) (y z : PairPart) : Prop :=
  z = { y with isolation := z.isolation, connection := z.connection, operator := z.operator } ∧
  (let hit := x.kind = .repeater ∧
      (s.loses p x.number .isolateSpare ∨ s.loses p x.number .isolateLimit ∨ s.loses p x.number .restore);
    (hit → z.isolation = .uncertain) ∧ (¬hit → z.isolation = y.isolation)) ∧
  (let hit := x.kind ≠ .repeater ∧ (s.loses p x.number .cut ∨ s.loses p x.number .reconnect);
    (hit → z.connection = some .uncertain) ∧ (¬hit → z.connection = y.connection)) ∧
  (s.abandonsAction p x y → z.operator = y.operator.map fun a => { a with outcome := .abandoned }) ∧
  (¬s.abandonsAction p x y → z.operator = y.operator)

/-- The records after a pair has left DRIVING: the pair's own parts as `abandonedIn` says, all else as it stood;
OPERATOR_DONE raised exactly when an action in force was abandoned (R96, R117). -/
def RecordsAbandoned (s t : State) (p : Pair) : Prop :=
  t.table.index = s.table.index ∧ t.table.generation = s.table.generation ∧
  List.Forall₂ (fun x z : Station => z = { x with parts := z.parts } ∧
      List.Forall₂ (fun y w : PairPart => (y.pair = p → abandonedIn s p x y w) ∧ (y.pair ≠ p → w = y)) x.parts z.parts)
    s.table.stations t.table.stations ∧
  (let hit := ∃ x ∈ s.table.stations, ∃ y ∈ x.parts, y.pair = p ∧ s.abandonsAction p x y;
    (hit → t.port.attention.operatorDone = true) ∧
    (¬hit → t.port.attention.operatorDone = s.port.attention.operatorDone))

/-- The cases and contexts after a pair has left DRIVING (R142, R171): its cases in service are HELD INTERRUPTED
with the claim and the action taken that they had, off the stack, their contexts empty; what is left of the stack
keeps its order, less the cases on top that then end in turn, and its top is ACTIVE. -/
def ServiceInterrupted (s t : State) (p : Pair) : Prop :=
  (∀ c ∈ s.arbiter.cases, interruptedIn p t c) ∧
  (∀ c ∈ s.arbiter.cases, c.pair = p → c.inService = true → c.number ∉ t.arbiter.stack ∧ t.context c.level = none) ∧
  (t.arbiter.stack <:+ s.arbiter.stack.filter fun k => !(s.arbiter.cases.any fun c => c.number == k && c.pair == p)) ∧
  (∀ k, t.arbiter.stack.head? = some k → ∃ c ∈ t.arbiter.cases, c.number = k ∧ c.state = .active) ∧
  ((∃ c ∈ s.arbiter.cases, c.pair = p ∧ c.inService = true) → t.port.attention.caseHeld = true)

/-- What leaving DRIVING makes of a pair in every block, from the state before to the state after (R46, R60, R96,
R117, R142, R171). -/
def LeftDriving (s t : State) (p : Pair) (keep : Bool) : Prop :=
  (t.sc p).quiet = true ∧ t.pool.free p = true ∧ (t.tc p).idle = true ∧
  (t.sc p).roundCounter = (s.sc p).roundCounter ∧
  (t.sc p).steering = ((s.sc p).steering.map fun e =>
    if (s.steersInFlight p).any (·.dest == e.1) then (e.1, Steering.unknown) else e) ∧
  (t.tc p).tagCounter = (s.tc p).tagCounter ∧
  ((t.tc p).abandoned = if keep then (s.tc p).outstanding.map fun o =>
    { address := o.address, tag := o.tag, kind := o.telegram.kind } else none) ∧
  (s.keyLaw = true → s.partsLaw = true → RecordsAbandoned s t p) ∧ ServiceInterrupted s t p ∧
  (∀ c ∈ s.claims, c ∈ t.claims)

/-- A SILENT finding of a telegram on a station and pair is in the Case List, or met a full one (R94, R95,
R130). -/
def SilentFound (s t : State) (n : Nat) (p : Pair) (k : TelegramKind) : Prop :=
  ((∃ c ∈ s.arbiter.cases, c.station = n ∧ c.pair = p) ∨ s.arbiter.cases.length < 32 →
    ∃ c ∈ t.arbiter.cases, c.station = n ∧ c.pair = p ∧ c.evidence.silent = some k) ∧
  ((∀ c ∈ s.arbiter.cases, ¬(c.station = n ∧ c.pair = p)) → 32 ≤ s.arbiter.cases.length →
    t.port.attention.caseFull = true)

/-- The watch takes two words as equal: every indicator outside the mask that belongs to a pair that reaches
the station has the same value in both (R103). -/
def watchEqual (r : Station) (a b : AlarmWord) : Prop :=
  ∀ q ∈ r.parts, ∀ i, (i = 2 * q.pair.val ∨ i = 2 * q.pair.val + 1) → r.mask.getLsbD i = false →
    a.getLsbD i = b.getLsbD i

/-- The pair has a watched indicator that meets the condition (R103). -/
def watchedOn (r : Station) (p : Pair) (f : Nat → Prop) : Prop :=
  (∃ q ∈ r.parts, q.pair = p) ∧
  ∃ i, (i = 2 * p.val ∨ i = 2 * p.val + 1) ∧ r.mask.getLsbD i = false ∧ f i

/-! ### Reports of a state in force, and alarm words (R91, R97, R99, R104) -/

/-- A record after station q has reported its state in force on a pair (R91, R97, R99): q's isolation state or
branch connection on the pair; and when a branch connection that was not CUT becomes CUT, the measurements and
counts on the pair of every station of the branch cleared, with the health as the fields stand. A report that does
not fit q's kind writes nothing (the model's choice, log 20). -/
def State.afterReport (s : State) (q : Station) (p : Pair) (st : StateInForce) (x : Station) : Station :=
  let onPair := fun f : PairPart → PairPart => { x with parts := x.parts.map fun y => if y.pair = p then f y else y }
  match q.kind, st with
  | .repeater, .repeater i =>
    if x.number = q.number then onPair fun y => { y with isolation := i.toIsolation } else x
  | .branching b, .branching c _ =>
    if x.number = q.number then onPair fun y => { y with connection := some c.toConnection }
    else if c = .cut ∧ x.segment = .branch b ∧ ¬∃ y ∈ q.parts, y.pair = p ∧ y.connection = some .cut then
      onPair fun y => { y with
        latest := none, step := none, confirm := 0, missing := 0,
        health := if (s.caseAt? x.number p).isSome then .suspect else .unmeasured }
    else x
  | _, _ => x

/-- The alarm word of a station has been judged between the two states (R104, R109 to R111): the watch state that
the judgement leaves; after a trigger, its word as the alarm evidence of a case on every pair that it names, as far
as the Case List has room, and as the latched word while such a case is open. -/
def WordJudged (s t : State) (x : Station) (w : AlarmWord) : Prop :=
  ∃ y, t.station? x.number = some y ∧
    y.settled = (x.judge w).1.settled ∧ y.candidate = (x.judge w).1.candidate ∧
    y.matchSeen = (x.judge w).1.matchSeen ∧ y.armed = (x.judge w).1.armed ∧
    ((x.judge w).2 = none → y.latched = x.latched) ∧
    ∀ l, (x.judge w).2 = some l →
      ((∃ c ∈ t.arbiter.cases, c.station = x.number ∧ c.evidence.alarm ≠ none) → y.latched = some w) ∧
      ((∀ c ∈ t.arbiter.cases, c.station = x.number → c.evidence.alarm = none) → y.latched = none) ∧
      ∀ p ∈ l,
        ((∃ c ∈ s.arbiter.cases, c.station = x.number ∧ c.pair = p) ∨ s.arbiter.cases.length + l.length ≤ 32) →
        ∃ c ∈ t.arbiter.cases, c.station = x.number ∧ c.pair = p ∧ c.evidence.alarm = some w

/-! ### Telegrams and polls (R87, R101, R159) -/

/-- The telegram is in the queue or the wait line. -/
def TelegramController.has (c : TelegramController) (w : Telegram) : Prop := w ∈ c.queue ∨ w ∈ c.waitLine

/-- A telegram on the pair reaches the station: on the trunk always, on branch b while unit b's connection on the
pair is CONNECTED (R101, R159). -/
def State.linkUp (s : State) (p : Pair) (r : Station) : Prop :=
  ∀ b, r.segment = .branch b → ∃ u ∈ s.table.stations, u.kind = .branching b ∧
    ∃ q ∈ u.parts, q.pair = p ∧ q.connection = some .connected

/-- The pair can poll the station (R101). -/
def State.reachesToPoll (s : State) (p : Pair) (r : Station) : Prop :=
  (s.sc p).role = .driving ∧ (∃ q ∈ r.parts, q.pair = p) ∧ s.linkUp p r

/-- The pair is the station's poll pair (R101). -/
def State.polls (s : State) (p : Pair) (r : Station) : Prop :=
  s.reachesToPoll p r ∧ ∀ q, q < p → ¬s.reachesToPoll q r

/-- The controller can take a POLL at once (R101). -/
def TelegramController.roomForPoll (c : TelegramController) : Prop :=
  (∀ w ∈ c.queue, w.submitter ≠ .sweep) ∧ c.queue.length < 8 ∧ c.waitLine = []

/-! ### Views, steering and shadowing (R9, R33, R34, R37) -/

/-- The view is available on the pair (R33). -/
def State.viewAvailable (s : State) (p : Pair) : View → Prop
  | .trunk => True
  | .branch b => (s.line.branchSets.get b).has p = true ∧ ∃ u ∈ s.table.stations, u.kind = .branching b ∧
    (∃ q ∈ u.parts, q.pair = p ∧ q.connection = some .connected) ∧
    ((s.sc p).steeringOf u.number = some .trunk ∨ (s.sc p).steeringOf u.number = some .branch)

/-- A move of the rotation from one view ends at another: the next available one (R32). -/
def State.rotationMoves (s : State) (p : Pair) (v w : View) : Prop :=
  ∃ passed rest, viewsAfter v = passed ++ w :: rest ∧ (∀ u ∈ passed, ¬s.viewAvailable p u) ∧ s.viewAvailable p w

/-- The plan of a round sends STEER TRUNK to the unit (R34); `entry` says that it is an entry to the TRUNK view. -/
def State.steersTrunk (s : State) (p : Pair) (v : View) (entry : Prop) (u : Station) : Prop :=
  u ∈ s.table.stations ∧ u.segment = .trunk ∧
  (((s.sc p).steeringOf u.number = some .branch ∧ ∀ b, v = .branch b → u.kind ≠ .branching b) ∨
   (v = .trunk ∧ entry ∧ (s.sc p).steeringOf u.number = some .unknown))

/-- The plan of a round sends STEER BRANCH to the unit (R34). -/
def State.steersBranch (s : State) (p : Pair) (v : View) (u : Station) : Prop :=
  u ∈ s.table.stations ∧ ∃ b, v = .branch b ∧ u.kind = .branching b ∧ (s.sc p).steeringOf u.number = some .trunk

/-- The station belongs to the view (R9). -/
def State.inView (s : State) (v : View) (x : Station) : Prop :=
  x ∈ s.table.stations ∧
  (x.segment = v ∨ (x.segment = .trunk ∧ ∃ b, v = .branch b ∧ ∃ u ∈ s.table.stations, u.kind = .branching b ∧
    x.delay ≤ u.delay))

/-- The unit shadows what lies beyond it in a round of the view on the pair (R37). -/
def State.shades (s : State) (p : Pair) (v : View) (u : Station) : Prop :=
  u ∈ s.table.stations ∧ u.segment = .trunk ∧ (∀ b, v = .branch b → u.kind ≠ .branching b) ∧
  ((s.sc p).steeringOf u.number = some .unknown ∨ (s.sc p).steeringOf u.number = some .branch)

/-- The station is shadowed in a round of the view on the pair: it lies beyond a unit that shadows (R37). -/
def State.inShadow (s : State) (p : Pair) (v : View) (x : Station) : Prop :=
  ∃ u, s.shades p v u ∧
    ((x.segment = .trunk ∧ u.delay < x.delay) ∨
     ∃ b, x.segment = .branch b ∧ ∃ w ∈ s.table.stations, w.kind = .branching b ∧
       (w.number = u.number ∨ u.delay < w.delay))

/-! ### Focused requests (R42 to R44) -/

/-- The steering telegrams of a plan: STEER TRUNK to the one list of units, then STEER BRANCH to the other (R34). -/
def steerTelegrams (us ws : List Station) : List Telegram :=
  (us.map fun u => ⟨u.number, .steerTrunk, .survey⟩) ++ ws.map fun u => ⟨u.number, .steerBranch, .survey⟩

/-- The lists hold the units that the plan of a round steers, each in increasing delay (R34). -/
def State.SteeringPlanOf (s : State) (p : Pair) (v : View) (entry : Prop) (us ws : List Station) : Prop :=
  (∀ u, u ∈ us ↔ s.steersTrunk p v entry u) ∧ (∀ u, u ∈ ws ↔ s.steersBranch p v u) ∧
  rising (us.map (·.delay)) = true ∧ rising (ws.map (·.delay)) = true

/-- The view's own unit stands at BRANCH on the pair; TRUNK needs none (R35). -/
def State.turnedTo (s : State) (p : Pair) (v : View) : Prop :=
  ∀ b, v = .branch b → ∃ u ∈ s.table.stations, u.kind = .branching b ∧ (s.sc p).steeringOf u.number = some .branch

/-- A focused request passes the test made when it is taken (R43). -/
def State.admits (s : State) (p : Pair) (f : FocusedRequest) : Prop :=
  s.viewAvailable p f.view ∧ ∃ x, s.inView f.view x ∧ x.number = f.station ∧
    ¬(f.view = .trunk ∧ ∃ u, s.shades p .trunk u ∧ (s.sc p).steeringOf u.number = some .unknown ∧ u.delay < x.delay)

/-- A focused request passes the test made when its steering has ended (R43). -/
def State.sees (s : State) (p : Pair) (f : FocusedRequest) : Prop :=
  s.turnedTo p f.view ∧ ∃ x, s.inView f.view x ∧ x.number = f.station ∧ ¬s.inShadow p f.view x

/-- The state without the pair's focused request. -/
def State.unfocused (s : State) (p : Pair) : State :=
  s.setSurvey (s.survey.set p { s.sc p with focused := none })

/-- The state with the focused request taken on the pair: the round is FOCUSED, in the view named (R42). -/
def State.focusedOn (s : State) (p : Pair) (f : FocusedRequest) (st : SurveyState) (stale : Bool) : State :=
  s.setSurvey (s.survey.set p { s.sc p with
    state := st, focused := some { f with taken := true }, roundView := some f.view, roundKind := some .focused,
    planStale := stale })

/-- A focused request is refused UNREACHABLE at a boundary: it leaves the pair, a regular round is planned, and the
context of its level is to be told (R43; told after the plan, log 16). -/
def FocusRefused (s : State) (p : Pair) (f : FocusedRequest) (w : State × Option Level) : Prop :=
  w = (((s.unfocused p).plan p).1, some f.level)

/-- What a taken focused request comes to with nothing left to steer (R42, R43): WAITING with its FOCUSED request
presented, or RUNNING in a correlator, gone from the pair, its context MEASURING; or refused. -/
def FocusAsked (s : State) (p : Pair) (f : FocusedRequest) (w : State × Option Level) : Prop :=
  (s.sees p f → w.2 = none ∧ Only [.pool, .survey, .contexts] s w.1 ∧
    ((w.1.sc p = (s.focusedOn p f .waiting false).sc p ∧ (p, RoundKind.focused) ∈ w.1.pool.presented) ∨
     ((w.1.sc p).state = .running ∧ (w.1.sc p).focused = none ∧
      (∃ k r, w.1.pool.correlators.get k = .running r 0 s.line.terminal ∧ r.definition.pair = p ∧
        r.definition.view = f.view ∧ r.definition.kind = .focused ∧ r.definition.focus = some (f.station, f.level)) ∧
      ∀ c, s.context f.level = some c → w.1.context f.level = some { c with phase := .measuring }))) ∧
  (¬s.sees p f → FocusRefused s p f w)

/-- What a plan makes of a taken focused request (R34, R42): the steering that its view still needs, on an entry to
TRUNK that of R32; with none, what `FocusAsked` says (the second test is made all the same, log 14). -/
def FocusPlanned (s : State) (p : Pair) (f : FocusedRequest) (w : State × Option Level) : Prop :=
  ∃ us ws : List Station, s.SteeringPlanOf p f.view ((s.sc p).lastView ≠ some .trunk) us ws ∧
    (steerTelegrams us ws ≠ [] →
      w = ((s.focusedOn p f .steering false).setTelegrams
        (s.telegrams.set p ((steerTelegrams us ws).foldl TelegramController.submit (s.tc p))), none)) ∧
    (steerTelegrams us ws = [] → FocusAsked s p f w)

/-! ### Results (R58, R76) -/

/-- The echo entries of a result as they are taken: those below the echo floor in force have no echo (R58). -/
def State.takenEntries (s : State) (r : RoundResult) : List EchoEntry :=
  r.entries.map fun e => { e with
    peak := e.peak.filter fun m => decide ((s.settings.get r.pair).echoFloor ≤ m.1) }

/-- The records and the evidence of the cases of the first state stand in the second one. -/
def AssessedIn (v t : State) : Prop :=
  t.table = v.table ∧ ∀ c ∈ v.arbiter.cases, ∃ d ∈ t.arbiter.cases,
    d.number = c.number ∧ d.station = c.station ∧ d.pair = c.pair ∧ d.evidence = c.evidence ∧ d.level = c.level ∧
    d.openedRound = c.openedRound

/-! ### The Isolation Sequencer (R157 to R165) -/

/-- The case is the ACTIVE one and its context, of its level, the working context (R157). -/
def Works (s : State) (k : Case) (c : Context) : Prop :=
  k ∈ s.arbiter.cases ∧ s.arbiter.stack.head? = some k.number ∧ s.context k.level = some c ∧ c.caseNumber = k.number

/-- The case has left service with the outcome: HELD, off the stack, its context empty, CASE_HELD raised (R141,
R166). -/
def LeftService (t : State) (k : Case) (o : Outcome) : Prop :=
  { k with state := .held o } ∈ t.arbiter.cases ∧ k.number ∉ t.arbiter.stack ∧ t.context k.level = none ∧
  t.port.attention.caseHeld = true

/-- The event shows that a tested cause of the case still holds, at its station x (R160). -/
def State.stillHolds (s : State) (k : Case) (x : Station) : ContextEvent → Prop
  | .finding f =>
    let set := s.settings.get k.pair
    (k.evidence.step ≠ none ∧
      (f.echo = false ∨ ∃ v, f.step = some v ∧ (set.stepThreshold ≤ v ∨ v ≤ -set.stepThreshold))) ∨
    (k.evidence.lost ≠ none ∧ f.echo = false) ∨
    ∃ e g, k.evidence.stray = some e ∧ f.stray = some g ∧ set.strayThreshold ≤ g.2 ∧ g.1 ≤ e.1 + x.window ∧
      e.1 ≤ g.1 + x.window
  | .statusReply w _ => k.evidence.alarm ≠ none ∧ ∃ l, x.latched = some l ∧
    ∀ q ∈ x.parts, q.pair = k.pair → ∀ i, (i = 2 * q.pair.val ∨ i = 2 * q.pair.val + 1) →
      x.mask.getLsbD i = false → w.getLsbD i = l.getLsbD i
  | .failed => k.evidence.silent ≠ none
  | _ => False

/-- The place of a cause where two have one level (R162). -/
def causeRank : Cause → Nat
  | .stray => 0
  | .lost => 1
  | .silent => 2
  | .step => 3
  | .alarm => 4

/-- The cause decides the action of a case (R162): no cause of the case has a higher level in the map, and none of
the same level comes before it. -/
def decides (m : PerCause Level) (e : Evidence) (c : Cause) : Prop :=
  e.has c = true ∧ ∀ d, e.has d = true → m.get c < m.get d ∨ (m.get c = m.get d ∧ causeRank c ≤ causeRank d)

/-- The action of the map commands the station x, or the unit of its branch, y (R162, R163). -/
def State.commandsBy (s : State) (a : MapAction) (x : Station) (cmd : Command) (y : Station) : Prop :=
  (a = .spare ∧ x.kind = .repeater ∧ cmd = .spare ∧ y = x) ∨
  (a = .limit ∧ x.kind = .repeater ∧ cmd = .limit ∧ y = x) ∨
  (a = .cutBranch ∧ cmd = .cut ∧ y ∈ s.table.stations ∧ ∃ b, x.segment = .branch b ∧ y.kind = .branching b)

/-- The state in force is the one that the command sets (R164). -/
def commanded (cmd : Command) (st : StateInForce) : Prop :=
  (cmd = .spare ∧ st = .repeater .spare) ∨ (cmd = .limit ∧ st = .repeater .limit) ∨
  (cmd = .cut ∧ ∃ side, st = .branching .cut side)

/-- The claim is held on the scope of a station and a pair (R146). -/
def Claim.on (c : Claim) (n : Nat) (p : Pair) : Prop := c.station = n ∧ (c.pair = .all ∨ c.pair = .one p)

/-- The number is the lowest free claim number (R147). -/
def State.lowestFree (s : State) (k : Nat) : Prop :=
  k < 16 ∧ (∀ c ∈ s.claims, c.number ≠ k) ∧ ∀ j, j < k → ∃ c ∈ s.claims, c.number = j

/-- What the ACT step of a case comes to, its command going to station y (R159, R164): the telegram placed on the
case's pair; or UNREACHABLE when it cannot reach the station. -/
def Acts (s t : State) (k : Case) (cmd : Command) (y : Station) : Prop :=
  (s.linkUp k.pair y → k ∈ t.arbiter.cases ∧ (∃ d, t.context k.level = some d ∧ d.caseNumber = k.number ∧
      d.step = .act ∧ d.phase = .sent ∧ d.tries = 1 ∧ d.timer = none ∧ d.chosen = some cmd) ∧
    (t.tc k.pair).has { dest := y.number, kind := cmd.telegram, submitter := .context k.level }) ∧
  (¬s.linkUp k.pair y → LeftService t k .unreachable)

end Sys2Proof.Machine
end

