-- ==== Sys2Proof/Certificates/Slice0/Obligations.lean ====
section
/-! DEFINITION. The statements for the provers. -/

section Statements
open Sys2Proof Sys2Proof.Machine

/-! ### The block as a machine -/

/-- The step of a non-empty queue is the front command's `exec` on the part with the queue's rest; on an empty
queue the part idles (the model's choice, log 1). -/
def Obligations.StepRunsFrontCommand : Prop :=
  (∀ (i : Instr) (rest : List Instr) (s : State), s.pending = i :: rest → step s = exec i (s.setPending rest)) ∧
  ∀ s : State, s.pending = [] → step s = .next s

/-- Every command, in every state, comes to a next state, and none of them touches the queue. That a command whose
event cannot occur in the state (a timer that does not run, no response performed, no result queued) has a next
state all the same, the state as it stands, is the model's choice (log 3); so is it that the queue survives
power-on reset (log 27). -/
def Obligations.EveryCommandCompletes : Prop :=
  ∀ (i : Instr) (s : State), ∃ t, exec i s = .next t ∧ t.pending = s.pending

/-- The power-on values of every block but the model's own two fields. -/
def Obligations.PowerOnValues : Prop :=
  ∀ s : State, ∃ t, exec .powerOnReset s = .next t ∧
    (t.port.state = .idle ∧ t.port.collision = false ∧ t.port.attention.toMask = 0 ∧ t.port.enable.toMask = 63 ∧
      t.rsp = false ∧ t.atn = false) ∧
    (t.line = { terminal := .endA, equipped := 1#8, branchSets := ⟨1#8, 1#8, 1#8⟩, pollPeriod := 30,
                turnaround := 5, claimWait := 10 } ∧
      ∀ p, t.settings.get p = { stackDepth := 16, dwell := 4, stepThreshold := 15, confirmRounds := 3,
                                echoFloor := -650, strayThreshold := -400 }) ∧
    (t.table.stations = [] ∧ ∀ g, t.index g = [] ∧ t.generation g = 0) ∧
    (∀ p, (t.sc p).role = .off ∧ (t.sc p).contention = false ∧ (t.sc p).statusRead = false ∧
      (t.sc p).state = .halted ∧ (t.sc p).rotation = .trunk ∧ (t.sc p).dwellCount = 0 ∧
      (t.sc p).roundView = none ∧ (t.sc p).roundKind = none ∧ (t.sc p).steering = [] ∧
      (t.sc p).roundCounter = 0 ∧ (t.sc p).focused = none) ∧
    ((∀ k, t.pool.correlators.get k = .free) ∧ t.pool.queue = [] ∧ t.pool.presented = [] ∧ t.pool.lastGranted = 7) ∧
    (∀ p, t.strays.get p = { held := none, overrun := false }) ∧
    (∀ p, t.tc p = { queue := [], waitLine := [], outstanding := none, tagCounter := 15, overheard := [],
                     abandoned := none }) ∧
    (t.sweeper.pollTimer = 30 ∧ t.sweeper.running = false ∧ t.sweeper.sweepPending = false ∧
      ∀ p, t.sweeper.cursors.get p = 0) ∧
    (t.arbiter.cases = [] ∧ t.arbiter.stack = [] ∧ t.arbiter.counter = 0 ∧ (∀ l, t.arbiter.lastServed.get l = none) ∧
      t.arbiter.policy.levelMap = { step := 3, lost := 1, stray := 0, alarm := 4, silent := 2 } ∧
      t.arbiter.policy.actionMap = { step := .spare, lost := .spare, stray := .none, alarm := .limit, silent := .none } ∧
      ∀ l, t.arbiter.policy.modes.get l = .report ∧ t.arbiter.policy.masked.get l = false) ∧
    t.claims = [] ∧ ∀ l, t.context l = none

/-! ### The Request Port -/

/-- A refused request changes nothing but the response it leaves, which is empty unless it is HELD's. -/
def Obligations.RefusedRequestChangesNothing : Prop :=
  ∀ (i : Instr) (k : Nat) (s t : State) (r : Response), requestKind i = some k → s.port.state = .idle →
    exec i s = .next t → t.port.state = .performing r → r.status ≠ .ok → r.status ≠ .queued →
    t = s.setPort { s.port with state := .performing r } ∧ r.kind = BitVec.ofNat 8 k ∧
      (r.status ≠ .held → r.body = .empty)

/-- A request frame out of turn is discarded: the collision flag is set and nothing else changes; the response
being performed then carries the flag. That a request's row stands for the end of its frame is log 5; that a
collision in IDLE, where no frame is out of turn, is no event is the model's choice (log 3). -/
def Obligations.FrameOutOfTurnCollides : Prop :=
  ∀ s : State,
    (s.port.state ≠ .idle → ∀ i : Instr,
      (i = .frameCollision ∨ (requestKind i).isSome = true ∨ ∃ bytes, i = .badframe bytes) →
      exec i s = .next (s.setPort { s.port with collision := true })) ∧
    (∀ r, s.port.state = .performing r →
      exec .responseReady (s.setPort { s.port with collision := true }) =
        .next (s.setPort { s.port with state := .responseReady r true, collision := true })) ∧
    (s.port.state = .idle → exec .frameCollision s = .next s)

/-- A transaction by its first byte: neither mark, ignored with filler bytes of 0 shifted out; a mark, the
transaction that the mark begins (the model's routing, log 6). The bytes of a request transaction in IDLE: a
request's own frame is that request (log 6), any other bytes are answered BADFRAME with the kind byte received,
among them a frame with a presence byte other than 0 and 1 (log 8); no byte at all, with a free kind byte (log 7). -/
def Obligations.TransactionsAreRouted : Prop :=
  (∀ (first : Byte) (rest : List Byte) (s : State),
    (first ≠ 81#8 → first ≠ 82#8 →
      exec (.ignoredTransaction first rest) s =
        .next (s.setPort { s.port with shiftedOut := List.replicate (rest.length + 1) 0#8 })) ∧
    exec (.ignoredTransaction 81#8 rest) s = exec (.badframe rest) s ∧
    exec (.ignoredTransaction 82#8 rest) s = exec (.readTransaction rest.length) s) ∧
  ∀ (bytes : List Byte) (s : State), s.port.state = .idle →
    (∀ i : Instr, i.wf = true → (requestKind i).isSome = true → encodeFrame i = bytes →
      exec (.badframe bytes) s = exec i s) ∧
    (∀ kind rest, bytes = kind :: rest →
      (∀ i : Instr, i.wf = true → (requestKind i).isSome = true → encodeFrame i ≠ bytes) →
      exec (.badframe bytes) s =
        .next (s.setPort { s.port with state := .performing { kind := kind, status := .badFrame, body := .empty } })) ∧
    (bytes = [] →
      exec (.badframe bytes) s =
        .next ((s.setDraws (s.draws + 1)).setPort { s.port with
          state := .performing { kind := Config.emptyFrameKind s.draws, status := .badFrame, body := .empty } }))

/-- Every well-formed request's frame is decoded to the request, every field at every value it can carry. -/
def Obligations.FrameRoundTrip : Prop :=
  ∀ i : Instr, i.wf = true → (requestKind i).isSome = true → decodeFrame (encodeFrame i) = some i

/-- The end of performing places the response with the collision flag as it stands, and asserts RSP; while
nothing is performed there is no such event (log 3). A read transaction of so many bytes shifts out the response,
delivered or cut short, or a NOTREADY frame. -/
def Obligations.ResponseIsPlacedAndDelivered : Prop :=
  (∀ s : State,
    (∀ r, s.port.state = .performing r →
      exec .responseReady s = .next (s.setPort { s.port with state := .responseReady r s.port.collision }) ∧
      s.rsp = false ∧ (s.setPort { s.port with state := .responseReady r s.port.collision }).rsp = true) ∧
    ((∀ r, s.port.state ≠ .performing r) → exec .responseReady s = .next s)) ∧
  ∀ (n : Nat) (s : State),
    (∀ r carried, s.port.state = .responseReady r carried →
      ((r.frame carried).length ≤ n →
        exec (.readTransaction n) s = .next (s.setPort { s.port with
          state := .idle, collision := s.port.collision && !carried, shiftedOut := clockOut n (r.frame carried) })) ∧
      (n < (r.frame carried).length →
        exec (.readTransaction n) s =
          .next (s.setPort { s.port with shiftedOut := (r.frame carried).take n }))) ∧
    (s.port.state = .idle →
      exec (.readTransaction n) s =
        .next (s.setPort { s.port with shiftedOut := clockOut n (notReadyFrame s.port.collision 0) })) ∧
    (∀ r, s.port.state = .performing r →
      exec (.readTransaction n) s =
        .next (s.setPort { s.port with shiftedOut := clockOut n (notReadyFrame s.port.collision 1) }))

/-- ATN follows the two sets, and a raise adds its cause and no other. ATTEND returns the attention set and empties
it; ATTENTION ENABLE writes the enable set of its mask, or is refused RANGE. Nothing else changes. -/
def Obligations.AttentionSetAndRequests : Prop :=
  (∀ s : State, (s.atn = true ↔ s.port.attention.toMask &&& s.port.enable.toMask ≠ 0) ∧
    ∀ e ∈ [(AttentionCause.caseNew, 1), (.caseHeld, 2), (.stray, 4), (.contention, 8), (.caseFull, 16),
        (.operatorDone, 32)],
      (s.raise e.1).port.attention.toMask = s.port.attention.toMask ||| e.2 ∧
      (s.raise e.1).port.enable = s.port.enable ∧ Only [.port] s (s.raise e.1)) ∧
  ∀ s : State, s.port.state = .idle →
    (Answers .attend s (s.setPort { s.port with attention := AttentionSet.none }) .ok (.causes s.port.attention) ∧
      (s.setPort { s.port with attention := AttentionSet.none }).atn = false) ∧
    ∀ m : Byte,
      (m.toNat < 64 → ∃ e : AttentionSet, e.toMask = m.toNat ∧
        Answers (.attentionEnable m) s (s.setPort { s.port with enable := e }) .ok (.causes e)) ∧
      (64 ≤ m.toNat → Refuses (.attentionEnable m) s .range)

/-! ### Settings and resets -/

/-- SETLINE: its refusals in order, and the settings it leaves; the poll timer starts with the new period. -/
def Obligations.SetlineChecksAndWrites : Prop :=
  ∀ (a : SetlineArgs) (s : State), s.port.state = .idle →
    (∀ st, FirstApplies (s.setlineChecks a) st → Refuses (.setline a) s st) ∧
    (NoneApplies (s.setlineChecks a) →
      Answers (.setline a) s
        ((s.setLine
          { terminal := (match a.terminal with
              | some 0 => .endA
              | some 1 => .endB
              | _ => s.line.terminal),
            equipped := a.equipped.getD s.line.equipped,
            branchSets :=
              { b1 := a.branch1.getD (a.equipped.getD s.line.equipped),
                b2 := a.branch2.getD (a.equipped.getD s.line.equipped),
                b3 := a.branch3.getD (a.equipped.getD s.line.equipped) },
            pollPeriod := a.pollPeriod.getD s.line.pollPeriod,
            turnaround := a.turnaround.getD s.line.turnaround,
            claimWait := a.claimWait.getD s.line.claimWait }).setSweeper
          { s.sweeper with pollTimer := a.pollPeriod.getD s.line.pollPeriod }) .ok .empty)

/-- SETPAIR: its refusal, the settings of the one pair that it writes, and the clamp of that pair's confirm
counts; nothing else changes. -/
def Obligations.SetpairChecksAndWrites : Prop :=
  ∀ (a : SetpairArgs) (s : State), s.port.state = .idle →
    (setpairOutside a → Refuses (.setpair a) s .range) ∧
    (¬setpairOutside a → ∀ p : Pair, p.val = a.pair → ∃ t, Answers (.setpair a) s t .ok .empty ∧
      Only [.settings, .table] s t ∧
      t.settings.get p =
        { stackDepth := a.stackDepth.getD (s.settings.get p).stackDepth,
          dwell := a.dwell.getD (s.settings.get p).dwell,
          stepThreshold := a.stepThreshold.getD (s.settings.get p).stepThreshold,
          confirmRounds := a.confirmRounds.getD (s.settings.get p).confirmRounds,
          echoFloor := a.echoFloor.getD (s.settings.get p).echoFloor,
          strayThreshold := a.strayThreshold.getD (s.settings.get p).strayThreshold } ∧
      (∀ q, q ≠ p → t.settings.get q = s.settings.get q) ∧
      t.table = { s.table with
        stations := s.table.stations.map fun r => { r with
          parts := r.parts.map fun q =>
            if q.pair = p then
              { q with confirm := min q.confirm (a.confirmRounds.getD (s.settings.get p).confirmRounds) }
            else q } })

/-- POLICY: its refusal, and the policy it leaves: a named cause or level takes the value of its last entry, the
others keep theirs. Levels of open cases stand. -/
def Obligations.PolicyChecksAndWrites : Prop :=
  ∀ (a : PolicyArgs) (s : State), s.port.state = .idle →
    (policyOutside a → Refuses (.policy a) s .range) ∧
    (¬policyOutside a → ∃ v : Policy,
      Answers (.policy a) s (s.setArbiter { s.arbiter with policy := v }) .ok .empty ∧
      (∀ n c, readCause n = some c →
        (match lastEntry n a.levels with
         | some m => readLevel m = some (v.levelMap.get c)
         | none => v.levelMap.get c = s.arbiter.policy.levelMap.get c) ∧
        (match lastEntry n a.actions with
         | some m => readMapAction m = some (v.actionMap.get c)
         | none => v.actionMap.get c = s.arbiter.policy.actionMap.get c)) ∧
      ∀ l : Level,
        (match lastEntry l.val a.modes with
         | some m => readLevelMode m = some (v.modes.get l)
         | none => v.modes.get l = s.arbiter.policy.modes.get l) ∧
        (match lastEntry l.val a.masks with
         | some m => readMasked m = some (v.masked.get l)
         | none => v.masked.get l = s.arbiter.policy.masked.get l))

/-- RESTART: what each block keeps and what it clears. -/
def Obligations.RestartKeepsAndClears : Prop :=
  ∀ s : State, s.port.state = .idle → ∃ t, Answers .restart s t .ok .empty ∧
    (t.line = s.line ∧ t.settings = s.settings ∧ t.arbiter.policy = s.arbiter.policy ∧ t.draws = s.draws ∧
      t.pending = s.pending) ∧
    (t.port = { s.port with attention := AttentionSet.none } ∧ t.atn = false) ∧
    t.table = { s.table with
      stations := s.table.stations.map fun r => { r with
        settled := none, candidate := none, latched := none, matchSeen := false, armed := true, silent := 0,
        parts := r.parts.map fun q => { q with
          latest := none, step := none, confirm := 0, missing := 0, health := .unmeasured,
          operator := q.operator.map fun a =>
            if a.outcome = .pending then { a with outcome := .abandoned } else a } } } ∧
    (∀ p, (t.sc p).role = .off ∧ (t.sc p).contention = false ∧ (t.sc p).statusRead = false ∧
      (t.sc p).state = .halted ∧ (t.sc p).rotation = .trunk ∧ (t.sc p).dwellCount = 0 ∧
      (t.sc p).roundView = none ∧ (t.sc p).roundKind = none ∧ (t.sc p).roundCounter = 0 ∧
      (t.sc p).focused = none ∧
      ∀ n v, (n, v) ∈ (t.sc p).steering ↔ v = .unknown ∧ ∃ r ∈ s.table.stations, r.number = n ∧
        ∃ b, r.kind = .branching b ∧ (s.line.branchSets.get b).has p = true) ∧
    ((∀ k, t.pool.correlators.get k = .free) ∧ t.pool.queue = [] ∧ t.pool.presented = [] ∧ t.pool.lastGranted = 7) ∧
    (∀ p, t.strays.get p = { held := none, overrun := false }) ∧
    (∀ p, t.tc p = { queue := [], waitLine := [], outstanding := none, tagCounter := (s.tc p).tagCounter,
                     overheard := [], abandoned := none }) ∧
    (t.sweeper.pollTimer = s.line.pollPeriod ∧ t.sweeper.running = false ∧ t.sweeper.sweepPending = false ∧
      ∀ p, t.sweeper.cursors.get p = 0) ∧
    (t.arbiter.cases = [] ∧ t.arbiter.stack = [] ∧ t.arbiter.counter = 0 ∧ ∀ l, t.arbiter.lastServed.get l = none) ∧
    t.claims = [] ∧ ∀ l, t.context l = none

/-! ### The Station Table -/

/-- FIND BY NUMBER and FIND BY ADDRESS, in every case, with nothing changed. -/
def Obligations.FindByKeyReturnsRecord : Prop :=
  ∀ s : State, s.port.state = .idle → s.keyLaw = true →
    (∀ r ∈ s.table.stations,
      Answers (.findByNumber r.number) s s .ok (.station { record := r, generation := s.generation r.segment }) ∧
      (1 ≤ r.address → r.address ≤ 4095 →
        Answers (.findByAddress r.address) s s .ok (.station { record := r, generation := s.generation r.segment }))) ∧
    (∀ n, (∀ r ∈ s.table.stations, r.number ≠ n) → Refuses (.findByNumber n) s .notFound) ∧
    (∀ a, (a < 1 ∨ 4095 < a) → Refuses (.findByAddress a) s .range) ∧
    (∀ a, 1 ≤ a → a ≤ 4095 → (∀ r ∈ s.table.stations, r.address ≠ a) → Refuses (.findByAddress a) s .notFound)

/-- FIND BY DELAY, in every case, with nothing changed. -/
def Obligations.FindByDelayReturnsStationOrSpan : Prop :=
  ∀ (g d : Nat) (s : State), s.port.state = .idle → s.geometryLaw = true →
    ((3 < g ∨ 150050 < d) → Refuses (.findByDelay g d) s .range) ∧
    (g ≤ 3 → d ≤ 150050 →
      ((∀ r ∈ s.table.stations, r.segment.number.val ≠ g) → Refuses (.findByDelay g d) s .notFound) ∧
      (∀ r ∈ s.table.stations, r.segment.number.val = g → r.delay ≤ d + r.window → d ≤ r.delay + r.window →
        Answers (.findByDelay g d) s s .ok
          (.stationAtDelay { record := r, generation := s.generation r.segment })) ∧
      ((∃ r ∈ s.table.stations, r.segment.number.val = g) →
        (∀ r ∈ s.table.stations, r.segment.number.val = g → ¬(r.delay ≤ d + r.window ∧ d ≤ r.delay + r.window)) →
        ∃ before after, Answers (.findByDelay g d) s s .ok (.span before after) ∧
          s.isGreatestBelow Station.delay (fun r => r.segment.number.val = g) d before ∧
          s.isLeastAbove Station.delay (fun r => r.segment.number.val = g) d after))

/-- FIND NEXT in both orders, in every case, with nothing changed. -/
def Obligations.FindNextReturnsSuccessor : Prop :=
  ∀ (order start : Nat) (s : State), s.port.state = .idle → s.geometryLaw = true →
    (order = 0 → start = 65535 → ∃ v, Answers (.findNext order start) s s .ok (.nextStation v) ∧
      s.isLeastAbove (fun r => r.number + 1) (fun _ => True) 0 v) ∧
    (order = 0 → start ≤ 255 → ∃ v, Answers (.findNext order start) s s .ok (.nextStation v) ∧
      s.isLeastAbove Station.number (fun _ => True) start v) ∧
    (order = 0 → 255 < start → start ≠ 65535 → Refuses (.findNext order start) s .range) ∧
    (order = 1 → 255 < start → Refuses (.findNext order start) s .range) ∧
    (order = 1 → start ≤ 255 → (∀ r ∈ s.table.stations, r.number ≠ start) →
      Refuses (.findNext order start) s .notFound) ∧
    (order = 1 → ∀ r ∈ s.table.stations, r.number = start → ∃ v,
      Answers (.findNext order start) s s .ok (.nextStation v) ∧
      s.isLeastAbove Station.delay (fun q => q.segment = r.segment) r.delay v) ∧
    (1 < order → Refuses (.findNext order start) s .range)

/-- ENLIST gives the first refusal that applies, in the rule's order, and a refused ENLIST changes nothing. -/
def Obligations.EnlistRefusals : Prop :=
  ∀ (a : EnlistArgs) (st : Status) (s : State), s.port.state = .idle → s.geometryLaw = true →
    FirstApplies (s.enlistChecks a) st → Refuses (.enlist a) s st

/-- An ENLIST that no check refuses places the record. The table's other records, the other segments' indexes
and generations, the settings and the stray slots stand. -/
def Obligations.EnlistPlacesRecord : Prop :=
  ∀ (a : EnlistArgs) (s : State), s.port.state = .idle → s.geometryLaw = true → NoneApplies (s.enlistChecks a) →
    ∃ t r, Answers (.enlist a) s t .ok .empty ∧
      (∀ q, q ∈ t.table.stations ↔ q = r ∨ q ∈ s.table.stations) ∧
      (r.number = a.station ∧ r.segment.number.val = a.segment ∧ r.address = a.address ∧ r.delay = a.delay ∧
        r.window = a.window.getD 8 ∧ (a.kind = 0 → r.kind = .repeater) ∧
        (∀ b : Branch, a.branch = some b.number.val → r.kind = .branching b)) ∧
      (r.mode = .off ∧ r.mask = 0#16 ∧ r.pattern = 0#16 ∧ r.silent = 0 ∧ r.settled = none ∧ r.candidate = none ∧
        r.latched = none ∧ r.matchSeen = false ∧ r.armed = true) ∧
      r.parts.map (·.pair) = allPairs.filter (s.line.pairsOf r.segment).has ∧
      (∀ q ∈ r.parts, q.baseline = none ∧ q.latest = none ∧ q.step = none ∧ q.confirm = 0 ∧ q.missing = 0 ∧
        q.health = .unmeasured ∧ q.isolation = .inLine ∧ q.operator = none ∧ q.issue = 0 ∧
        (a.kind = 0 → q.connection = none) ∧ (a.kind = 1 → q.connection = some .connected)) ∧
      (t.generation r.segment = (s.generation r.segment + 1) % 65536 ∧ t.indexLaw r.segment = true ∧
        ∀ g, g ≠ r.segment → t.generation g = s.generation g ∧ t.index g = s.index g) ∧
      (∀ b, r.kind = .branching b → ∀ p, (s.line.branchSets.get b).has p = true →
        (s.sc p).steeringOf a.station = none → (t.sc p).steeringOf a.station = some .unknown) ∧
      t.line = s.line ∧ t.settings = s.settings ∧ t.strays = s.strays ∧ t.draws = s.draws

/-- AMEND gives the first refusal that applies, in the rule's order, and a refused AMEND changes nothing. -/
def Obligations.AmendRefusals : Prop :=
  ∀ (a : AmendArgs) (s : State), s.port.state = .idle → s.geometryLaw = true →
    ((∀ r ∈ s.table.stations, r.number ≠ a.station) → Refuses (.amend a) s .notFound) ∧
    ∀ r ∈ s.table.stations, r.number = a.station → ∀ st, FirstApplies (s.amendChecks r a) st →
      Refuses (.amend a) s st

/-- An AMEND that no check refuses writes every named field of the one record; a new delay or window re-orders
its Delay Index and moves its generation. Nothing but the Station Table changes. -/
def Obligations.AmendWritesRecord : Prop :=
  ∀ (a : AmendArgs) (r : Station) (s : State), s.port.state = .idle → s.geometryLaw = true →
    r ∈ s.table.stations → r.number = a.station → NoneApplies (s.amendChecks r a) →
    ∃ t, Answers (.amend a) s t .ok .empty ∧ Only [.table] s t ∧
      t.table.stations = (s.table.stations.map fun q => if q.number = r.number then q.afterAmend s a else q) ∧
      (∀ g, g ≠ r.segment → t.generation g = s.generation g ∧ t.index g = s.index g) ∧
      ((a.delay ≠ none ∨ a.window ≠ none) →
        t.generation r.segment = (s.generation r.segment + 1) % 65536 ∧ t.indexLaw r.segment = true) ∧
      (a.delay = none → a.window = none →
        t.generation r.segment = s.generation r.segment ∧ t.index r.segment = s.index r.segment)

/-- RETIRE gives the first refusal that applies, in the rule's order, and a refused RETIRE changes nothing. -/
def Obligations.RetireRefusals : Prop :=
  ∀ (n : Nat) (s : State), s.port.state = .idle → s.geometryLaw = true →
    ((∀ r ∈ s.table.stations, r.number ≠ n) → Refuses (.retire n) s .notFound) ∧
    ∀ r ∈ s.table.stations, r.number = n → ∀ st, FirstApplies (s.retireChecks r) st → Refuses (.retire n) s st

/-- A RETIRE that no check refuses removes the record, its place in the Delay Index, its cases, its steering states
and every telegram to it, and moves its segment's generation. Other records, settings and stray slots stand; the
cases of other stations stay open, those that are not in service just as they were. -/
def Obligations.RetireRemovesRecord : Prop :=
  ∀ (r : Station) (s : State), s.port.state = .idle → s.geometryLaw = true →
    r ∈ s.table.stations → NoneApplies (s.retireChecks r) →
    ∃ t, Answers (.retire r.number) s t .ok .empty ∧
      t.table.stations = (s.table.stations.filter fun q => q.number != r.number) ∧
      t.generation r.segment = (s.generation r.segment + 1) % 65536 ∧
      t.index r.segment = ((s.index r.segment).filter fun m => m != r.number) ∧
      (∀ g, g ≠ r.segment → t.generation g = s.generation g ∧ t.index g = s.index g) ∧
      (∀ c ∈ t.arbiter.cases, c.station ≠ r.number) ∧
      (∀ c ∈ s.arbiter.cases, c.station ≠ r.number → ∃ d ∈ t.arbiter.cases,
        d.number = c.number ∧ d.station = c.station ∧ d.pair = c.pair ∧ d.evidence = c.evidence ∧
        d.level = c.level ∧ d.openedRound = c.openedRound ∧ d.actionTaken = c.actionTaken) ∧
      (s.caseLaw = true → s.stackLaw = true →
        ∀ c ∈ s.arbiter.cases, c.station ≠ r.number → c.inService = false → c ∈ t.arbiter.cases) ∧
      (s.telegramLaw = true → ∀ p w, ((t.tc p).has w ∨ ∃ o, (t.tc p).outstanding = some o ∧ o.telegram = w) →
        w.dest ≠ r.number) ∧
      (∀ p, (t.sc p).steeringOf r.number = none) ∧
      t.line = s.line ∧ t.settings = s.settings ∧ t.strays = s.strays ∧ t.draws = s.draws

/-- REBASE: its refusals, in the order of log 23, and its effect on every pair part it names that has a latest
gain; nothing else changes. -/
def Obligations.RebaseTakesLatestGains : Prop :=
  ∀ (n p : Nat) (s : State), s.port.state = .idle → s.keyLaw = true →
    (∀ st, FirstApplies (s.rebaseChecks n p) st → Refuses (.rebase n p) s st) ∧
    (NoneApplies (s.rebaseChecks n p) →
      Answers (.rebase n p) s
        (s.setTable { s.table with
          stations := s.table.stations.map fun r => { r with
            parts := r.parts.map fun q =>
              if rebaseNames n p r q = true then
                { q with
                  baseline := q.latest.map (·.gain), confirm := 0,
                  health := if (s.caseAt? r.number q.pair).isSome = true then .suspect else .normal }
              else q } })
        .ok (.count ((s.table.stations.map fun r => (r.parts.filter (rebaseNames n p r)).length).sum)))

/-- SHIFT gives the first refusal that applies, in the rule's order, and a refused SHIFT changes nothing. -/
def Obligations.ShiftRefusals : Prop :=
  ∀ (g fromDelay : Nat) (delta : Int) (st : Status) (s : State), s.port.state = .idle → s.geometryLaw = true →
    FirstApplies (s.shiftChecks g fromDelay delta) st → Refuses (.shift g fromDelay delta) s st

/-- A SHIFT that no check refuses moves exactly its moved set, and the generation of every segment in which a
station moved; a delta of 0 moves nothing. The Delay Indexes and everything outside the table stand. -/
def Obligations.ShiftMovesStations : Prop :=
  ∀ (g fromDelay : Nat) (delta : Int) (s : State), s.port.state = .idle → s.geometryLaw = true →
    NoneApplies (s.shiftChecks g fromDelay delta) →
    (delta = 0 → Answers (.shift g fromDelay delta) s s .ok (.count 0)) ∧
    (delta ≠ 0 → ∃ (t : State) (moved : List Station),
      (∀ r, r ∈ moved ↔ r ∈ s.table.stations ∧ s.moved g fromDelay r) ∧ moved.Sublist s.table.stations ∧
      Answers (.shift g fromDelay delta) s t .ok (.count moved.length) ∧ Only [.table] s t ∧
      t.table.index = s.table.index ∧
      List.Forall₂ (fun r q => ∃ d : Nat, q = { r with delay := d } ∧ s.movesTo g fromDelay delta r d)
        s.table.stations t.table.stations ∧
      ∀ h, ((∃ r ∈ moved, r.segment = h) → t.generation h = (s.generation h + 1) % 65536) ∧
        ((∀ r ∈ moved, r.segment ≠ h) → t.generation h = s.generation h))

/-! ### Pair roles and contention -/

/-- ROLE gives the first refusal that applies, and a role already in force is answered OK with no change. -/
def Obligations.RoleRefusals : Prop :=
  ∀ (p r : Nat) (s : State), s.port.state = .idle →
    (∀ st, FirstApplies (s.roleChecks p r) st → Refuses (.role p r) s st) ∧
    (NoneApplies (s.roleChecks p r) → ∀ q : Pair, q.val = p → readRole r = some (s.sc q).role →
      Answers (.role p r) s s .ok .empty)

/-- A pair that enters DRIVING starts its survey afresh: every steering state UNKNOWN, rotation view TRUNK,
dwell count 0, its first plan a REGULAR round of TRUNK. The flags and the other pairs' roles stand. -/
def Obligations.RoleEntersDriving : Prop :=
  ∀ (p : Pair) (s : State), s.port.state = .idle → s.settingsLaw = true → (s.sc p).role ≠ .driving →
    s.equipped p = true → (s.sc p).contention = false →
    ∃ t, Answers (.role p.val 1) s t .ok .empty ∧
      (t.sc p).role = .driving ∧ (t.sc p).contention = false ∧ (t.sc p).statusRead = (s.sc p).statusRead ∧
      (t.sc p).rotation = .trunk ∧ (t.sc p).dwellCount = 0 ∧ (t.sc p).roundView = some .trunk ∧
      (t.sc p).roundKind = some .regular ∧ (t.sc p).focused = none ∧
      (t.sc p).roundCounter = (s.sc p).roundCounter ∧
      (t.sc p).steering = ((s.sc p).steering.map fun e => (e.1, Steering.unknown)) ∧
      (t.sc p).state ≠ .halted ∧ (t.sc p).state ≠ .result ∧
      (∀ q, q ≠ p → (t.sc q).role = (s.sc q).role) ∧
      t.table = s.table ∧ t.line = s.line ∧ t.settings = s.settings ∧ t.strays = s.strays

/-- A pair that leaves DRIVING, by ROLE or by contention: every block's work on it ends, and the abandoned exchange
is kept in LISTENING. By ROLE its flags stand. Contention is far-end drive heard while DRIVING: the pair becomes
LISTENING, its contention flag is set and its status-read flag clear, CONTENTION is raised, and a far-end telegram to
an enlisted station becomes that station's overheard telegram. The stray slots and the settings stand. -/
def Obligations.LeavingDrivingEndsEveryWork : Prop :=
  ∀ (p : Pair) (s : State), s.caseLaw = true → s.stackLaw = true → (s.sc p).role = .driving →
    (∀ r new, s.port.state = .idle → readRole r = some new → new ≠ .driving →
      ∃ t, Answers (.role p.val r) s t .ok .empty ∧ (t.sc p).role = new ∧
        (t.sc p).contention = (s.sc p).contention ∧ (t.sc p).statusRead = (s.sc p).statusRead ∧
        (t.tc p).overheard = (s.tc p).overheard ∧ LeftDriving s t p (new == .listening) ∧
        t.line = s.line ∧ t.settings = s.settings ∧ t.strays = s.strays) ∧
    ∀ sig, s.equipped p = true →
      (sig = .probe s.line.terminal.other ∨ ∃ a g k, sig = .telegram s.line.terminal.other a g k) →
      ∃ t, exec (.farEndDrive p sig) s = .next t ∧
        (t.sc p).role = .listening ∧ (t.sc p).contention = true ∧ (t.sc p).statusRead = false ∧
        t.port.attention.contention = true ∧ t.port.state = s.port.state ∧ LeftDriving s t p true ∧
        (sig = .probe s.line.terminal.other → (t.tc p).overheard = (s.tc p).overheard) ∧
        (∀ a g k, sig = .telegram s.line.terminal.other a g k →
          ((∀ r ∈ s.table.stations, r.address ≠ a) → (t.tc p).overheard = (s.tc p).overheard) ∧
          (s.keyLaw = true → ∀ r ∈ s.table.stations, r.address = a →
            (t.tc p).overheard.find? (·.station == r.number) = some { station := r.number, kind := k, tag := g } ∧
            ∀ n, n ≠ r.number →
              (t.tc p).overheard.find? (·.station == n) = (s.tc p).overheard.find? (·.station == n))) ∧
        t.line = s.line ∧ t.settings = s.settings ∧ t.strays = s.strays

/-- A pair that enters or leaves LISTENING otherwise than from DRIVING: nothing else of its controller on
entering; on leaving, its FAR claims, overheard telegrams and abandoned exchange are gone and the other claims
stand. -/
def Obligations.RoleEntersAndLeavesListening : Prop :=
  ∀ (p : Pair) (s : State), s.port.state = .idle →
    ((s.sc p).role = .off → ∃ t, Answers (.role p.val 2) s t .ok .empty ∧
      t.sc p = { s.sc p with role := .listening } ∧ Only [.survey, .telegrams, .sweeper] s t) ∧
    (∀ r new, (s.sc p).role = .listening → readRole r = some new → new ≠ .listening →
      (new = .driving → s.equipped p = true ∧ (s.sc p).contention = false) →
      ∃ t, Answers (.role p.val r) s t .ok .empty ∧ (t.sc p).role = new ∧
        (∀ c ∈ t.claims, ¬(c.owner = .far ∧ c.pair = .one p)) ∧
        (∀ c ∈ s.claims, ¬(c.owner = .far ∧ c.pair = .one p) → c ∈ t.claims) ∧
        (t.tc p).overheard = [] ∧ (t.tc p).abandoned = none ∧
        t.table = s.table ∧ t.line = s.line ∧ t.settings = s.settings ∧ t.strays = s.strays)

/-- PAIR STATUS returns the pair's state after it has set the status-read flag of a contended pair; CLEAR clears
both flags when both are set, and is refused STATE otherwise. Nothing else changes. -/
def Obligations.PairStatusAndClear : Prop :=
  ∀ s : State, s.port.state = .idle →
    (∀ n, 7 < n → Refuses (.pairStatus n) s .range ∧ Refuses (.clearContention n) s .range) ∧
    ∀ p : Pair,
      (∀ c : SurveyController,
        c = (if (s.sc p).contention = true then { s.sc p with statusRead := true } else s.sc p) →
        Answers (.pairStatus p.val) s (s.setSurvey (s.survey.set p c)) .ok
          (.pairStatus { pair := p, equipped := s.line.equipped.getLsbD p.val, controller := c,
                         settings := s.settings.get p })) ∧
      ((s.sc p).contention = true → (s.sc p).statusRead = true →
        Answers (.clearContention p.val) s
          (s.setSurvey (s.survey.set p { s.sc p with contention := false, statusRead := false })) .ok .empty) ∧
      (¬((s.sc p).contention = true ∧ (s.sc p).statusRead = true) →
        Refuses (.clearContention p.val) s .state)

/-- Far-end drive without contention: none on an unequipped or OFF pair or from this part's own end; on a
LISTENING pair a probe changes nothing, and a telegram becomes its station's overheard telegram. -/
def Obligations.FarEndHeardWhileListening : Prop :=
  ∀ (p : Pair) (s : State),
    (∀ sig, (s.equipped p = false ∨ (s.sc p).role = .off ∨ sig = .probe s.line.terminal ∨
        ∃ a g k, sig = .telegram s.line.terminal a g k) → exec (.farEndDrive p sig) s = .next s) ∧
    (s.equipped p = true → (s.sc p).role = .listening →
      exec (.farEndDrive p (.probe s.line.terminal.other)) s = .next s ∧
      ∀ a g k,
        ((∀ r ∈ s.table.stations, r.address ≠ a) →
          exec (.farEndDrive p (.telegram s.line.terminal.other a g k)) s = .next s) ∧
        (s.keyLaw = true → ∀ r ∈ s.table.stations, r.address = a → ∃ l : List Overheard,
          exec (.farEndDrive p (.telegram s.line.terminal.other a g k)) s =
            .next (s.setTelegrams (s.telegrams.set p { s.tc p with overheard := l })) ∧
          l.find? (·.station == r.number) = some { station := r.number, kind := k, tag := g } ∧
          ∀ n, n ≠ r.number → l.find? (·.station == n) = (s.tc p).overheard.find? (·.station == n)))

/-! ### Cases and claims -/

/-- CASES, CASE and CLAIMS return the lists as they stand, and change nothing; a case in service is returned
with its context. -/
def Obligations.ListsAreReturned : Prop :=
  ∀ s : State, s.port.state = .idle → s.caseLaw = true →
    Answers .listCases s s .ok (.cases (s.arbiter.cases.map fun c => (c.number, c.state, c.level))) ∧
    Answers .listClaims s s .ok (.claims s.claims) ∧
    (∀ n, (n < 1 ∨ 255 < n) → Refuses (.readCase n) s .range) ∧
    (∀ n, 1 ≤ n → n ≤ 255 → (∀ c ∈ s.arbiter.cases, c.number ≠ n) → Refuses (.readCase n) s .notFound) ∧
    ∀ c ∈ s.arbiter.cases,
      (c.state = .active ∨ c.state = .suspended →
        Answers (.readCase c.number) s s .ok (.case c (s.context c.level))) ∧
      (c.state ≠ .active → c.state ≠ .suspended → Answers (.readCase c.number) s s .ok (.case c none))

/-- CLOSE: its refusals in order; a closed case leaves the list with its AUTO claim, its pair part's confirm
count is 0 and its health as the fields stand. Other cases, settings and stray slots stand. -/
def Obligations.CloseRemovesCase : Prop :=
  ∀ (n : Nat) (s : State), s.port.state = .idle → s.caseLaw = true → s.stackLaw = true →
    (∀ st, FirstApplies (s.closeChecks n) st → Refuses (.close n) s st) ∧
    (NoneApplies (s.closeChecks n) → ∀ c ∈ s.arbiter.cases, c.number = n →
      ∃ t, Answers (.close n) s t .ok .empty ∧
        (∀ d ∈ t.arbiter.cases, d.number ≠ n) ∧
        (∀ d ∈ s.arbiter.cases, d.number ≠ n → ∃ e ∈ t.arbiter.cases,
          e.number = d.number ∧ e.station = d.station ∧ e.pair = d.pair ∧ e.evidence = d.evidence) ∧
        (∀ k ∈ t.claims, k.owner ≠ .auto n) ∧
        (∀ q, s.part? c.station c.pair = some q → t.part? c.station c.pair = some { q with
          confirm := 0,
          health := if q.latest.isNone then .unmeasured else if q.baseline.isNone then .unbased else .normal }) ∧
        (c.evidence.alarm ≠ none →
          (∀ d ∈ s.arbiter.cases, d.station = c.station → d.number ≠ n → d.evidence.alarm = none) →
          ∀ r, t.station? c.station = some r → r.latched = none) ∧
        t.line = s.line ∧ t.settings = s.settings ∧ t.strays = s.strays)

/-- The grant of a case: none when no grant is due; otherwise the case that the rule's order puts first goes on
top of the stack, and its station becomes its level's last-served. -/
def Obligations.GrantServesFirstCase : Prop :=
  ∀ s : State, s.caseLaw = true → s.stackLaw = true →
    let eligible := fun c : Case => c ∈ s.arbiter.cases ∧ c.state = .pending ∧
      s.arbiter.policy.masked.get c.level = false ∧ (s.sc c.pair).role = .driving
    let aboveTop := fun c : Case => ∀ k ∈ s.arbiter.cases, s.arbiter.stack.head? = some k.number → c.level < k.level
    let turn := fun c : Case => match s.arbiter.lastServed.get c.level with
      | some v => (c.station + 255 - v) % 256
      | none => c.station
    ((∀ c, eligible c → ¬aboveTop c) → exec .caseGrant s = .next s) ∧
    ∀ c, eligible c → aboveTop c →
      (∀ d, eligible d → d ≠ c → c.level < d.level ∨ (c.level = d.level ∧
        (turn c < turn d ∨ (turn c = turn d ∧ c.pair < d.pair)))) →
      ∃ t, exec .caseGrant s = .next t ∧
        t.arbiter.lastServed = s.arbiter.lastServed.set c.level (some c.station) ∧
        (∃ k ∈ t.arbiter.cases, k.number = c.number ∧
          ((k.state = .active ∧ t.arbiter.stack = c.number :: s.arbiter.stack ∧ (t.context c.level).isSome = true) ∨
           (∃ o, k.state = .held o ∧ t.port.attention.caseHeld = true))) ∧
        t.table = s.table ∧ t.line = s.line ∧ t.settings = s.settings ∧ t.strays = s.strays

/-- TAKE: its refusals in order, HELD with the claim of the lowest number that overlaps, FULL, and the OPERATOR
claim it makes under the lowest free number. DROP: its refusals, and the OPERATOR claim it releases. -/
def Obligations.TakeAndDropClaims : Prop :=
  ∀ s : State, s.port.state = .idle → s.keyLaw = true → s.claimLaw = true →
    (∀ n p,
      (∀ st, FirstApplies (s.takeChecks n p) st → Refuses (.take n p) s st) ∧
      (NoneApplies (s.takeChecks n p) →
        (∀ c ∈ s.claims, claimMeets n p c → (∀ d ∈ s.claims, claimMeets n p d → c.number ≤ d.number) →
          Answers (.take n p) s s .held (.claimEntry c)) ∧
        ((∀ c ∈ s.claims, ¬claimMeets n p c) →
          (16 ≤ s.claims.length → Refuses (.take n p) s .full) ∧
          (s.claims.length < 16 → ∀ scope, readScope p = some scope → ∃ t k,
            Answers (.take n p) s t .ok (.claimNumber k) ∧ k < 16 ∧ (∀ c ∈ s.claims, c.number ≠ k) ∧
            (∀ j, j < k → ∃ c ∈ s.claims, c.number = j) ∧ Only [.claims] s t ∧
            ∀ c, c ∈ t.claims ↔
              c ∈ s.claims ∨ c = { number := k, station := n, pair := scope, owner := .operator })))) ∧
    ∀ n,
      (∀ st, FirstApplies (s.dropChecks n) st → Refuses (.drop n) s st) ∧
      (NoneApplies (s.dropChecks n) → ∃ t, Answers (.drop n) s t .ok .empty ∧
        (∀ c ∈ t.claims, ¬(c.number = n ∧ c.owner = .operator)) ∧
        (∀ c ∈ s.claims, c.number ≠ n → c ∈ t.claims) ∧
        t.table = s.table ∧ t.line = s.line ∧ t.settings = s.settings ∧ t.strays = s.strays)

/-- The operator actions give the first refusal that applies, in the rule's order; an ISOLATE of any other action
is refused RANGE. -/
def Obligations.OperatorActionRefusals : Prop :=
  ∀ (n p : Nat) (s : State), s.port.state = .idle → s.keyLaw = true →
    (∀ e ∈ operatorActions n p, ∀ st, FirstApplies (s.operatorChecks n p e.2) st → Refuses e.1 s st) ∧
    ∀ a, a ≠ 1 → a ≠ 2 → Refuses (.isolate n p a) s .range

/-- An operator action that no check refuses: every pair part of the action takes the kind, PENDING, with the
next issue number, and its pair holds the telegram; nothing but the table and the telegrams changes. -/
def Obligations.OperatorActionPlacesTelegrams : Prop :=
  ∀ (n p : Nat) (s : State), s.port.state = .idle → s.keyLaw = true → s.partsLaw = true →
    ∀ e ∈ operatorActions n p, NoneApplies (s.operatorChecks n p e.2) →
    ∃ t, Answers e.1 s t .queued .empty ∧ Only [.table, .telegrams, .sweeper] s t ∧
      t.table = { s.table with
        stations := s.table.stations.map fun r =>
          if r.number = n then { r with
            parts := r.parts.map fun q =>
              if actsOn p q.pair = true then
                { q with operator := some { kind := e.2, outcome := .pending }, issue := (q.issue + 1) % 256 }
              else q }
          else r } ∧
      ∀ r ∈ s.table.stations, r.number = n → ∀ q ∈ r.parts, actsOn p q.pair = true →
        ∀ w : Telegram, w = { dest := n, kind := e.2, submitter := .operator ((q.issue + 1) % 256) } →
        w ∈ (t.tc q.pair).queue ∨ w ∈ (t.tc q.pair).waitLine ∨
        ∃ o, (t.tc q.pair).outstanding = some o ∧ o.telegram = w

/-- STRAY READ returns the slot and empties it; no other slot and no other block changes. -/
def Obligations.StrayReadEmptiesSlot : Prop :=
  ∀ s : State, s.port.state = .idle → s.strayLaw = true →
    (∀ n, 7 < n → Refuses (.strayRead n) s .range) ∧
    ∀ p : Pair,
      Answers (.strayRead p.val) s (s.setStrays (s.strays.set p { held := none, overrun := false })) .ok
        (.stray (s.strays.get p)) ∧
      ((s.strays.get p).held = none → s.strays.get p = { held := none, overrun := false })

/-! ### Replies and timers -/

/-- The replies that are discarded; the answer to an abandoned exchange, which writes the state in force and is
then dropped (written to no record where no station carries the address: the model's choice, log 39); and the
replies overheard on a LISTENING pair. An overheard ACK or NAK that answers its station's overheard ISOLATE, RESTORE,
CUT or RECONNECT writes the state in force; an ACK that isolates makes a FAR claim under the lowest free number
when the scope and a number are free (also where the pair does not reach the station: the model's choice, log 40), an ACK of RESTORE or RECONNECT releases the scope's FAR claim, and no other
touches a claim. An overheard STATUS REPLY goes to the Alarm Watch. That an unequipped pair hears nothing is log 28,
that the answer to an abandoned exchange is not tested for its kind log 31, and that a report which does not fit the
station's kind writes nothing log 20. -/
def Obligations.RepliesDiscardedAbandonedOrOverheard : Prop :=
  ∀ (p : Pair) (r : Reply) (s : State),
    ((s.equipped p = false ∨ (s.sc p).role = .off) → exec (.reply p r) s = .next s) ∧
    ((s.sc p).role = .driving →
      (∀ o, (s.tc p).outstanding = some o → ¬(r.dest = s.line.terminal ∧ r.source = o.address ∧ r.tag = o.tag ∧
        r.content.answers o.telegram.kind = true)) → exec (.reply p r) s = .next s) ∧
    ((s.sc p).role = .listening → r.dest = s.line.terminal →
      (∀ a, (s.tc p).abandoned = some a → ¬(r.source = a.address ∧ r.tag = a.tag)) →
      exec (.reply p r) s = .next s) ∧
    ((s.sc p).role = .listening → r.dest ≠ s.line.terminal → (∀ q ∈ s.table.stations, q.address ≠ r.source) →
      exec (.reply p r) s = .next s) ∧
    (s.equipped p = true → (s.sc p).role = .listening → r.dest = s.line.terminal →
      ∀ a, (s.tc p).abandoned = some a → r.source = a.address → r.tag = a.tag →
        let dropped := s.setTelegrams (s.telegrams.set p { s.tc p with abandoned := none })
        ((∀ q ∈ s.table.stations, q.address ≠ r.source) → exec (.reply p r) s = .next dropped) ∧
        (s.keyLaw = true → ∀ q ∈ s.table.stations, q.address = r.source →
          (q.kind ≠ .repeater → s.geometryLaw = true ∧ s.partsLaw = true) →
          exec (.reply p r) s = .next (dropped.setTable { s.table with
            stations := s.table.stations.map (s.afterReport q p r.content.state) }))) ∧
    (s.equipped p = true → (s.sc p).role = .listening → r.dest ≠ s.line.terminal → s.keyLaw = true →
      ∀ q ∈ s.table.stations, q.address = r.source →
      (q.kind ≠ .repeater → s.geometryLaw = true ∧ s.partsLaw = true) →
      (∀ w st, r.content = .statusReply w st → ∃ t, exec (.reply p r) s = .next t ∧
        Only [.port, .table, .arbiter] s t ∧ WordJudged s t q w ∧ ((q.judge w).2 = none → Only [.table] s t)) ∧
      ((∀ w st, r.content ≠ .statusReply w st) →
        (∀ h, (s.tc p).overheard.find? (·.station == q.number) = some h →
          (h.tag ≠ r.tag ∨ h.kind = .status ∨ h.kind = .steerTrunk ∨ h.kind = .steerBranch) →
          ((s.tc p).overheard.filter (·.station == q.number)).length = 1 → exec (.reply p r) s = .next s) ∧
        ((∀ h ∈ (s.tc p).overheard, h.station ≠ q.number) → exec (.reply p r) s = .next s) ∧
        ∀ h, (s.tc p).overheard.find? (·.station == q.number) = some h → h.tag = r.tag →
          h.kind ≠ .status → h.kind ≠ .steerTrunk → h.kind ≠ .steerBranch →
          let isolating := ((h.kind = .isolateSpare ∨ h.kind = .isolateLimit) ∧
              (r.content = .ack (.repeater .spare) ∨ r.content = .ack (.repeater .limit))) ∨
            (h.kind = .cut ∧ ∃ side, r.content = .ack (.branching .cut side))
          let restoring := (h.kind = .restore ∨ h.kind = .reconnect) ∧ ∃ st, r.content = .ack st
          ∃ t, exec (.reply p r) s = .next t ∧
            t.table = { s.table with stations := s.table.stations.map (s.afterReport q p r.content.state) } ∧
            t.line = s.line ∧ t.settings = s.settings ∧ t.strays = s.strays ∧
            (¬restoring → Only [.table, .claims] s t) ∧
            (isolating → s.claimLaw = true →
              ((∀ c ∈ s.claims, ¬c.on q.number p) → s.claims.length < 16 → ∃ k, s.lowestFree k ∧
                ∀ c, c ∈ t.claims ↔
                  c ∈ s.claims ∨ c = { number := k, station := q.number, pair := .one p, owner := .far }) ∧
              ((∃ c ∈ s.claims, c.on q.number p) ∨ 16 ≤ s.claims.length → t.claims = s.claims)) ∧
            (restoring →
              (∀ c ∈ t.claims, ¬(c.station = q.number ∧ c.pair = .one p ∧ c.owner = .far)) ∧
              (∀ c ∈ s.claims, ¬(c.station = q.number ∧ c.pair = .one p ∧ c.owner = .far) → c ∈ t.claims) ∧
              (∀ c ∈ t.claims, c ∈ s.claims ∨ ∃ k, c.owner = .auto k) ∧
              ((∀ c ∈ s.claims, ¬(c.station = q.number ∧ c.pair = .one p ∧ c.owner = .far)) →
                t.claims = s.claims)) ∧
            (¬isolating → ¬restoring → t.claims = s.claims)))

/-- A matched reply writes its station's record: the silent count, the isolation state or the branch
connection, the steering state, and the outcome of the operator action in force. A branch newly CUT has its
stations' measurements cleared, and no other record changes. The alarm word of a STATUS REPLY is judged, and then
the reply reaches the context that sent the telegram: a suspended one records it. (On a WAITING pair that holds a
focused request the re-planning of R40 can come between the record and the context; those clauses leave it out.) The
exchange has ended: what is outstanding afterwards is a next telegram on its first try. A report that does not fit
the station's kind writes nothing (log 20). -/
def Obligations.MatchedReplyWritesRecord : Prop :=
  ∀ (p : Pair) (r : Reply) (o : Outstanding) (x : Station) (q : PairPart) (s : State),
    s.equipped p = true → (s.sc p).role = .driving → (s.tc p).outstanding = some o →
    r.dest = s.line.terminal → r.source = o.address → r.tag = o.tag → r.content.answers o.telegram.kind = true →
    s.station? o.telegram.dest = some x → x.part? p = some q →
    ∃ t y z, exec (.reply p r) s = .next t ∧ t.station? o.telegram.dest = some y ∧ y.silent = 0 ∧
      y.part? p = some z ∧
      (∀ i, x.kind = .repeater → r.content.state = .repeater i → z.isolation = i.toIsolation) ∧
      (∀ b c side, x.kind = .branching b → r.content.state = .branching c side →
        z.connection = some c.toConnection ∧
        ((s.sc p).steeringOf o.telegram.dest ≠ none →
          (t.sc p).steeringOf o.telegram.dest = some side.toSteering)) ∧
      (∀ a, o.telegram.submitter = .operator q.issue → q.operator = some a →
        z.operator = some { a with
          outcome := match r.content with
            | .nak _ _ => .refused
            | _ => .done } ∧ t.port.attention.operatorDone = true) ∧
      (s.geometryLaw = true → s.partsLaw = true → ∀ v ∈ s.table.stations, v.number ≠ o.telegram.dest →
        t.station? v.number = some (s.afterReport x p r.content.state v)) ∧
      (∀ w st, r.content = .statusReply w st → WordJudged s t x w) ∧
      (∀ w, (t.tc p).outstanding = some w → w.attempt = 1 ∧ w.tag = ((s.tc p).tagCounter + 1) % 16) ∧
      (∀ l, o.telegram.submitter = .context l → (s.sc p).focused = none ∨ (s.sc p).state ≠ .waiting →
        (∃ u : State, u.table = t.table ∧ u.arbiter.stack = s.arbiter.stack ∧ (u.tc p).outstanding = none ∧
          (∀ c, s.context l = some c → ∃ ph, u.context l = some { c with phase := ph }) ∧
          t = (u.tell l (replyEvent r.content)).settle) ∧
        ∀ c, s.context l = some c → s.arbiter.stack.head? ≠ some c.caseNumber → ∃ d, t.context l = some d ∧
          d.caseNumber = c.caseNumber ∧ d.step = c.step ∧ d.recorded = some (replyEvent r.content)) ∧
      t.line = s.line ∧ t.settings = s.settings ∧ t.strays = s.strays

/-- The reply timer on try 1 of a telegram other than a POLL: it is sent again at once with the next tag, the
address and the deadline in force. A timer that does not run does not expire (log 3). -/
def Obligations.FirstExpiryRetries : Prop :=
  ∀ (p : Pair) (s : State),
    ((s.tc p).outstanding = none → exec (.replyTimerExpiry p) s = .next s) ∧
    ∀ o x, (s.tc p).outstanding = some o → o.telegram.submitter ≠ .sweep → o.attempt = 1 →
      s.station? o.telegram.dest = some x →
      exec (.replyTimerExpiry p) s =
        .next (s.setTelegrams (s.telegrams.set p { s.tc p with
          tagCounter := ((s.tc p).tagCounter + 1) % 16,
          outstanding := some { telegram := o.telegram, address := x.address,
                                tag := ((s.tc p).tagCounter + 1) % 16, origin := s.line.terminal, attempt := 2,
                                deadline := (x.delay + 999) / 1000 + 2 + s.line.turnaround } }))

/-- The reply timer on try 2: the exchange fails. A lost command leaves its state UNCERTAIN, a lost STEER its
unit UNKNOWN, the operator outcome in force is SILENT, and SILENT is found. The context that sent the telegram is told
FAILED, and a suspended one records it (on a WAITING pair that holds a focused request the re-planning of R40 can
come first; those clauses leave it out). The exchange has ended: what is outstanding afterwards is a next telegram on
its first try. -/
def Obligations.SecondExpiryFails : Prop :=
  ∀ (p : Pair) (o : Outstanding) (x : Station) (q : PairPart) (s : State),
    (s.tc p).outstanding = some o → o.telegram.submitter ≠ .sweep → o.attempt = 2 →
    s.station? o.telegram.dest = some x → x.part? p = some q →
    ∃ t y z, exec (.replyTimerExpiry p) s = .next t ∧ t.station? o.telegram.dest = some y ∧ y.part? p = some z ∧
      (x.kind = .repeater →
        (o.telegram.kind = .isolateSpare ∨ o.telegram.kind = .isolateLimit ∨ o.telegram.kind = .restore) →
        z.isolation = .uncertain) ∧
      (∀ b, x.kind = .branching b → (o.telegram.kind = .cut ∨ o.telegram.kind = .reconnect) →
        z.connection = some .uncertain) ∧
      (o.telegram.submitter = .survey → (s.sc p).steeringOf o.telegram.dest ≠ none →
        (t.sc p).steeringOf o.telegram.dest = some .unknown) ∧
      (∀ a, o.telegram.submitter = .operator q.issue → q.operator = some a →
        z.operator = some { a with outcome := .silent } ∧ t.port.attention.operatorDone = true) ∧
      SilentFound s t o.telegram.dest p o.telegram.kind ∧
      (∀ w, (t.tc p).outstanding = some w → w.attempt = 1 ∧ w.tag = ((s.tc p).tagCounter + 1) % 16) ∧
      (∀ l, o.telegram.submitter = .context l → (s.sc p).focused = none ∨ (s.sc p).state ≠ .waiting →
        (∃ u : State, u.table = t.table ∧ u.arbiter.stack = s.arbiter.stack ∧ (u.tc p).outstanding = none ∧
          (∀ c, s.context l = some c → ∃ ph, u.context l = some { c with phase := ph }) ∧
          t = (u.tell l .failed).settle) ∧
        ∀ c, s.context l = some c → s.arbiter.stack.head? ≠ some c.caseNumber → ∃ d, t.context l = some d ∧
          d.caseNumber = c.caseNumber ∧ d.step = c.step ∧ d.recorded = some .failed) ∧
      t.line = s.line ∧ t.settings = s.settings ∧ t.strays = s.strays

/-- The reply timer of a POLL: the silent count goes up to 3, and SILENT is found when it stands at 3. -/
def Obligations.PollExpiryCountsSilence : Prop :=
  ∀ (p : Pair) (o : Outstanding) (x : Station) (s : State),
    (s.tc p).outstanding = some o → o.telegram.submitter = .sweep → s.station? o.telegram.dest = some x →
    ∃ t y, exec (.replyTimerExpiry p) s = .next t ∧ t.station? o.telegram.dest = some y ∧
      y.silent = min (x.silent + 1) 3 ∧
      (2 ≤ x.silent → SilentFound s t o.telegram.dest p .status) ∧
      (x.silent < 2 → t.arbiter = s.arbiter ∧ t.port = s.port) ∧
      Only [.port, .table, .telegrams, .sweeper, .arbiter] s t

/-- The poll timer: a running sweep sets the sweep-pending flag; otherwise a sweep starts, every cursor at 0, and
the cursors advance. A DRIVING pair whose controller can take a POLL queues the one to the first station that it
polls, its cursor beyond it; with none to poll its cursor has passed. The sweep runs on exactly while a DRIVING
pair's cursor is short of the end: with no DRIVING pair, or no station, it ends at once. The timer goes on with the
period in force. -/
def Obligations.PollTimerStartsSweep : Prop :=
  ∀ s : State,
    (s.sweeper.running = true →
      exec .pollTimerExpiry s =
        .next (s.setSweeper { s.sweeper with pollTimer := s.line.pollPeriod, sweepPending := true })) ∧
    (s.sweeper.running = false → ∃ t, exec .pollTimerExpiry s = .next t ∧ Only [.telegrams, .sweeper] s t ∧
      t.sweeper.pollTimer = s.line.pollPeriod ∧ (s.flagLaw = true → t.sweeper.sweepPending = false) ∧
      (t.sweeper.running = true ↔
        ∃ p, (s.sc p).role = .driving ∧ ∃ r ∈ s.table.stations, t.sweeper.cursors.get p ≤ r.number) ∧
      (∀ p, (s.sc p).role ≠ .driving → t.sweeper.cursors.get p = 0) ∧
      (s.geometryLaw = true → s.partsLaw = true → s.flagLaw = true →
        ∀ p, (s.sc p).role = .driving → (s.tc p).roomForPoll →
          (∀ r ∈ s.table.stations, s.polls p r → (∀ q ∈ s.table.stations, s.polls p q → r.number ≤ q.number) →
            r.number < t.sweeper.cursors.get p ∧
            ∀ w : Telegram, w = { dest := r.number, kind := .status, submitter := .sweep } →
              w ∈ (t.tc p).queue ∨ ∃ o, (t.tc p).outstanding = some o ∧ o.telegram = w) ∧
          ((∀ r ∈ s.table.stations, ¬s.polls p r) → t.sweeper.cursors.get p = 256)))

/-- The claim wait timer: a working context in CLAIM ends BLOCKED; a suspended one records the expiry; a timer
that does not run does not expire (log 3). -/
def Obligations.ClaimWaitExpiryBlocks : Prop :=
  ∀ (l : Level) (s : State),
    ((s.context l).bind (·.timer) = none → exec (.claimWaitExpiry l) s = .next s) ∧
    (∀ c w, s.context l = some c → c.timer = some w → s.arbiter.stack.head? ≠ some c.caseNumber →
      ∃ t, exec (.claimWaitExpiry l) s = .next t ∧ Only [.telegrams, .sweeper, .contexts] s t ∧
        t.contexts = s.contexts.set l (some { c with timer := none, recorded := some .expired })) ∧
    (∀ c w k, s.caseLaw = true → s.stackLaw = true → s.context l = some c → c.timer = some w → c.step = .claim →
      k ∈ s.arbiter.cases → k.number = c.caseNumber → k.level = l → s.arbiter.stack.head? = some k.number →
      ∃ t, exec (.claimWaitExpiry l) s = .next t ∧ { k with state := .held .blocked } ∈ t.arbiter.cases ∧
        t.context l = none ∧ k.number ∉ t.arbiter.stack ∧ t.port.attention.caseHeld = true ∧
        t.table = s.table ∧ t.line = s.line ∧ t.settings = s.settings ∧ t.strays = s.strays)

/-! ### The Isolation Sequencer -/

/-- What a context does with an event of its work. A suspended one records it, and an ACK of the commanded state is
then the action taken. In VERIFY the working one tests
whether a tested cause still holds: if not, UNCONFIRMED; else it chooses the deciding cause's action: REPORTED in
REPORT mode or where the action is NONE or does not fit; else its claim (held, made, or waited for, BLOCKED when the
case holds another) and its command. In ACT an ACK of the commanded state is the action taken, and leads to
ISOLATED after CUT and to CONFIRM otherwise; another ACK or a NAK is REFUSED, a failure FAILED. In CONFIRM the same
test gives INEFFECTIVE or ISOLATED. A case that ends UNREACHABLE in ACT keeps the claim it has gained (the model's reading, log 42); the action
chosen is a field of the context (log 22). A released claim makes the waiting context ask again. When the case on top
leaves service the context below resumes: it takes the event recorded, or makes its focused request again, or asks
for its claim again, or waits on. The context of a granted case
starts at VERIFY, or at CONFIRM when its action has been taken, which after CUT reads the unit's branch connection. A
check starts with a STATUS telegram or a focused request, by the causes. -/
def Obligations.ContextWorksItsSteps : Prop :=
  (∀ (s : State) (l : Level) (c : Context) (e : ContextEvent), s.context l = some c →
    s.arbiter.stack.head? ≠ some c.caseNumber →
    Only [.arbiter, .contexts] s (s.tell l e) ∧
    (s.tell l e).contexts = s.contexts.set l (some { c with recorded := some e }) ∧
    let done := ∃ cmd st, c.step = .act ∧ c.chosen = some cmd ∧ e = .ack st ∧ commanded cmd st
    (done → (s.tell l e).arbiter = { s.arbiter with cases := s.arbiter.cases.map fun k =>
      if k.number = c.caseNumber then { k with actionTaken := c.chosen } else k }) ∧
    (¬done → (s.tell l e).arbiter = s.arbiter)) ∧
  (∀ (s : State) (k : Case) (c : Context) (x : Station) (e : ContextEvent), s.caseLaw = true → s.stackLaw = true →
    s.geometryLaw = true → s.partsLaw = true → s.claimLaw = true → (s.sc k.pair).role = .driving →
    Works s k c → s.station? k.station = some x →
    let t := s.tell k.level e
    (c.step = .verify →
      (¬s.stillHolds k x e → LeftService t k .unconfirmed) ∧
      (s.stillHolds k x e → ∀ d, decides s.arbiter.policy.levelMap k.evidence d →
        let a := s.arbiter.policy.actionMap.get d
        ((s.arbiter.policy.modes.get k.level = .report ∨ ∀ cmd y, ¬s.commandsBy a x cmd y) →
          LeftService t k .reported) ∧
        ∀ cmd y, s.arbiter.policy.modes.get k.level = .auto → s.commandsBy a x cmd y → c.timer = none →
          (∀ n, k.claim = some n → ∀ h ∈ s.claims, h.number = n →
            (h.station = y.number → h.pair = .one k.pair → Acts s t k cmd y) ∧
            (¬(h.station = y.number ∧ h.pair = .one k.pair) → LeftService t k .blocked)) ∧
          (k.claim = none →
            ((∀ h ∈ s.claims, ¬h.on y.number k.pair) → s.claims.length < 16 → ∃ n, s.lowestFree n ∧
              (∀ h ∈ s.claims, h ∈ t.claims) ∧
              ({ number := n, station := y.number, pair := .one k.pair, owner := .auto k.number } : Claim) ∈ t.claims ∧
              Acts s t { k with claim := some n } cmd y) ∧
            ((∃ h ∈ s.claims, h.on y.number k.pair) ∨ 16 ≤ s.claims.length → Only [.contexts] s t ∧
              t.context k.level = some { c with
                step := .claim, phase := .claimWait, tries := 1, timer := some s.line.claimWait,
                chosen := some cmd })))) ∧
    (c.step = .act → ∀ cmd, c.chosen = some cmd →
      (∀ st, e = .ack st → commanded cmd st →
        let done := { k with actionTaken := some cmd }
        (cmd = .cut → LeftService t done .isolated) ∧
        (cmd ≠ .cut → LeftService t done .unreachable ∨ (done ∈ t.arbiter.cases ∧ ∃ d, t.context k.level = some d ∧
          d.caseNumber = k.number ∧ d.step = .confirm ∧ d.tries = 1))) ∧
      ((∃ st, e = .ack st ∧ ¬commanded cmd st) ∨ (∃ reason st, e = .nak reason st) → LeftService t k .refused) ∧
      (e = .failed → LeftService t k .failed)) ∧
    (c.step = .confirm →
      (s.stillHolds k x e → LeftService t k .ineffective) ∧ (¬s.stillHolds k x e → LeftService t k .isolated))) ∧
  (∀ (s : State) (k : Case) (c : Context) (x y : Station) (a : MapAction) (cmd : Command), s.caseLaw = true →
    s.stackLaw = true → s.geometryLaw = true → s.partsLaw = true → s.claimLaw = true →
    (s.sc k.pair).role = .driving → Works s k c → s.station? k.station = some x → c.phase = .claimWait →
    c.chosen = some cmd → s.commandsBy a x cmd y →
    ((∀ h ∈ s.claims, ¬h.on y.number k.pair) → s.claims.length < 16 → ∃ n, s.lowestFree n ∧
      ({ number := n, station := y.number, pair := .one k.pair, owner := .auto k.number } : Claim) ∈ s.announce.claims ∧
      Acts s s.announce { k with claim := some n } cmd y) ∧
    ((∃ h ∈ s.claims, h.on y.number k.pair) ∨ 16 ≤ s.claims.length → Only [.contexts] s s.announce ∧
      s.announce.context k.level = some { c with
        tries := min (c.tries + 1) 255, timer := some (c.timer.getD s.line.claimWait) })) ∧
  (∀ (s : State) (o : Outcome), s.caseLaw = true → s.stackLaw = true → s.arbiter.stack ≠ [] →
    conclude (s, some o) = conclude (s.leaveService o).resume) ∧
  (∀ (s : State) (k : Case) (c : Context) (x : Station), s.caseLaw = true → s.stackLaw = true → Works s k c →
    s.station? k.station = some x →
    let t := s.setContexts (s.contexts.set k.level (some { c with recorded := none }))
    (∀ e, c.recorded = some e →
      (∀ cmd st, c.step = .act → c.chosen = some cmd → e = .ack st → commanded cmd st → k.actionTaken = some cmd) →
      conclude s.resume = t.tell k.level e) ∧
    (c.recorded = none →
      (c.phase = .asked → s.resume =
        (s.setContexts (s.contexts.set k.level (some { c with tries := min (c.tries + 1) 255 }))).requestFocus k.pair
          { view := x.segment, station := k.station, level := k.level, taken := false }) ∧
      (c.phase = .claimWait → conclude s.resume = s.announce) ∧
      (c.phase = .measuring ∨ c.phase = .sent → s.resume = (s, none)))) ∧
  (∀ (s : State) (k : Case), s.claimLaw = true →
    let t := s.setContexts (s.contexts.set k.level (some (Context.occupied k)))
    (k.actionTaken = none → s.startContext k = t.startCheck k .verify) ∧
    (k.actionTaken = some .spare ∨ k.actionTaken = some .limit → s.startContext k = t.startCheck k .confirm) ∧
    ∀ h ∈ s.claims, ∀ q, k.actionTaken = some .cut → k.claim = some h.number → s.part? h.station k.pair = some q →
      s.startContext k = (t, some (if q.connection = some .cut then .isolated else .ineffective))) ∧
  ∀ (s : State) (k : Case) (c : Context) (x : Station) (st : ContextStep), s.geometryLaw = true → s.partsLaw = true →
    (s.sc k.pair).role = .driving → s.context k.level = some c → s.station? k.station = some x →
    let round := k.evidence.step ≠ none ∨ k.evidence.lost ≠ none ∨ k.evidence.stray ≠ none
    (round → (s.sc k.pair).state = .running ∨ (s.sc k.pair).state = .result →
      s.startCheck k st = ((s.setContexts (s.contexts.set k.level
          (some { c with step := st, phase := .asked, tries := 1 }))).setSurvey (s.survey.set k.pair
          { s.sc k.pair with focused := some { view := x.segment, station := k.station, level := k.level,
                                               taken := false } }), none)) ∧
    (¬round → (¬s.linkUp k.pair x → (s.startCheck k st).2 = some .unreachable) ∧
      (s.linkUp k.pair x → ∃ t, s.startCheck k st = (t, none) ∧ Only [.contexts, .telegrams] s t ∧
        t.contexts = s.contexts.set k.level (some { c with step := st, phase := .sent, tries := 1 }) ∧
        (t.tc k.pair).has { dest := k.station, kind := .status, submitter := .context k.level }))

/-! ### Rounds and results -/

/-- The plan of a regular round at a boundary of a DRIVING pair that holds no focused request: the rotation stays, or
moves to the next available view when the dwell is reached or its view is not available; the steering plan sends
STEER TRUNK, in increasing delay of the units, then STEER BRANCH; with nothing to steer the pair asks for a
correlator, with an empty TRUNK view held back. At the end of steering a round view whose unit does not stand at
BRANCH is left for the next available one, and any other goes ahead.

A focused request comes first: at a boundary it is tested and taken, its view's steering sent, or it is refused and
the regular round planned (logs 14, 16). When its steering has ended it is tested again; a plan that no longer stands
is made then (log 13). It is taken at once in WAITING, in STEERING behind the exchanges in flight, and waits in
RUNNING and RESULT. Withdrawn, it leaves the pair: in WAITING a regular round is planned at once, in STEERING when
the exchanges have ended, the round view and kind meanwhile being the model's choice (log 38). -/
def Obligations.SurveyPlansRounds : Prop :=
  (∀ (p : Pair) (s : State), s.geometryLaw = true → s.partsLaw = true → (s.sc p).role = .driving →
    (s.sc p).focused = none →
    let c := s.sc p
    let moves := (s.settings.get p).dwell ≤ c.dwellCount ∨ ¬s.viewAvailable p c.rotation
    ∃ (t : State) (v : View) (us ws : List Station),
      s.plan p = (t, none) ∧ Only [.pool, .survey, .contexts, .telegrams] s t ∧
      (¬moves → v = c.rotation ∧ (t.sc p).dwellCount = c.dwellCount) ∧
      (moves → s.rotationMoves p c.rotation v ∧ (t.sc p).dwellCount = 0) ∧
      ((t.sc p).rotation = v ∧ (t.sc p).roundView = some v ∧ (t.sc p).roundKind = some .regular ∧
        (t.sc p).focused = none ∧ (t.sc p).steering = c.steering ∧ (t.sc p).roundCounter = c.roundCounter) ∧
      s.SteeringPlanOf p v (moves ∨ c.lastView ≠ some .trunk) us ws ∧
      let plan := steerTelegrams us ws
      (plan ≠ [] → (t.sc p).state = .steering ∧ t.pool = s.pool ∧ t.contexts = s.contexts ∧
        t.telegrams = s.telegrams.set p (plan.foldl TelegramController.submit (s.tc p)) ∧
        ∀ w ∈ plan, (t.tc p).has w) ∧
      (plan = [] → t.telegrams = s.telegrams ∧
        (v = .trunk → (∀ r ∈ s.table.stations, r.segment ≠ .trunk) → (t.sc p).state = .waiting ∧ t.pool = s.pool) ∧
        ((v ≠ .trunk ∨ ∃ r ∈ s.table.stations, r.segment = .trunk) →
          ((t.sc p).state = .waiting ∧ (p, RoundKind.regular) ∈ t.pool.presented) ∨
          ((t.sc p).state = .running ∧ ∃ k r, t.pool.correlators.get k = .running r 0 s.line.terminal ∧
            r.definition.pair = p ∧ r.definition.view = v ∧ r.definition.kind = .regular)))) ∧
  (∀ (p : Pair) (s : State) (v : View), s.geometryLaw = true → s.partsLaw = true → (s.sc p).state = .steering →
    s.steersInFlight p = [] → (s.sc p).focused = none → (s.sc p).planStale = false → (s.sc p).roundView = some v →
    ∃ t, s.steerEnded p = (t, none) ∧ Only [.pool, .survey, .contexts, .telegrams] s t ∧
      (s.turnedTo p v → (t.sc p).rotation = (s.sc p).rotation ∧ (t.sc p).dwellCount = (s.sc p).dwellCount ∧
        (t.sc p).roundView = some v ∧ ((t.sc p).state = .waiting ∨ (t.sc p).state = .running)) ∧
      (¬s.turnedTo p v → (t.sc p).dwellCount = 0 ∧ (t.sc p).roundView = some (t.sc p).rotation ∧
        (t.sc p).roundKind = some .regular ∧ s.rotationMoves p (s.sc p).rotation (t.sc p).rotation)) ∧
  (∀ (p : Pair) (s : State) (f : FocusedRequest), s.geometryLaw = true → s.partsLaw = true →
    (s.sc p).role = .driving → (s.sc p).focused = some f →
    (s.admits p f → FocusPlanned s p f (s.plan p)) ∧ (¬s.admits p f → FocusRefused s p f (s.plan p))) ∧
  (∀ (p : Pair) (s : State), s.geometryLaw = true → s.partsLaw = true → (s.sc p).role = .driving →
    (s.sc p).state = .steering → s.steersInFlight p = [] →
    ((s.sc p).focused = none → (s.sc p).planStale = true → s.steerEnded p = s.plan p) ∧
    ∀ f, (s.sc p).focused = some f → f.taken = true → (s.sc p).roundKind = some .focused →
      (s.sc p).roundView = some f.view →
      ((s.sc p).planStale = true → FocusPlanned s p f (s.steerEnded p)) ∧
      ((s.sc p).planStale = false → FocusAsked s p f (s.steerEnded p))) ∧
  (∀ (p : Pair) (s : State) (f : FocusedRequest), s.geometryLaw = true → s.partsLaw = true →
    ((s.sc p).role ≠ .driving → s.requestFocus p f = (s, some .interrupted)) ∧
    ((s.sc p).role = .driving →
      ((s.sc p).state = .waiting → ∀ w, w = ((s.setPool { s.pool with
          presented := s.pool.presented.filter fun e => e.1 != p }).setSurvey
            (s.survey.set p { s.sc p with focused := some f })).plan p →
        s.requestFocus p f = (w.1, w.2.map fun _ => .unreachable)) ∧
      ((s.sc p).state = .steering →
        (s.admits p f → s.requestFocus p f = (s.focusedOn p f .steering true, none)) ∧
        (¬s.admits p f → s.requestFocus p f =
          (s.setSurvey (s.survey.set p { s.sc p with planStale := true }), some .unreachable))) ∧
      ((s.sc p).state = .running ∨ (s.sc p).state = .result → s.requestFocus p f =
        (s.setSurvey (s.survey.set p { s.sc p with focused := some { f with taken := false } }), none)))) ∧
  ∀ (p : Pair) (l : Level) (s : State), (s.sc p).role = .driving →
    ((∀ f, (s.sc p).focused = some f → f.level ≠ l) → s.withdrawFocus p l = s) ∧
    ∀ f, (s.sc p).focused = some f → f.level = l →
      (f.taken = true → (s.sc p).state = .waiting → s.withdrawFocus p l = (((s.unfocused p).setPool { s.pool with
        presented := s.pool.presented.filter fun e => e.1 != p }).plan p).1) ∧
      (f.taken = true → (s.sc p).state = .steering → s.withdrawFocus p l = s.setSurvey (s.survey.set p { s.sc p with
        focused := none, roundView := some (s.sc p).rotation, roundKind := some .regular, planStale := true })) ∧
      (f.taken = false ∨ ((s.sc p).state ≠ .waiting ∧ (s.sc p).state ≠ .steering) →
        s.withdrawFocus p l = s.unfocused p)

/-- The life of a round. A grant takes a FOCUSED request before any other, then the pair first in rotating order
from the last-granted pair, and the lowest FREE correlator, with the round's definition and the generations of its
view as they stand; grants go on until no correlator is FREE or no request is presented. A definition holds the
stations of its view in delay order, those in shadow apart, the listen span, the stray limit and the burst count.
A listen span adds the echoes within it to the train, delay by delay (the sum of two levels is a free value,
log 10); the next burst is launched, or the round completes and its result joins the tail of the queue, each
entry's peak the strongest in the station's window, the candidate stray peak the strongest in the search region. A
correlator that does not run has no span to expire (log 3). The strongest peak of a train over a region lies above
−80.0 dB, is the first of equal ones, and is given as at most 0.0 dB (the tie before the clamp is the model's reading,
log 11). -/
def Obligations.RoundIsGrantedRunAndCompleted : Prop :=
  (∀ s : State,
    let turn := fun q : Pair => (q.val + 7 - s.pool.lastGranted.val) % 8
    ((∀ k, s.pool.correlators.get k ≠ .free) ∨ s.pool.presented = [] → s.grantOne = s) ∧
    (∀ k p kind, s.pool.correlators.get k = .free → (∀ j, j < k → s.pool.correlators.get j ≠ .free) →
      (p, kind) ∈ s.pool.presented → (kind = .regular → ∀ e ∈ s.pool.presented, e.2 = .regular) →
      (∀ e ∈ s.pool.presented, e.2 = kind → e.1 ≠ p → turn p < turn e.1) →
      ∃ r : RoundInCorrelator, r.definition = s.roundDefinition p ∧ r.train = [] ∧
        (∀ e, e ∈ r.snapshot ↔ (e.1 = .trunk ∨ e.1 = r.definition.view) ∧ e.2 = s.generation e.1) ∧
        s.grantOne.pool = { s.pool with
          correlators := s.pool.correlators.set k (.running r 0 s.line.terminal),
          presented := s.pool.presented.filter fun e => e.1 != p,
          lastGranted := if kind = .regular then p else s.pool.lastGranted } ∧
        (s.grantOne.sc p).state = .running) ∧
    ((∀ k, s.grantAll.pool.correlators.get k ≠ .free) ∨ s.grantAll.pool.presented = [])) ∧
  (∀ (p : Pair) (s : State) (v : View) (kind : RoundKind), s.geometryLaw = true →
    (s.sc p).roundView = some v → (s.sc p).roundKind = some kind →
    let d := s.roundDefinition p
    d.pair = p ∧ d.view = v ∧ d.kind = kind ∧
    d.bursts = (match kind with
      | .regular => (s.settings.get p).stackDepth
      | .focused => 4 * (s.settings.get p).stackDepth) ∧
    (kind = .regular → d.focus = none) ∧
    (∀ f, kind = .focused → (s.sc p).focused = some f → d.focus = some (f.station, f.level)) ∧
    rising (d.visible.map (·.delay)) = true ∧
    (∀ q, q ∈ d.visible ↔ ∃ x, s.inView v x ∧ ¬s.inShadow p v x ∧
      q = { number := x.number, delay := x.delay, window := x.window }) ∧
    (∀ q, q ∈ d.shadowed ↔ ∃ x, s.inView v x ∧ s.inShadow p v x ∧
      q = { number := x.number, delay := x.delay, window := x.window }) ∧
    (∀ x, s.inView v x → (∀ y, s.inView v y → y.delay ≤ x.delay) → d.listenSpan = x.delay + x.window + 100) ∧
    ((∀ x, s.inView v x → ¬s.inShadow p v x) → d.strayLimit = none) ∧
    ∀ u x, s.inView v x → s.inShadow p v x → s.shades p v u → (∀ w, s.shades p v w → u.delay ≤ w.delay) →
      d.strayLimit = some (u.delay + u.window)) ∧
  (∀ (k : CorrelatorNo) (train : EchoTrain) (s : State), (train.map (·.1)).Nodup →
    ((∀ r n c, s.pool.correlators.get k ≠ .running r n c) → exec (.listenSpanExpiry k train) s = .next s) ∧
    ∀ r n c, s.pool.correlators.get k = .running r n c → ∃ u : EchoTrain,
      (∀ d, levelAt u d =
        if d ≤ r.definition.listenSpan then
          match levelAt train d, levelAt r.train d with
          | some v, some a => some (Config.accumulatedLevel a v)
          | some v, none => some v
          | none, a => a
        else levelAt r.train d) ∧
      (rising (r.train.map (·.1)) = true → rising (u.map (·.1)) = true) ∧
      (n + 1 < r.definition.bursts →
        exec (.listenSpanExpiry k train) s = .next (s.setPool { s.pool with
          correlators := s.pool.correlators.set k (.running { r with train := u } (n + 1) s.line.terminal) })) ∧
      (r.definition.bursts ≤ n + 1 → ∃ t w, exec (.listenSpanExpiry k train) s = .next t ∧
        t.pool = { s.pool with
          correlators := s.pool.correlators.set k (.ready { r with train := u }), queue := s.pool.queue ++ [w] } ∧
        w.correlator = k ∧ w.pair = r.definition.pair ∧ w.view = r.definition.view ∧ w.kind = r.definition.kind ∧
        w.focus = r.definition.focus ∧ w.snapshot = r.snapshot ∧
        (let window := fun (v : RoundStation) (d : Nat) => decide (v.delay ≤ d + v.window ∧ d ≤ v.delay + v.window);
          w.entries = (r.definition.visible.map fun v =>
            { station := v.number,
              peak := (strongestPeak u (window v)).map fun m => (m.2, (m.1 : Int) - (v.delay : Int)) }) ∧
          w.stray = strongestPeak u fun d =>
            decide (10 ≤ d ∧ d ≤ r.definition.listenSpan) &&
            (r.definition.visible ++ r.definition.shadowed).all (fun v => !window v d) &&
            r.definition.strayLimit.all fun l => decide (d ≤ l)) ∧
        t.survey = s.survey.set r.definition.pair { s.sc r.definition.pair with state := .result } ∧
        Only [.pool, .survey] s t)) ∧
  ∀ (t : EchoTrain) (region : Nat → Bool), rising (t.map (·.1)) = true →
    match strongestPeak t region with
    | none => ∀ e ∈ t, region e.1 = true → e.2 ≤ -800
    | some m => ∃ v, (m.1, v) ∈ t ∧ region m.1 = true ∧ -800 < v ∧ m.2 = min v 0 ∧
        ∀ e ∈ t, region e.1 = true → e.2 < v ∨ (e.2 = v ∧ m.1 ≤ e.1)

/-- The taking of a result: the head leaves the queue and its correlator is FREE, or has been granted anew; a void
one changes no record, slot or counter, brings no evidence, and puts a focused request back, pending, unless its
context is suspended; another counts one round, works its echo entries one
after another, then its stray peak, and hands its finding to the context that asked for it: a suspended one records
it (on a pair that holds no further focused request, which the boundary could refuse). What follows is the boundary
of the pair. A captured stray peak names the stations around it and, as far as the Case List has room, brings STRAY
to the case of the one before it, or of the first of the list. A focused station without an entry has no echo (the
model's answer where R76 excludes it, log 25). -/
def Obligations.TakenResultCountsOrIsVoid : Prop :=
  ∀ (r : RoundResult) (rest : List RoundResult) (s : State), s.pool.queue = r :: rest →
    ((r :: rest).map (·.correlator)).Nodup →
    let freed := fun t : State => t.pool.correlators.get r.correlator = .free ∨
      ∃ x, t.pool.correlators.get r.correlator = .running x 0 s.line.terminal ∧ x.train = []
    let round := ((s.sc r.pair).roundCounter + 1) % 65536
    let measured := ((s.takenEntries r).foldl (State.workEntry r.pair round) (s, none)).1
    let captures := fun d m => r.stray = some (d, m) ∧ (s.settings.get r.pair).strayThreshold ≤ m ∧
      (s.strays.get r.pair).held = none
    ((∃ e ∈ r.snapshot, s.generation e.1 ≠ e.2) → ∃ t, exec .takeResult s = .next t ∧
      t.pool.queue = rest ∧ freed t ∧ t.table = s.table ∧ t.strays = s.strays ∧
      (∀ p, (t.sc p).roundCounter = (s.sc p).roundCounter) ∧
      (∀ c ∈ t.arbiter.cases, ∃ d ∈ s.arbiter.cases, d.number = c.number ∧ d.evidence = c.evidence) ∧
      (r.focus = none → t = s.endResult r) ∧
      (∀ n l c, r.focus = some (n, l) → s.context l = some c →
        let asked := s.setContexts (s.contexts.set l (some { c with phase := .asked }))
        (s.arbiter.stack.head? ≠ some c.caseNumber → t = asked.endResult r) ∧
        (s.arbiter.stack.head? = some c.caseNumber →
          t = (asked.setSurvey (s.survey.set r.pair { s.sc r.pair with
            focused := some { view := r.view, station := n, level := l, taken := false } })).endResult r)) ∧
      t.line = s.line ∧ t.settings = s.settings) ∧
    ((∀ e ∈ r.snapshot, s.generation e.1 = e.2) → ∃ t, exec .takeResult s = .next t ∧
      t.pool.queue = rest ∧ freed t ∧ t.table.index = s.table.index ∧ t.table.generation = s.table.generation ∧
      t.table.stations.map (·.number) = s.table.stations.map (·.number) ∧
      ((∀ d m, ¬captures d m) → AssessedIn measured t) ∧
      (∀ d m h, captures d m → (t.strays.get r.pair).held = some h →
        ((s.records (r.entries.map (·.station))) = [] → AssessedIn measured t) ∧
        ∀ x, (s.records (r.entries.map (·.station))).head? = some x →
          AssessedIn (measured.findCase (h.preceding.getD x.number) r.pair (.stray d m) round) t) ∧
      (r.focus = none → ∃ v : State, v.table = t.table ∧ v.contexts = s.contexts ∧
        v.arbiter.stack = s.arbiter.stack ∧ v.claims = s.claims ∧ t = v.endResult r) ∧
      (∀ n l f, r.focus = some (n, l) → f = ({
          pair := r.pair, view := r.view, station := n, round := round,
          echo := ((s.takenEntries r).find? (·.station == n)).any (·.peak.isSome),
          step := (t.part? n r.pair).bind (·.step),
          stray := r.stray.filter fun m => decide ((s.settings.get r.pair).strayThreshold ≤ m.2) } : Finding) →
        (∃ v : State, v.table = t.table ∧ v.contexts = s.contexts ∧ v.arbiter.stack = s.arbiter.stack ∧
          v.claims = s.claims ∧ t = (v.tell l (.finding f)).endResult r) ∧
        ∀ c, s.context l = some c → s.arbiter.stack.head? ≠ some c.caseNumber → (s.sc r.pair).focused = none →
          ∃ d, t.context l = some d ∧ d.caseNumber = c.caseNumber ∧ d.step = c.step ∧
            d.recorded = some (.finding f)) ∧
      (t.sc r.pair).roundCounter = ((s.sc r.pair).roundCounter + 1) % 65536 ∧
      (∀ p, p ≠ r.pair → (t.sc p).roundCounter = (s.sc p).roundCounter ∧ t.strays.get p = s.strays.get p) ∧
      (∀ d m, r.stray = some (d, m) → (s.settings.get r.pair).strayThreshold ≤ m →
        ((s.strays.get r.pair).held = none → t.port.attention.stray = true ∧
          ∃ h, (t.strays.get r.pair).held = some h ∧ h.delay = d ∧ h.magnitude = m ∧ h.view = r.view ∧
            h.round = ((s.sc r.pair).roundCounter + 1) % 65536 ∧
            (rising ((s.records (r.entries.map (·.station))).map (·.delay)) = true →
              let listed := fun x : Station => x ∈ s.records (r.entries.map (·.station))
              (match h.preceding with
                | none => ∀ x, listed x → d ≤ x.delay
                | some n => ∃ x, listed x ∧ x.number = n ∧ x.delay < d ∧ ∀ y, listed y → y.delay < d → y.delay ≤ x.delay) ∧
              (match h.following with
                | none => ∀ x, listed x → x.delay ≤ d
                | some n => ∃ x, listed x ∧ x.number = n ∧ d < x.delay ∧ ∀ y, listed y → d < y.delay → x.delay ≤ y.delay)) ∧
            ∀ x n, (s.records (r.entries.map (·.station))).head? = some x → n = h.preceding.getD x.number →
              (∃ c ∈ s.arbiter.cases, c.station = n ∧ c.pair = r.pair) ∨
                s.arbiter.cases.length + r.entries.length < 32 →
              ∃ c ∈ t.arbiter.cases, c.station = n ∧ c.pair = r.pair ∧ c.evidence.stray = some (d, m)) ∧
        ((s.strays.get r.pair).held ≠ none →
          t.strays = s.strays.set r.pair { s.strays.get r.pair with overrun := true })) ∧
      ((∀ d m, r.stray = some (d, m) → m < (s.settings.get r.pair).strayThreshold) → t.strays = s.strays) ∧
      t.line = s.line ∧ t.settings = s.settings)

/-- One echo entry: what it measures, how its round is judged while the station is IN LINE, the health, and the case
that an EXCEEDS or LOST round opens at K or merges into. The last operand is the deviation of the predecessor, and
the second part of the answer the one that the next entry's predecessor has: this entry's own, when it has one. -/
def Obligations.EchoEntryMeasuresAndJudges : Prop :=
  ∀ (p : Pair) (round : Nat) (prev : Option Int) (e : EchoEntry) (q : PairPart) (s : State),
    s.part? e.station p = some q →
    ∃ t z, (State.workEntry p round (s, prev) e) = (t, (match e.peak, q.baseline with
        | some m, some b => some (m.1 - b)
        | _, _ => prev)) ∧
      t.part? e.station p = some z ∧ Only [.port, .table, .arbiter] s t ∧
      (∀ n v, (n ≠ e.station ∨ v ≠ p) → t.part? n v = s.part? n v) ∧
      (∀ gain offset, e.peak = some (gain, offset) →
        z.latest = some { gain := gain, offset := offset, round := round } ∧ z.missing = 0 ∧
        z.step = q.baseline.map fun b => gain - b - prev.getD 0) ∧
      (e.peak = none → z.latest = none ∧ z.missing = min (q.missing + 1) 15 ∧ z.step = none) ∧
      (z.baseline = q.baseline ∧ z.isolation = q.isolation ∧ z.connection = q.connection ∧
        z.operator = q.operator ∧ z.issue = q.issue) ∧
      (q.isolation ≠ .inLine → z.confirm = q.confirm) ∧
      (q.isolation = .inLine →
        (e.peak = none → z.confirm = min (q.confirm + 1) (s.settings.get p).confirmRounds) ∧
        (e.peak ≠ none → z.step = none → z.confirm = q.confirm) ∧
        ∀ v, z.step = some v →
          ((s.settings.get p).stepThreshold ≤ v ∨ v ≤ -(s.settings.get p).stepThreshold →
            z.confirm = min (q.confirm + 1) (s.settings.get p).confirmRounds) ∧
          (¬((s.settings.get p).stepThreshold ≤ v ∨ v ≤ -(s.settings.get p).stepThreshold) → z.confirm = 0)) ∧
      z.health = (if (t.caseAt? e.station p).isSome then .suspect
        else if 1 ≤ z.confirm then .doubtful
        else if z.latest.isNone then .unmeasured
        else if z.baseline.isNone then .unbased
        else .normal) ∧
      (∀ evidence : Evidence → Prop,
        q.isolation = .inLine ∧ ((e.peak = none ∧ evidence = fun v => v.lost = some z.missing) ∨
          ∃ v, z.step = some v ∧ ((s.settings.get p).stepThreshold ≤ v ∨ v ≤ -(s.settings.get p).stepThreshold) ∧
            evidence = fun w => w.step = some v) →
        (∀ c, s.caseAt? e.station p = some c →
          ∃ d ∈ t.arbiter.cases, d.number = c.number ∧ d.station = e.station ∧ d.pair = p ∧ evidence d.evidence) ∧
        (s.caseAt? e.station p = none →
          (z.confirm = (s.settings.get p).confirmRounds → s.arbiter.cases.length < 32 →
            t.port.attention.caseNew = true ∧ ∃ d ∈ t.arbiter.cases, d.station = e.station ∧ d.pair = p ∧
              evidence d.evidence ∧ d.openedRound = round ∧ d.state = .pending) ∧
          (z.confirm = (s.settings.get p).confirmRounds → 32 ≤ s.arbiter.cases.length →
            t.arbiter = s.arbiter ∧ t.port.attention.caseFull = true) ∧
          (z.confirm < (s.settings.get p).confirmRounds → t.arbiter = s.arbiter ∧ t.port = s.port))) ∧
      ((q.isolation ≠ .inLine ∨ (e.peak ≠ none ∧ ∀ v, z.step = some v →
          ¬((s.settings.get p).stepThreshold ≤ v ∨ v ≤ -(s.settings.get p).stepThreshold))) →
        t.arbiter = s.arbiter ∧ t.port = s.port)

/-- A finding opens a case, merges into the open one by its state, or meets a full list. -/
def Obligations.FindingOpensOrMerges : Prop :=
  ∀ (n : Nat) (p : Pair) (f : CauseFound) (round : Nat) (s : State), s.caseLaw = true →
    ((∀ c ∈ s.arbiter.cases, ¬(c.station = n ∧ c.pair = p)) → s.arbiter.cases.length < 32 →
      s.arbiter.counter ≤ 255 → ∃ c,
      (∀ d, d ∈ (s.findCase n p f round).arbiter.cases ↔ d = c ∨ d ∈ s.arbiter.cases) ∧
      c.station = n ∧ c.pair = p ∧ c.evidence = Evidence.none.add f ∧
      c.level = s.arbiter.policy.levelMap.get f.cause ∧ c.state = .pending ∧ c.openedRound = round ∧
      c.actionTaken = none ∧ c.claim = none ∧
      (1 ≤ c.number ∧ c.number ≤ 255 ∧ (∀ d ∈ s.arbiter.cases, d.number ≠ c.number) ∧
        ∀ m, 1 ≤ m → m ≤ 255 → (∀ d ∈ s.arbiter.cases, d.number ≠ m) →
          (c.number + 254 - s.arbiter.counter) % 255 ≤ (m + 254 - s.arbiter.counter) % 255) ∧
      (s.findCase n p f round).arbiter.counter = c.number ∧
      (s.findCase n p f round).port.attention.caseNew = true ∧
      ∀ q, (s.findCase n p f round).part? n p = some q → q.health = .suspect) ∧
    ((∀ c ∈ s.arbiter.cases, ¬(c.station = n ∧ c.pair = p)) → 32 ≤ s.arbiter.cases.length →
      s.findCase n p f round = s.raise .caseFull) ∧
    ∀ c ∈ s.arbiter.cases, c.station = n → c.pair = p → ∃ level state,
      (s.findCase n p f round).arbiter = { s.arbiter with
        cases := s.arbiter.cases.map fun d =>
          if d.number = c.number then { d with evidence := c.evidence.add f, level := level, state := state } else d } ∧
      (c.inService = true → level = c.level ∧ state = c.state) ∧
      (c.isHeld = true → c.evidence.has f.cause = true → level = c.level ∧ state = c.state) ∧
      ((c.state = .pending ∨ (c.isHeld = true ∧ c.evidence.has f.cause = false)) →
        state = .pending ∧ (∃ d, (c.evidence.add f).has d = true ∧ level = s.arbiter.policy.levelMap.get d) ∧
        ∀ d, (c.evidence.add f).has d = true → level ≤ s.arbiter.policy.levelMap.get d) ∧
      (c.isHeld = true → c.evidence.has f.cause = false →
        (s.findCase n p f round).port.attention.caseNew = true) ∧
      (c.isHeld = false ∨ c.evidence.has f.cause = true → (s.findCase n p f round).port = s.port) ∧
      Only [.port, .arbiter] s (s.findCase n p f round)

/-- The judgement of an alarm word in the three watch modes: the record, and the pairs that a trigger names. -/
def Obligations.WatchJudgesWord : Prop :=
  ∀ (r : Station) (w : AlarmWord),
    (r.mode = .off → r.judge w = ({ r with settled := some w }, none)) ∧
    (r.mode = .event →
      (r.settled = none → r.judge w = ({ r with settled := some w }, none)) ∧
      ∀ v, r.settled = some v →
        (watchEqual r w v → r.judge w = ({ r with candidate := none }, none)) ∧
        (¬watchEqual r w v →
          (∀ c, r.candidate = some c → watchEqual r w c → ∃ l : List Pair,
            r.judge w = ({ r with settled := some w, latched := some w, candidate := none }, some l) ∧
            rising (l.map (·.val)) = true ∧
            ∀ p, p ∈ l ↔ watchedOn r p fun i => v.getLsbD i ≠ w.getLsbD i) ∧
          ((∀ c, r.candidate = some c → ¬watchEqual r w c) →
            r.judge w = ({ r with candidate := some w }, none)))) ∧
    (r.mode = .matching →
      (¬watchEqual r w r.pattern →
        r.judge w = ({ r with settled := some w, matchSeen := false, armed := true }, none)) ∧
      (watchEqual r w r.pattern → r.matchSeen = false →
        r.judge w = ({ r with settled := some w, matchSeen := true }, none)) ∧
      (watchEqual r w r.pattern → r.matchSeen = true → r.armed = false →
        r.judge w = ({ r with settled := some w }, none)) ∧
      (watchEqual r w r.pattern → r.matchSeen = true → r.armed = true → ∃ l : List Pair,
        r.judge w = ({ r with settled := some w, armed := false, latched := some w }, some l) ∧
        rising (l.map (·.val)) = true ∧ ∀ p, p ∈ l ↔ watchedOn r p fun _ => True))

/-! ### Invariants -/

/-- The laws hold right after power-on reset. -/
def Obligations.ResetMeetsEveryLaw : Prop :=
  State.reset.settingsLaw = true ∧ State.reset.geometryLaw = true ∧ State.reset.partsLaw = true ∧
  State.reset.confirmLaw = true ∧ State.reset.flagLaw = true ∧ State.reset.strayLaw = true ∧
  State.reset.surveyLaw = true ∧ State.reset.telegramLaw = true ∧ State.reset.caseLaw = true ∧
  State.reset.stackLaw = true ∧ State.reset.serviceLaw = true ∧ State.reset.healthLaw = true ∧
  State.reset.claimLaw = true

/-- Every step keeps the settings in their ranges, the status-read flag under the contention flag, the sweep-pending
flag under a running sweep, the overrun flag with a HELD slot, and the claims within their number, in order and
without overlap. -/
def Obligations.StepKeepsSettingsFlagsAndClaims : Prop :=
  ∀ s t : State, step s = .next t →
    (s.settingsLaw = true → t.settingsLaw = true) ∧ (s.flagLaw = true → t.flagLaw = true) ∧
    (s.strayLaw = true → t.strayLaw = true) ∧ (s.claimLaw = true → t.claimLaw = true)

/-- Every step keeps the station keys, the order of the pair parts, and the confirm counts within their
settings. -/
def Obligations.StepKeepsRecords : Prop :=
  ∀ s t : State, step s = .next t →
    (s.keyLaw = true → t.keyLaw = true) ∧ (s.partsLaw = true → t.partsLaw = true) ∧
    (s.confirmLaw = true → t.confirmLaw = true)

/-- Every step keeps the Delay Indexes and the overlap laws. -/
def Obligations.StepKeepsGeometry : Prop :=
  ∀ s t : State, s.geometryLaw = true → step s = .next t → t.geometryLaw = true

/-- Every step keeps a pair that does not drive without a survey, a request, a correlator and a result. -/
def Obligations.StepKeepsIdlePairsUnsurveyed : Prop :=
  ∀ s t : State, s.surveyLaw = true → step s = .next t → t.surveyLaw = true

/-- Every step keeps the telegram queues within their bounds and order, and a pair that does not drive without
telegrams. -/
def Obligations.StepKeepsTelegramQueues : Prop :=
  ∀ s t : State, s.telegramLaw = true → step s = .next t → t.telegramLaw = true

/-- Every step keeps the Case List and the in-service stack lawful, with no case in service on a pair that does
not drive. -/
def Obligations.StepKeepsCasesAndStack : Prop :=
  ∀ s t : State, s.caseLaw = true → s.stackLaw = true → s.serviceLaw = true → step s = .next t →
    t.caseLaw = true ∧ t.stackLaw = true ∧ t.serviceLaw = true

/-- Every step keeps SUSPECT tied to an open case. -/
def Obligations.StepKeepsHealthTiedToCases : Prop :=
  ∀ s t : State, s.caseLaw = true → s.healthLaw = true → step s = .next t → t.healthLaw = true

end Statements
end

