-- ==== Sys2Proof/Laws/State.lean ====
section
/-! SUPPORT. One lemma per field per update of State, and the read-after-write lemmas of the fixed-size
collections. -/

namespace Sys2Proof.Machine

/-! ### After `State.setPort` -/

@[simp] theorem State.setPort_port (s : State) (v : RequestPort) : (s.setPort v).port = v := rfl
@[simp] theorem State.setPort_line (s : State) (v : RequestPort) : (s.setPort v).line = s.line := rfl
@[simp] theorem State.setPort_settings (s : State) (v : RequestPort) : (s.setPort v).settings = s.settings := rfl
@[simp] theorem State.setPort_table (s : State) (v : RequestPort) : (s.setPort v).table = s.table := rfl
@[simp] theorem State.setPort_survey (s : State) (v : RequestPort) : (s.setPort v).survey = s.survey := rfl
@[simp] theorem State.setPort_pool (s : State) (v : RequestPort) : (s.setPort v).pool = s.pool := rfl
@[simp] theorem State.setPort_strays (s : State) (v : RequestPort) : (s.setPort v).strays = s.strays := rfl
@[simp] theorem State.setPort_telegrams (s : State) (v : RequestPort) : (s.setPort v).telegrams = s.telegrams := rfl
@[simp] theorem State.setPort_sweeper (s : State) (v : RequestPort) : (s.setPort v).sweeper = s.sweeper := rfl
@[simp] theorem State.setPort_arbiter (s : State) (v : RequestPort) : (s.setPort v).arbiter = s.arbiter := rfl
@[simp] theorem State.setPort_claims (s : State) (v : RequestPort) : (s.setPort v).claims = s.claims := rfl
@[simp] theorem State.setPort_contexts (s : State) (v : RequestPort) : (s.setPort v).contexts = s.contexts := rfl
@[simp] theorem State.setPort_draws (s : State) (v : RequestPort) : (s.setPort v).draws = s.draws := rfl
@[simp] theorem State.setPort_pending (s : State) (v : RequestPort) : (s.setPort v).pending = s.pending := rfl

/-! ### After `State.setLine` -/

@[simp] theorem State.setLine_port (s : State) (v : LineSettings) : (s.setLine v).port = s.port := rfl
@[simp] theorem State.setLine_line (s : State) (v : LineSettings) : (s.setLine v).line = v := rfl
@[simp] theorem State.setLine_settings (s : State) (v : LineSettings) : (s.setLine v).settings = s.settings := rfl
@[simp] theorem State.setLine_table (s : State) (v : LineSettings) : (s.setLine v).table = s.table := rfl
@[simp] theorem State.setLine_survey (s : State) (v : LineSettings) : (s.setLine v).survey = s.survey := rfl
@[simp] theorem State.setLine_pool (s : State) (v : LineSettings) : (s.setLine v).pool = s.pool := rfl
@[simp] theorem State.setLine_strays (s : State) (v : LineSettings) : (s.setLine v).strays = s.strays := rfl
@[simp] theorem State.setLine_telegrams (s : State) (v : LineSettings) : (s.setLine v).telegrams = s.telegrams := rfl
@[simp] theorem State.setLine_sweeper (s : State) (v : LineSettings) : (s.setLine v).sweeper = s.sweeper := rfl
@[simp] theorem State.setLine_arbiter (s : State) (v : LineSettings) : (s.setLine v).arbiter = s.arbiter := rfl
@[simp] theorem State.setLine_claims (s : State) (v : LineSettings) : (s.setLine v).claims = s.claims := rfl
@[simp] theorem State.setLine_contexts (s : State) (v : LineSettings) : (s.setLine v).contexts = s.contexts := rfl
@[simp] theorem State.setLine_draws (s : State) (v : LineSettings) : (s.setLine v).draws = s.draws := rfl
@[simp] theorem State.setLine_pending (s : State) (v : LineSettings) : (s.setLine v).pending = s.pending := rfl

/-! ### After `State.setSettings` -/

@[simp] theorem State.setSettings_port (s : State) (v : Oct PairSettings) : (s.setSettings v).port = s.port := rfl
@[simp] theorem State.setSettings_line (s : State) (v : Oct PairSettings) : (s.setSettings v).line = s.line := rfl
@[simp] theorem State.setSettings_settings (s : State) (v : Oct PairSettings) : (s.setSettings v).settings = v := rfl
@[simp] theorem State.setSettings_table (s : State) (v : Oct PairSettings) : (s.setSettings v).table = s.table := rfl
@[simp] theorem State.setSettings_survey (s : State) (v : Oct PairSettings) : (s.setSettings v).survey = s.survey := rfl
@[simp] theorem State.setSettings_pool (s : State) (v : Oct PairSettings) : (s.setSettings v).pool = s.pool := rfl
@[simp] theorem State.setSettings_strays (s : State) (v : Oct PairSettings) : (s.setSettings v).strays = s.strays := rfl
@[simp] theorem State.setSettings_telegrams (s : State) (v : Oct PairSettings) : (s.setSettings v).telegrams = s.telegrams := rfl
@[simp] theorem State.setSettings_sweeper (s : State) (v : Oct PairSettings) : (s.setSettings v).sweeper = s.sweeper := rfl
@[simp] theorem State.setSettings_arbiter (s : State) (v : Oct PairSettings) : (s.setSettings v).arbiter = s.arbiter := rfl
@[simp] theorem State.setSettings_claims (s : State) (v : Oct PairSettings) : (s.setSettings v).claims = s.claims := rfl
@[simp] theorem State.setSettings_contexts (s : State) (v : Oct PairSettings) : (s.setSettings v).contexts = s.contexts := rfl
@[simp] theorem State.setSettings_draws (s : State) (v : Oct PairSettings) : (s.setSettings v).draws = s.draws := rfl
@[simp] theorem State.setSettings_pending (s : State) (v : Oct PairSettings) : (s.setSettings v).pending = s.pending := rfl

/-! ### After `State.setTable` -/

@[simp] theorem State.setTable_port (s : State) (v : StationTable) : (s.setTable v).port = s.port := rfl
@[simp] theorem State.setTable_line (s : State) (v : StationTable) : (s.setTable v).line = s.line := rfl
@[simp] theorem State.setTable_settings (s : State) (v : StationTable) : (s.setTable v).settings = s.settings := rfl
@[simp] theorem State.setTable_table (s : State) (v : StationTable) : (s.setTable v).table = v := rfl
@[simp] theorem State.setTable_survey (s : State) (v : StationTable) : (s.setTable v).survey = s.survey := rfl
@[simp] theorem State.setTable_pool (s : State) (v : StationTable) : (s.setTable v).pool = s.pool := rfl
@[simp] theorem State.setTable_strays (s : State) (v : StationTable) : (s.setTable v).strays = s.strays := rfl
@[simp] theorem State.setTable_telegrams (s : State) (v : StationTable) : (s.setTable v).telegrams = s.telegrams := rfl
@[simp] theorem State.setTable_sweeper (s : State) (v : StationTable) : (s.setTable v).sweeper = s.sweeper := rfl
@[simp] theorem State.setTable_arbiter (s : State) (v : StationTable) : (s.setTable v).arbiter = s.arbiter := rfl
@[simp] theorem State.setTable_claims (s : State) (v : StationTable) : (s.setTable v).claims = s.claims := rfl
@[simp] theorem State.setTable_contexts (s : State) (v : StationTable) : (s.setTable v).contexts = s.contexts := rfl
@[simp] theorem State.setTable_draws (s : State) (v : StationTable) : (s.setTable v).draws = s.draws := rfl
@[simp] theorem State.setTable_pending (s : State) (v : StationTable) : (s.setTable v).pending = s.pending := rfl

/-! ### After `State.setSurvey` -/

@[simp] theorem State.setSurvey_port (s : State) (v : Oct SurveyController) : (s.setSurvey v).port = s.port := rfl
@[simp] theorem State.setSurvey_line (s : State) (v : Oct SurveyController) : (s.setSurvey v).line = s.line := rfl
@[simp] theorem State.setSurvey_settings (s : State) (v : Oct SurveyController) : (s.setSurvey v).settings = s.settings := rfl
@[simp] theorem State.setSurvey_table (s : State) (v : Oct SurveyController) : (s.setSurvey v).table = s.table := rfl
@[simp] theorem State.setSurvey_survey (s : State) (v : Oct SurveyController) : (s.setSurvey v).survey = v := rfl
@[simp] theorem State.setSurvey_pool (s : State) (v : Oct SurveyController) : (s.setSurvey v).pool = s.pool := rfl
@[simp] theorem State.setSurvey_strays (s : State) (v : Oct SurveyController) : (s.setSurvey v).strays = s.strays := rfl
@[simp] theorem State.setSurvey_telegrams (s : State) (v : Oct SurveyController) : (s.setSurvey v).telegrams = s.telegrams := rfl
@[simp] theorem State.setSurvey_sweeper (s : State) (v : Oct SurveyController) : (s.setSurvey v).sweeper = s.sweeper := rfl
@[simp] theorem State.setSurvey_arbiter (s : State) (v : Oct SurveyController) : (s.setSurvey v).arbiter = s.arbiter := rfl
@[simp] theorem State.setSurvey_claims (s : State) (v : Oct SurveyController) : (s.setSurvey v).claims = s.claims := rfl
@[simp] theorem State.setSurvey_contexts (s : State) (v : Oct SurveyController) : (s.setSurvey v).contexts = s.contexts := rfl
@[simp] theorem State.setSurvey_draws (s : State) (v : Oct SurveyController) : (s.setSurvey v).draws = s.draws := rfl
@[simp] theorem State.setSurvey_pending (s : State) (v : Oct SurveyController) : (s.setSurvey v).pending = s.pending := rfl

/-! ### After `State.setPool` -/

@[simp] theorem State.setPool_port (s : State) (v : CorrelatorPool) : (s.setPool v).port = s.port := rfl
@[simp] theorem State.setPool_line (s : State) (v : CorrelatorPool) : (s.setPool v).line = s.line := rfl
@[simp] theorem State.setPool_settings (s : State) (v : CorrelatorPool) : (s.setPool v).settings = s.settings := rfl
@[simp] theorem State.setPool_table (s : State) (v : CorrelatorPool) : (s.setPool v).table = s.table := rfl
@[simp] theorem State.setPool_survey (s : State) (v : CorrelatorPool) : (s.setPool v).survey = s.survey := rfl
@[simp] theorem State.setPool_pool (s : State) (v : CorrelatorPool) : (s.setPool v).pool = v := rfl
@[simp] theorem State.setPool_strays (s : State) (v : CorrelatorPool) : (s.setPool v).strays = s.strays := rfl
@[simp] theorem State.setPool_telegrams (s : State) (v : CorrelatorPool) : (s.setPool v).telegrams = s.telegrams := rfl
@[simp] theorem State.setPool_sweeper (s : State) (v : CorrelatorPool) : (s.setPool v).sweeper = s.sweeper := rfl
@[simp] theorem State.setPool_arbiter (s : State) (v : CorrelatorPool) : (s.setPool v).arbiter = s.arbiter := rfl
@[simp] theorem State.setPool_claims (s : State) (v : CorrelatorPool) : (s.setPool v).claims = s.claims := rfl
@[simp] theorem State.setPool_contexts (s : State) (v : CorrelatorPool) : (s.setPool v).contexts = s.contexts := rfl
@[simp] theorem State.setPool_draws (s : State) (v : CorrelatorPool) : (s.setPool v).draws = s.draws := rfl
@[simp] theorem State.setPool_pending (s : State) (v : CorrelatorPool) : (s.setPool v).pending = s.pending := rfl

/-! ### After `State.setStrays` -/

@[simp] theorem State.setStrays_port (s : State) (v : Oct StraySlot) : (s.setStrays v).port = s.port := rfl
@[simp] theorem State.setStrays_line (s : State) (v : Oct StraySlot) : (s.setStrays v).line = s.line := rfl
@[simp] theorem State.setStrays_settings (s : State) (v : Oct StraySlot) : (s.setStrays v).settings = s.settings := rfl
@[simp] theorem State.setStrays_table (s : State) (v : Oct StraySlot) : (s.setStrays v).table = s.table := rfl
@[simp] theorem State.setStrays_survey (s : State) (v : Oct StraySlot) : (s.setStrays v).survey = s.survey := rfl
@[simp] theorem State.setStrays_pool (s : State) (v : Oct StraySlot) : (s.setStrays v).pool = s.pool := rfl
@[simp] theorem State.setStrays_strays (s : State) (v : Oct StraySlot) : (s.setStrays v).strays = v := rfl
@[simp] theorem State.setStrays_telegrams (s : State) (v : Oct StraySlot) : (s.setStrays v).telegrams = s.telegrams := rfl
@[simp] theorem State.setStrays_sweeper (s : State) (v : Oct StraySlot) : (s.setStrays v).sweeper = s.sweeper := rfl
@[simp] theorem State.setStrays_arbiter (s : State) (v : Oct StraySlot) : (s.setStrays v).arbiter = s.arbiter := rfl
@[simp] theorem State.setStrays_claims (s : State) (v : Oct StraySlot) : (s.setStrays v).claims = s.claims := rfl
@[simp] theorem State.setStrays_contexts (s : State) (v : Oct StraySlot) : (s.setStrays v).contexts = s.contexts := rfl
@[simp] theorem State.setStrays_draws (s : State) (v : Oct StraySlot) : (s.setStrays v).draws = s.draws := rfl
@[simp] theorem State.setStrays_pending (s : State) (v : Oct StraySlot) : (s.setStrays v).pending = s.pending := rfl

/-! ### After `State.setTelegrams` -/

@[simp] theorem State.setTelegrams_port (s : State) (v : Oct TelegramController) : (s.setTelegrams v).port = s.port := rfl
@[simp] theorem State.setTelegrams_line (s : State) (v : Oct TelegramController) : (s.setTelegrams v).line = s.line := rfl
@[simp] theorem State.setTelegrams_settings (s : State) (v : Oct TelegramController) : (s.setTelegrams v).settings = s.settings := rfl
@[simp] theorem State.setTelegrams_table (s : State) (v : Oct TelegramController) : (s.setTelegrams v).table = s.table := rfl
@[simp] theorem State.setTelegrams_survey (s : State) (v : Oct TelegramController) : (s.setTelegrams v).survey = s.survey := rfl
@[simp] theorem State.setTelegrams_pool (s : State) (v : Oct TelegramController) : (s.setTelegrams v).pool = s.pool := rfl
@[simp] theorem State.setTelegrams_strays (s : State) (v : Oct TelegramController) : (s.setTelegrams v).strays = s.strays := rfl
@[simp] theorem State.setTelegrams_telegrams (s : State) (v : Oct TelegramController) : (s.setTelegrams v).telegrams = v := rfl
@[simp] theorem State.setTelegrams_sweeper (s : State) (v : Oct TelegramController) : (s.setTelegrams v).sweeper = s.sweeper := rfl
@[simp] theorem State.setTelegrams_arbiter (s : State) (v : Oct TelegramController) : (s.setTelegrams v).arbiter = s.arbiter := rfl
@[simp] theorem State.setTelegrams_claims (s : State) (v : Oct TelegramController) : (s.setTelegrams v).claims = s.claims := rfl
@[simp] theorem State.setTelegrams_contexts (s : State) (v : Oct TelegramController) : (s.setTelegrams v).contexts = s.contexts := rfl
@[simp] theorem State.setTelegrams_draws (s : State) (v : Oct TelegramController) : (s.setTelegrams v).draws = s.draws := rfl
@[simp] theorem State.setTelegrams_pending (s : State) (v : Oct TelegramController) : (s.setTelegrams v).pending = s.pending := rfl

/-! ### After `State.setSweeper` -/

@[simp] theorem State.setSweeper_port (s : State) (v : PollSweeper) : (s.setSweeper v).port = s.port := rfl
@[simp] theorem State.setSweeper_line (s : State) (v : PollSweeper) : (s.setSweeper v).line = s.line := rfl
@[simp] theorem State.setSweeper_settings (s : State) (v : PollSweeper) : (s.setSweeper v).settings = s.settings := rfl
@[simp] theorem State.setSweeper_table (s : State) (v : PollSweeper) : (s.setSweeper v).table = s.table := rfl
@[simp] theorem State.setSweeper_survey (s : State) (v : PollSweeper) : (s.setSweeper v).survey = s.survey := rfl
@[simp] theorem State.setSweeper_pool (s : State) (v : PollSweeper) : (s.setSweeper v).pool = s.pool := rfl
@[simp] theorem State.setSweeper_strays (s : State) (v : PollSweeper) : (s.setSweeper v).strays = s.strays := rfl
@[simp] theorem State.setSweeper_telegrams (s : State) (v : PollSweeper) : (s.setSweeper v).telegrams = s.telegrams := rfl
@[simp] theorem State.setSweeper_sweeper (s : State) (v : PollSweeper) : (s.setSweeper v).sweeper = v := rfl
@[simp] theorem State.setSweeper_arbiter (s : State) (v : PollSweeper) : (s.setSweeper v).arbiter = s.arbiter := rfl
@[simp] theorem State.setSweeper_claims (s : State) (v : PollSweeper) : (s.setSweeper v).claims = s.claims := rfl
@[simp] theorem State.setSweeper_contexts (s : State) (v : PollSweeper) : (s.setSweeper v).contexts = s.contexts := rfl
@[simp] theorem State.setSweeper_draws (s : State) (v : PollSweeper) : (s.setSweeper v).draws = s.draws := rfl
@[simp] theorem State.setSweeper_pending (s : State) (v : PollSweeper) : (s.setSweeper v).pending = s.pending := rfl

/-! ### After `State.setArbiter` -/

@[simp] theorem State.setArbiter_port (s : State) (v : CaseArbiter) : (s.setArbiter v).port = s.port := rfl
@[simp] theorem State.setArbiter_line (s : State) (v : CaseArbiter) : (s.setArbiter v).line = s.line := rfl
@[simp] theorem State.setArbiter_settings (s : State) (v : CaseArbiter) : (s.setArbiter v).settings = s.settings := rfl
@[simp] theorem State.setArbiter_table (s : State) (v : CaseArbiter) : (s.setArbiter v).table = s.table := rfl
@[simp] theorem State.setArbiter_survey (s : State) (v : CaseArbiter) : (s.setArbiter v).survey = s.survey := rfl
@[simp] theorem State.setArbiter_pool (s : State) (v : CaseArbiter) : (s.setArbiter v).pool = s.pool := rfl
@[simp] theorem State.setArbiter_strays (s : State) (v : CaseArbiter) : (s.setArbiter v).strays = s.strays := rfl
@[simp] theorem State.setArbiter_telegrams (s : State) (v : CaseArbiter) : (s.setArbiter v).telegrams = s.telegrams := rfl
@[simp] theorem State.setArbiter_sweeper (s : State) (v : CaseArbiter) : (s.setArbiter v).sweeper = s.sweeper := rfl
@[simp] theorem State.setArbiter_arbiter (s : State) (v : CaseArbiter) : (s.setArbiter v).arbiter = v := rfl
@[simp] theorem State.setArbiter_claims (s : State) (v : CaseArbiter) : (s.setArbiter v).claims = s.claims := rfl
@[simp] theorem State.setArbiter_contexts (s : State) (v : CaseArbiter) : (s.setArbiter v).contexts = s.contexts := rfl
@[simp] theorem State.setArbiter_draws (s : State) (v : CaseArbiter) : (s.setArbiter v).draws = s.draws := rfl
@[simp] theorem State.setArbiter_pending (s : State) (v : CaseArbiter) : (s.setArbiter v).pending = s.pending := rfl

/-! ### After `State.setClaims` -/

@[simp] theorem State.setClaims_port (s : State) (v : List Claim) : (s.setClaims v).port = s.port := rfl
@[simp] theorem State.setClaims_line (s : State) (v : List Claim) : (s.setClaims v).line = s.line := rfl
@[simp] theorem State.setClaims_settings (s : State) (v : List Claim) : (s.setClaims v).settings = s.settings := rfl
@[simp] theorem State.setClaims_table (s : State) (v : List Claim) : (s.setClaims v).table = s.table := rfl
@[simp] theorem State.setClaims_survey (s : State) (v : List Claim) : (s.setClaims v).survey = s.survey := rfl
@[simp] theorem State.setClaims_pool (s : State) (v : List Claim) : (s.setClaims v).pool = s.pool := rfl
@[simp] theorem State.setClaims_strays (s : State) (v : List Claim) : (s.setClaims v).strays = s.strays := rfl
@[simp] theorem State.setClaims_telegrams (s : State) (v : List Claim) : (s.setClaims v).telegrams = s.telegrams := rfl
@[simp] theorem State.setClaims_sweeper (s : State) (v : List Claim) : (s.setClaims v).sweeper = s.sweeper := rfl
@[simp] theorem State.setClaims_arbiter (s : State) (v : List Claim) : (s.setClaims v).arbiter = s.arbiter := rfl
@[simp] theorem State.setClaims_claims (s : State) (v : List Claim) : (s.setClaims v).claims = v := rfl
@[simp] theorem State.setClaims_contexts (s : State) (v : List Claim) : (s.setClaims v).contexts = s.contexts := rfl
@[simp] theorem State.setClaims_draws (s : State) (v : List Claim) : (s.setClaims v).draws = s.draws := rfl
@[simp] theorem State.setClaims_pending (s : State) (v : List Claim) : (s.setClaims v).pending = s.pending := rfl

/-! ### After `State.setContexts` -/

@[simp] theorem State.setContexts_port (s : State) (v : Oct (Option Context)) : (s.setContexts v).port = s.port := rfl
@[simp] theorem State.setContexts_line (s : State) (v : Oct (Option Context)) : (s.setContexts v).line = s.line := rfl
@[simp] theorem State.setContexts_settings (s : State) (v : Oct (Option Context)) : (s.setContexts v).settings = s.settings := rfl
@[simp] theorem State.setContexts_table (s : State) (v : Oct (Option Context)) : (s.setContexts v).table = s.table := rfl
@[simp] theorem State.setContexts_survey (s : State) (v : Oct (Option Context)) : (s.setContexts v).survey = s.survey := rfl
@[simp] theorem State.setContexts_pool (s : State) (v : Oct (Option Context)) : (s.setContexts v).pool = s.pool := rfl
@[simp] theorem State.setContexts_strays (s : State) (v : Oct (Option Context)) : (s.setContexts v).strays = s.strays := rfl
@[simp] theorem State.setContexts_telegrams (s : State) (v : Oct (Option Context)) : (s.setContexts v).telegrams = s.telegrams := rfl
@[simp] theorem State.setContexts_sweeper (s : State) (v : Oct (Option Context)) : (s.setContexts v).sweeper = s.sweeper := rfl
@[simp] theorem State.setContexts_arbiter (s : State) (v : Oct (Option Context)) : (s.setContexts v).arbiter = s.arbiter := rfl
@[simp] theorem State.setContexts_claims (s : State) (v : Oct (Option Context)) : (s.setContexts v).claims = s.claims := rfl
@[simp] theorem State.setContexts_contexts (s : State) (v : Oct (Option Context)) : (s.setContexts v).contexts = v := rfl
@[simp] theorem State.setContexts_draws (s : State) (v : Oct (Option Context)) : (s.setContexts v).draws = s.draws := rfl
@[simp] theorem State.setContexts_pending (s : State) (v : Oct (Option Context)) : (s.setContexts v).pending = s.pending := rfl

/-! ### After `State.setDraws` -/

@[simp] theorem State.setDraws_port (s : State) (v : Nat) : (s.setDraws v).port = s.port := rfl
@[simp] theorem State.setDraws_line (s : State) (v : Nat) : (s.setDraws v).line = s.line := rfl
@[simp] theorem State.setDraws_settings (s : State) (v : Nat) : (s.setDraws v).settings = s.settings := rfl
@[simp] theorem State.setDraws_table (s : State) (v : Nat) : (s.setDraws v).table = s.table := rfl
@[simp] theorem State.setDraws_survey (s : State) (v : Nat) : (s.setDraws v).survey = s.survey := rfl
@[simp] theorem State.setDraws_pool (s : State) (v : Nat) : (s.setDraws v).pool = s.pool := rfl
@[simp] theorem State.setDraws_strays (s : State) (v : Nat) : (s.setDraws v).strays = s.strays := rfl
@[simp] theorem State.setDraws_telegrams (s : State) (v : Nat) : (s.setDraws v).telegrams = s.telegrams := rfl
@[simp] theorem State.setDraws_sweeper (s : State) (v : Nat) : (s.setDraws v).sweeper = s.sweeper := rfl
@[simp] theorem State.setDraws_arbiter (s : State) (v : Nat) : (s.setDraws v).arbiter = s.arbiter := rfl
@[simp] theorem State.setDraws_claims (s : State) (v : Nat) : (s.setDraws v).claims = s.claims := rfl
@[simp] theorem State.setDraws_contexts (s : State) (v : Nat) : (s.setDraws v).contexts = s.contexts := rfl
@[simp] theorem State.setDraws_draws (s : State) (v : Nat) : (s.setDraws v).draws = v := rfl
@[simp] theorem State.setDraws_pending (s : State) (v : Nat) : (s.setDraws v).pending = s.pending := rfl

/-! ### After `State.setPending` -/

@[simp] theorem State.setPending_port (s : State) (v : List Instr) : (s.setPending v).port = s.port := rfl
@[simp] theorem State.setPending_line (s : State) (v : List Instr) : (s.setPending v).line = s.line := rfl
@[simp] theorem State.setPending_settings (s : State) (v : List Instr) : (s.setPending v).settings = s.settings := rfl
@[simp] theorem State.setPending_table (s : State) (v : List Instr) : (s.setPending v).table = s.table := rfl
@[simp] theorem State.setPending_survey (s : State) (v : List Instr) : (s.setPending v).survey = s.survey := rfl
@[simp] theorem State.setPending_pool (s : State) (v : List Instr) : (s.setPending v).pool = s.pool := rfl
@[simp] theorem State.setPending_strays (s : State) (v : List Instr) : (s.setPending v).strays = s.strays := rfl
@[simp] theorem State.setPending_telegrams (s : State) (v : List Instr) : (s.setPending v).telegrams = s.telegrams := rfl
@[simp] theorem State.setPending_sweeper (s : State) (v : List Instr) : (s.setPending v).sweeper = s.sweeper := rfl
@[simp] theorem State.setPending_arbiter (s : State) (v : List Instr) : (s.setPending v).arbiter = s.arbiter := rfl
@[simp] theorem State.setPending_claims (s : State) (v : List Instr) : (s.setPending v).claims = s.claims := rfl
@[simp] theorem State.setPending_contexts (s : State) (v : List Instr) : (s.setPending v).contexts = s.contexts := rfl
@[simp] theorem State.setPending_draws (s : State) (v : List Instr) : (s.setPending v).draws = s.draws := rfl
@[simp] theorem State.setPending_pending (s : State) (v : List Instr) : (s.setPending v).pending = v := rfl

/-! ### Fixed-size collections -/

/-- Two indexes of eight. -/
theorem Oct.get_set {α : Type} (o : Oct α) (i j : Fin 8) (a : α) :
    (o.set i a).get j = if j = i then a else o.get j := by
  fin_cases i <;> fin_cases j <;> rfl

@[simp] theorem Oct.get_set_self {α : Type} (o : Oct α) (i : Fin 8) (a : α) : (o.set i a).get i = a := by
  simp [Oct.get_set]

theorem Oct.get_set_ne {α : Type} (o : Oct α) {i j : Fin 8} (a : α) (h : j ≠ i) : (o.set i a).get j = o.get j := by
  simp [Oct.get_set, h]

@[simp] theorem Oct.get_map {α β : Type} (f : α → β) (o : Oct α) (i : Fin 8) : (o.map f).get i = f (o.get i) := by
  fin_cases i <;> rfl

@[simp] theorem Oct.get_make {α : Type} (f : Fin 8 → α) (i : Fin 8) : (Oct.make f).get i = f i := by
  fin_cases i <;> rfl

@[simp] theorem Oct.get_fill {α : Type} (a : α) (i : Fin 8) : (Oct.fill a).get i = a := by
  fin_cases i <;> rfl

/-- Two collections with the same values are one. -/
theorem Oct.ext_get {α : Type} {o u : Oct α} (h : ∀ i, o.get i = u.get i) : o = u := by
  cases o; cases u
  have h0 := h 0; have h1 := h 1; have h2 := h 2; have h3 := h 3
  have h4 := h 4; have h5 := h 5; have h6 := h 6; have h7 := h 7
  simp only [Oct.get] at h0 h1 h2 h3 h4 h5 h6 h7
  simp [h0, h1, h2, h3, h4, h5, h6, h7]

/-- Two indexes of four. -/
theorem Quad.get_set {α : Type} (o : Quad α) (i j : Fin 4) (a : α) :
    (o.set i a).get j = if j = i then a else o.get j := by
  fin_cases i <;> fin_cases j <;> rfl

@[simp] theorem Quad.get_set_self {α : Type} (o : Quad α) (i : Fin 4) (a : α) : (o.set i a).get i = a := by
  simp [Quad.get_set]

theorem Quad.get_set_ne {α : Type} (o : Quad α) {i j : Fin 4} (a : α) (h : j ≠ i) :
    (o.set i a).get j = o.get j := by
  simp [Quad.get_set, h]

@[simp] theorem Quad.get_fill {α : Type} (a : α) (i : Fin 4) : (Quad.fill a).get i = a := by
  fin_cases i <;> rfl

/-- Two collections with the same values are one. -/
theorem Quad.ext_get {α : Type} {o u : Quad α} (h : ∀ i, o.get i = u.get i) : o = u := by
  cases o; cases u
  have h0 := h 0; have h1 := h 1; have h2 := h 2; have h3 := h 3
  simp only [Quad.get] at h0 h1 h2 h3
  simp [h0, h1, h2, h3]

/-- Every pair is among all pairs. -/
theorem mem_allPairs (p : Pair) : p ∈ allPairs := by revert p; decide

/-- Every correlator is among all correlators. -/
theorem mem_allCorrelators (k : CorrelatorNo) : k ∈ allCorrelators := by revert k; decide

/-- Every segment is among all segments. -/
theorem mem_allSegments (g : Segment) : g ∈ allSegments := by
  cases g with
  | trunk => decide
  | branch b => cases b <;> decide

@[simp] theorem PerCause.get_set_self {α : Type} (o : PerCause α) (c : Cause) (a : α) : (o.set c a).get c = a := by
  cases c <;> rfl

theorem PerCause.get_set_ne {α : Type} (o : PerCause α) {c d : Cause} (a : α) (h : d ≠ c) :
    (o.set c a).get d = o.get d := by
  cases c <;> cases d <;> first | rfl | exact absurd rfl h

/-! ### Controllers and contexts -/

@[simp] theorem State.sc_setSc_self (s : State) (p : Pair) (v : SurveyController) : (s.setSc p v).sc p = v := by
  simp [State.setSc, State.sc]

theorem State.sc_setSc_ne (s : State) {p q : Pair} (v : SurveyController) (h : q ≠ p) :
    (s.setSc p v).sc q = s.sc q := by
  simp [State.setSc, State.sc, Oct.get_set_ne _ _ h]

@[simp] theorem State.tc_setTc_self (s : State) (p : Pair) (v : TelegramController) : (s.setTc p v).tc p = v := by
  simp [State.setTc, State.tc]

theorem State.tc_setTc_ne (s : State) {p q : Pair} (v : TelegramController) (h : q ≠ p) :
    (s.setTc p v).tc q = s.tc q := by
  simp [State.setTc, State.tc, Oct.get_set_ne _ _ h]

@[simp] theorem State.context_setContext_self (s : State) (l : Level) (v : Option Context) :
    (s.setContext l v).context l = v := by
  simp [State.setContext, State.context]

theorem State.context_setContext_ne (s : State) {l m : Level} (v : Option Context) (h : m ≠ l) :
    (s.setContext l v).context m = s.context m := by
  simp [State.setContext, State.context, Oct.get_set_ne _ _ h]

end Sys2Proof.Machine
end

