-- ==== Sys2Proof/Laws/Frames.lean ====
section
/-! SUPPORT. What each shared operation can change: one `Only` lemma for each, block by block of the spec. -/

namespace Sys2Proof.Machine

set_option Elab.async false

/-! ### Reasoning with frames -/

theorem Only.refl (l : List Part) (s : State) : Only l s s := by
  intro f _
  cases f <;> rfl

theorem Only.trans {l : List Part} {s t u : State} (h : Only l s t) (k : Only l t u) : Only l s u := by
  intro f hf
  have a := h f hf
  have b := k f hf
  cases f <;> exact Eq.trans b a

/-- A frame holds for every longer list of blocks. -/
theorem Only.up {l m : List Part} {s t : State} (h : Only l s t) (sub : ∀ f ∈ l, f ∈ m := by decide) :
    Only m s t := fun f hf => h f fun hl => hf (sub f hl)

/-- Two changes, one after the other. -/
theorem Only.comp {l k m : List Part} {s t u : State} (h : Only l s t) (h' : Only k t u)
    (sub : ∀ f ∈ l, f ∈ m := by decide) (sub' : ∀ f ∈ k, f ∈ m := by decide) : Only m s u :=
  (h.up sub).trans (h'.up sub')

theorem Only.foldl {α : Type} {l : List Part} {f : State → α → State} (h : ∀ s a, Only l s (f s a)) :
    ∀ (as : List α) (s : State), Only l s (as.foldl f s)
  | [], s => Only.refl l s
  | a :: as, s => (h s a).trans (Only.foldl h as (f s a))

theorem Only.ite {l : List Part} {c : Prop} [Decidable c] {s t u : State} (h : Only l s t) (k : Only l s u) :
    Only l s (if c then t else u) := by split <;> assumption

theorem Only.port_eq {l : List Part} {s t : State} (h : Only l s t) (n : Part.port ∉ l := by decide) :
    t.port = s.port := h .port n
theorem Only.line_eq {l : List Part} {s t : State} (h : Only l s t) (n : Part.line ∉ l := by decide) :
    t.line = s.line := h .line n
theorem Only.settings_eq {l : List Part} {s t : State} (h : Only l s t) (n : Part.settings ∉ l := by decide) :
    t.settings = s.settings := h .settings n
theorem Only.table_eq {l : List Part} {s t : State} (h : Only l s t) (n : Part.table ∉ l := by decide) :
    t.table = s.table := h .table n
theorem Only.survey_eq {l : List Part} {s t : State} (h : Only l s t) (n : Part.survey ∉ l := by decide) :
    t.survey = s.survey := h .survey n
theorem Only.pool_eq {l : List Part} {s t : State} (h : Only l s t) (n : Part.pool ∉ l := by decide) :
    t.pool = s.pool := h .pool n
theorem Only.strays_eq {l : List Part} {s t : State} (h : Only l s t) (n : Part.strays ∉ l := by decide) :
    t.strays = s.strays := h .strays n
theorem Only.telegrams_eq {l : List Part} {s t : State} (h : Only l s t) (n : Part.telegrams ∉ l := by decide) :
    t.telegrams = s.telegrams := h .telegrams n
theorem Only.sweeper_eq {l : List Part} {s t : State} (h : Only l s t) (n : Part.sweeper ∉ l := by decide) :
    t.sweeper = s.sweeper := h .sweeper n
theorem Only.arbiter_eq {l : List Part} {s t : State} (h : Only l s t) (n : Part.arbiter ∉ l := by decide) :
    t.arbiter = s.arbiter := h .arbiter n
theorem Only.claims_eq {l : List Part} {s t : State} (h : Only l s t) (n : Part.claims ∉ l := by decide) :
    t.claims = s.claims := h .claims n
theorem Only.contexts_eq {l : List Part} {s t : State} (h : Only l s t) (n : Part.contexts ∉ l := by decide) :
    t.contexts = s.contexts := h .contexts n
theorem Only.draws_eq {l : List Part} {s t : State} (h : Only l s t) (n : Part.draws ∉ l := by decide) :
    t.draws = s.draws := h .draws n
theorem Only.pending_eq {l : List Part} {s t : State} (h : Only l s t) (n : Part.pending ∉ l := by decide) :
    t.pending = s.pending := h .pending n

/-! ### Updates of one block -/

theorem only_setPort (s : State) (v : RequestPort) : Only [.port] s (s.setPort v) := by
  intro f hf; cases f <;> first | rfl | simp at hf
theorem only_setLine (s : State) (v : LineSettings) : Only [.line] s (s.setLine v) := by
  intro f hf; cases f <;> first | rfl | simp at hf
theorem only_setSettings (s : State) (v : Oct PairSettings) : Only [.settings] s (s.setSettings v) := by
  intro f hf; cases f <;> first | rfl | simp at hf
theorem only_setTable (s : State) (v : StationTable) : Only [.table] s (s.setTable v) := by
  intro f hf; cases f <;> first | rfl | simp at hf
theorem only_setSurvey (s : State) (v : Oct SurveyController) : Only [.survey] s (s.setSurvey v) := by
  intro f hf; cases f <;> first | rfl | simp at hf
theorem only_setPool (s : State) (v : CorrelatorPool) : Only [.pool] s (s.setPool v) := by
  intro f hf; cases f <;> first | rfl | simp at hf
theorem only_setStrays (s : State) (v : Oct StraySlot) : Only [.strays] s (s.setStrays v) := by
  intro f hf; cases f <;> first | rfl | simp at hf
theorem only_setTelegrams (s : State) (v : Oct TelegramController) : Only [.telegrams] s (s.setTelegrams v) := by
  intro f hf; cases f <;> first | rfl | simp at hf
theorem only_setSweeper (s : State) (v : PollSweeper) : Only [.sweeper] s (s.setSweeper v) := by
  intro f hf; cases f <;> first | rfl | simp at hf
theorem only_setArbiter (s : State) (v : CaseArbiter) : Only [.arbiter] s (s.setArbiter v) := by
  intro f hf; cases f <;> first | rfl | simp at hf
theorem only_setClaims (s : State) (v : List Claim) : Only [.claims] s (s.setClaims v) := by
  intro f hf; cases f <;> first | rfl | simp at hf
theorem only_setContexts (s : State) (v : Oct (Option Context)) : Only [.contexts] s (s.setContexts v) := by
  intro f hf; cases f <;> first | rfl | simp at hf
theorem only_setDraws (s : State) (v : Nat) : Only [.draws] s (s.setDraws v) := by
  intro f hf; cases f <;> first | rfl | simp at hf

theorem only_setSc (s : State) (p : Pair) (v : SurveyController) : Only [.survey] s (s.setSc p v) :=
  only_setSurvey s _
theorem only_setTc (s : State) (p : Pair) (v : TelegramController) : Only [.telegrams] s (s.setTc p v) :=
  only_setTelegrams s _
theorem only_setContext (s : State) (l : Level) (v : Option Context) : Only [.contexts] s (s.setContext l v) :=
  only_setContexts s _
theorem only_updateContext (s : State) (l : Level) (f : Context → Context) :
    Only [.contexts] s (s.updateContext l f) := only_setContext s l _
theorem only_updateStation (s : State) (n : Nat) (f : Station → Station) : Only [.table] s (s.updateStation n f) :=
  only_setTable s _
theorem only_updatePart (s : State) (n : Nat) (p : Pair) (f : PairPart → PairPart) :
    Only [.table] s (s.updatePart n p f) := only_updateStation s n _
theorem only_refreshHealth (s : State) (n : Nat) (p : Pair) : Only [.table] s (s.refreshHealth n p) :=
  only_updatePart s n p _
theorem only_bumpGeneration (s : State) (g : Segment) : Only [.table] s (s.bumpGeneration g) := only_setTable s _
theorem only_setIndex (s : State) (g : Segment) (l : List Nat) : Only [.table] s (s.setIndex g l) :=
  only_setTable s _
theorem only_updateCase (s : State) (k : Nat) (f : Case → Case) : Only [.arbiter] s (s.updateCase k f) :=
  only_setArbiter s _
theorem only_raise (s : State) (c : AttentionCause) : Only [.port] s (s.raise c) := only_setPort s _
theorem only_addClaim (s : State) (c : Claim) : Only [.claims] s (s.addClaim c) := only_setClaims s _
theorem only_keepClaims (s : State) (f : Claim → Bool) : Only [.claims] s (s.keepClaims f) := only_setClaims s _
theorem only_setCorrelator (s : State) (k : CorrelatorNo) (c : Correlator) : Only [.pool] s (s.setCorrelator k c) :=
  only_setPool s _
theorem only_setCaseState (s : State) (k : Nat) (v : CaseState) : Only [.arbiter] s (s.setCaseState k v) :=
  only_updateCase s k _
theorem only_setCursor (s : State) (p : Pair) (v : Nat) : Only [.sweeper] s (s.setCursor p v) :=
  only_setSweeper s _
theorem only_setRole (s : State) (p : Pair) (r : Role) : Only [.survey] s (s.setRole p r) := only_setSc s p _

/-! ### Cases -/

theorem only_openCase (s : State) (n : Nat) (p : Pair) (f : CauseFound) (round : Nat) :
    Only [.arbiter, .table, .port] s (s.openCase n p f round) :=
  Only.comp (Only.comp (m := [.arbiter, .table]) (only_setArbiter s _) (only_refreshHealth _ n p)) (only_raise _ _)

theorem only_mergeCase (s : State) (c : Case) (f : CauseFound) : Only [.arbiter, .port] s (s.mergeCase c f) := by
  unfold State.mergeCase
  exact Only.ite (Only.comp (only_updateCase s _ _) (only_raise _ _)) (only_updateCase s _ _).up

/-- A finding changes the Case List, the health of one pair part, and the attention set. -/
theorem only_findCase (s : State) (n : Nat) (p : Pair) (f : CauseFound) (round : Nat) :
    Only [.arbiter, .table, .port] s (s.findCase n p f round) := by
  unfold State.findCase
  split
  · exact (only_mergeCase s _ f).up
  · exact Only.ite (only_openCase s n p f round) (only_raise s _).up

theorem only_suspendTop (s : State) : Only [.arbiter] s s.suspendTop := by
  unfold State.suspendTop
  split
  · exact Only.refl _ s
  · exact only_setCaseState s _ _

theorem only_activateTop (s : State) : Only [.arbiter] s s.activateTop := by
  unfold State.activateTop
  split
  · exact Only.refl _ s
  · exact only_setCaseState s _ _

theorem only_pushCase (s : State) (c : Case) : Only [.arbiter] s (s.pushCase c) :=
  ((only_suspendTop s).trans (only_setCaseState _ _ _)).trans (only_setArbiter _ _)

/-- A case that leaves service changes the Case List, its context and the attention set. -/
theorem only_leaveService (s : State) (o : Outcome) : Only [.arbiter, .contexts, .port] s (s.leaveService o) := by
  unfold State.leaveService
  split
  · exact Only.refl _ s
  · exact Only.comp
      (Only.comp (m := [.arbiter, .contexts, .port])
        (Only.comp (m := [.arbiter, .contexts])
          (Only.comp (m := [.arbiter, .contexts]) (only_setCaseState s _ _) (only_setContext _ _ _))
          (only_setArbiter _ _))
        (only_raise _ _))
      (only_activateTop _)

theorem only_interruptCases (s : State) (p : Pair) : Only [.arbiter, .contexts, .port] s (s.interruptCases p) := by
  unfold State.interruptCases
  exact Only.ite (Only.refl _ s)
    (Only.comp
      (Only.comp (m := [.arbiter, .contexts, .port])
        (Only.comp (m := [.arbiter, .contexts]) (only_setArbiter s _) (only_setContexts _ _)) (only_raise _ _))
      (only_activateTop _))

/-! ### Claims -/

/-- An AUTO request changes the Claim Table and the claim field of one case. -/
theorem only_askAuto (s : State) (k n : Nat) (p : Pair) : Only [.claims, .arbiter] s (s.askAuto k n p).1 := by
  unfold State.askAuto
  split
  · exact Only.comp (only_addClaim s _) (only_updateCase _ _ _)
  · exact Only.refl _ s

theorem only_makeFar (s : State) (n : Nat) (p : Pair) : Only [.claims] s (s.makeFar n p) := by
  unfold State.makeFar
  split
  · exact only_addClaim s _
  · exact Only.refl _ s

/-! ### Telegrams and the Poll Sweeper -/

theorem only_submit (s : State) (p : Pair) (t : Telegram) : Only [.telegrams] s (s.submit p t) :=
  Only.ite (only_setTc s p _) (Only.refl _ s)

theorem only_launch (s : State) (p : Pair) (t : Telegram) (r : Station) (n : Nat) :
    Only [.telegrams] s (s.launch p t r n) := only_setTc s p _

theorem only_sendHead (s : State) (p : Pair) : Only [.telegrams] s (s.sendHead p) := by
  unfold State.sendHead
  dsimp only
  split
  · split
    · exact (only_setTc s p _).trans (only_launch _ p _ _ _)
    · exact only_setTc s p _
  · exact Only.refl _ s

theorem only_fillPair (s : State) (p : Pair) : Only [.telegrams] s (s.fillPair p) := only_setTc s p _

theorem only_advanceCursor (s : State) (p : Pair) : Only [.telegrams, .sweeper] s (s.advanceCursor p) := by
  unfold State.advanceCursor
  split
  · split
    · exact Only.comp (only_setTc s p _) (only_setCursor _ _ _)
    · exact (only_setCursor s _ _).up
  · exact Only.refl _ s

theorem only_pump (s : State) (p : Pair) : Only [.telegrams, .sweeper] s (s.pump p) := by
  have a := (((only_fillPair s p).trans (only_sendHead _ p)).trans (only_fillPair _ p)).up (m := [.telegrams, .sweeper])
  exact (((a.trans (only_advanceCursor _ p)).trans (only_sendHead _ p).up).trans (only_fillPair _ p).up).trans
    (only_advanceCursor _ p)

theorem only_pumpAll (s : State) : Only [.telegrams, .sweeper] s s.pumpAll := Only.foldl only_pump _ s

theorem only_startSweep (s : State) : Only [.sweeper] s s.startSweep := only_setSweeper s _

theorem only_stopIfOver (s : State) : Only [.sweeper] s s.stopIfOver :=
  Only.ite (only_setSweeper s _) (Only.refl _ s)

/-- The close of an event changes the telegram controllers and the sweeper. -/
theorem only_settle (s : State) : Only [.telegrams, .sweeper] s s.settle := by
  unfold State.settle
  dsimp only
  refine (only_pumpAll s).trans (Only.ite ?_ (only_stopIfOver _).up)
  exact (((only_setSweeper _ _).up.trans (only_startSweep _).up).trans (only_pumpAll _)).trans (only_stopIfOver _).up

theorem only_clearPart (s : State) (p : Pair) (n : Nat) : Only [.table] s (s.clearPart p n) :=
  (only_updatePart s n p _).trans (only_refreshHealth _ n p)

theorem only_clearBranch (s : State) (p : Pair) (b : Branch) : Only [.table] s (s.clearBranch p b) :=
  Only.foldl (fun s n => only_clearPart s p n) _ s

theorem only_writeConnection (s : State) (n : Nat) (p : Pair) (b : Branch) (v : Connection) :
    Only [.table] s (s.writeConnection n p b v) := by
  unfold State.writeConnection
  dsimp only
  exact Only.ite ((only_updatePart s n p _).trans (only_clearBranch _ p b)) (only_updatePart s n p _)

theorem only_writeInForce (s : State) (n : Nat) (p : Pair) (st : StateInForce) :
    Only [.table] s (s.writeInForce n p st) := by
  unfold State.writeInForce
  split
  · exact Only.refl _ s
  · split
    · exact only_updatePart s n p _
    · exact only_writeConnection s n p _ _
    · exact Only.refl _ s

theorem only_markUncertain (s : State) (n : Nat) (p : Pair) (k : TelegramKind) :
    Only [.table] s (s.markUncertain n p k) := by
  unfold State.markUncertain
  split
  · exact Only.refl _ s
  · split
    · exact only_updatePart s n p _
    · exact only_updatePart s n p _
    · exact only_updatePart s n p _
    · exact only_writeConnection s n p _ _
    · exact only_writeConnection s n p _ _
    · exact Only.refl _ s

theorem only_writeOperator (s : State) (p : Pair) (t : Telegram) (o : OperatorOutcome) :
    Only [.table] s (s.writeOperator p t o) := only_updatePart s _ p _

theorem only_operatorDone (s : State) (p : Pair) (t : Telegram) (o : OperatorOutcome) :
    Only [.table, .port] s (s.operatorDone p t o) :=
  Only.ite (Only.comp (only_writeOperator s p t o) (only_raise _ _)) (Only.refl _ s)

theorem only_abandonOutcomes (s : State) (p : Pair) (l : List Telegram) :
    Only [.table] s (s.abandonOutcomes p l) := Only.foldl (fun s t => only_writeOperator s p t _) _ s

/-- Abandonment changes the table, the pair's controller and the attention set. -/
theorem only_abandonTelegrams (s : State) (p : Pair) (keep : Bool) :
    Only [.table, .telegrams, .port] s (s.abandonTelegrams p keep) := by
  unfold State.abandonTelegrams
  dsimp only
  have key : ∀ u : State, Only [.table, .telegrams, .port] s u → ∀ v,
      Only [.table, .telegrams, .port] s
        (((u.setTc p v).abandonOutcomes p ((s.tc p).operatorWork.filter (s.operatorCurrent p)))) :=
    fun u hu v => (hu.trans (only_setTc u p v).up).trans (only_abandonOutcomes _ p _).up
  have start : ∀ o : Option Outstanding, Only [.table, .telegrams, .port] s
      (match o with
        | some o => s.markUncertain o.telegram.dest p o.telegram.kind
        | none => s) := by
    intro o
    cases o with
    | none => exact Only.refl _ s
    | some o => exact (only_markUncertain s _ p _).up
  exact Only.ite (key _ (start _) _) ((key _ (start _) _).trans (only_raise _ _).up)

theorem only_overhear (s : State) (p : Pair) (a g : Nat) (k : TelegramKind) :
    Only [.telegrams] s (s.overhear p a g k) := by
  unfold State.overhear
  split
  · exact Only.refl _ s
  · exact only_setTc s p _

theorem only_endListening (s : State) (p : Pair) : Only [.telegrams] s (s.endListening p) := only_setTc s p _

/-! ### The Correlator Pool and the Survey Controllers -/

theorem only_unpresent (s : State) (p : Pair) : Only [.pool] s (s.unpresent p) := only_setPool s _

theorem only_grantTo (s : State) (k : CorrelatorNo) (p : Pair) (kind : RoundKind) :
    Only [.pool, .survey, .contexts] s (s.grantTo k p kind) := by
  unfold State.grantTo
  dsimp only
  split
  · exact ((only_setPool s _).up.trans (only_setSc _ p _).up).trans (only_updateContext _ _ _).up
  · exact (only_setPool s _).up.trans (only_setSc _ p _).up

theorem only_grantOne (s : State) : Only [.pool, .survey, .contexts] s s.grantOne := by
  unfold State.grantOne
  split
  · exact only_grantTo s _ _ _
  · exact Only.refl _ s

/-- Grants change the pool, the controllers of the granted pairs, and the contexts of focused rounds. -/
theorem only_grantAll (s : State) : Only [.pool, .survey, .contexts] s s.grantAll :=
  (((only_grantOne s).trans (only_grantOne _)).trans (only_grantOne _)).trans (only_grantOne _)

theorem only_present (s : State) (p : Pair) (k : RoundKind) : Only [.pool, .survey, .contexts] s (s.present p k) :=
  (only_setPool s _).up.trans (only_grantAll _)

theorem only_abortRounds (s : State) (p : Pair) : Only [.pool, .survey, .contexts] s (s.abortRounds p) :=
  (only_setPool s _).up.trans (only_grantAll _)

theorem only_askPool (s : State) (p : Pair) : Only [.pool, .survey, .contexts] s (s.askPool p) := by
  unfold State.askPool
  dsimp only
  exact Only.ite (only_setSc s p _).up ((only_setSc s p _).up.trans (only_present _ p _))

theorem only_runPlan (s : State) (p : Pair) (plan : List Telegram) :
    Only [.pool, .survey, .contexts, .telegrams] s (s.runPlan p plan) := by
  unfold State.runPlan
  exact Only.ite (only_askPool s p).up
    ((only_setSc s p _).up.trans (Only.foldl (fun s t => (only_submit s p t).up) _ _))

theorem only_planRegular (s : State) (p : Pair) (move first : Bool) :
    Only [.pool, .survey, .contexts, .telegrams] s (s.planRegular p move first) :=
  (only_setSc s p _).up.trans (only_runPlan _ p _)

theorem only_refuseFocused (s : State) (p : Pair) (f : FocusedRequest) :
    Only [.pool, .survey, .contexts, .telegrams] s (s.refuseFocused p f).1 :=
  (only_setSc s p _).up.trans (only_planRegular _ p _ _)

theorem only_askFocused (s : State) (p : Pair) (f : FocusedRequest) :
    Only [.pool, .survey, .contexts, .telegrams] s (s.askFocused p f).1 := by
  unfold State.askFocused
  split
  · exact (only_askPool s p).up
  · exact only_refuseFocused s p f

theorem only_steerFocused (s : State) (p : Pair) (f : FocusedRequest) :
    Only [.pool, .survey, .contexts, .telegrams] s (s.steerFocused p f).1 := by
  unfold State.steerFocused
  dsimp only
  split
  · exact (only_setSc s p _).up.trans (only_askFocused _ p f)
  · exact (only_setSc s p _).up.trans (only_runPlan _ p _)

theorem only_takeFocused (s : State) (p : Pair) (f : FocusedRequest) :
    Only [.pool, .survey, .contexts, .telegrams] s (s.takeFocused p f).1 := by
  unfold State.takeFocused
  split
  · exact (only_setSc s p _).up.trans (only_steerFocused _ p f)
  · exact only_refuseFocused s p f

/-- A plan changes the pair's controller, the pool, the contexts of focused rounds and the telegrams. -/
theorem only_plan (s : State) (p : Pair) : Only [.pool, .survey, .contexts, .telegrams] s (s.plan p).1 := by
  unfold State.plan
  split
  · split
    · exact only_takeFocused s p _
    · exact only_planRegular s p _ _
  · exact Only.refl _ s

theorem only_replan (s : State) (p : Pair) : Only [.pool, .survey, .contexts, .telegrams] s (s.replan p).1 := by
  unfold State.replan
  split
  · exact (only_unpresent s p).up.trans (only_plan _ p)
  · exact Only.refl _ s

theorem only_steerEnded (s : State) (p : Pair) :
    Only [.pool, .survey, .contexts, .telegrams] s (s.steerEnded p).1 := by
  unfold State.steerEnded
  dsimp only
  split
  · split
    · split
      · exact only_steerFocused s p _
      · exact only_askFocused s p _
    · split
      · exact only_planRegular s p _ _
      · split
        · exact (only_askPool s p).up
        · exact only_planRegular s p _ _
  · exact Only.refl _ s

theorem only_requestFocus (s : State) (p : Pair) (f : FocusedRequest) :
    Only [.pool, .survey, .contexts, .telegrams] s (s.requestFocus p f).1 := by
  unfold State.requestFocus
  dsimp only
  split
  · split
    · have h := (only_unpresent s p).up.trans (only_takeFocused (s.unpresent p) p f)
      split <;> simp_all
    · split <;> exact (only_setSc s p _).up
    · exact (only_setSc s p _).up
  · exact Only.refl _ s

theorem only_withdrawFocus (s : State) (p : Pair) (l : Level) :
    Only [.pool, .survey, .contexts, .telegrams] s (s.withdrawFocus p l) := by
  unfold State.withdrawFocus
  dsimp only
  split
  · exact Only.refl _ s
  · split
    · split
      · exact ((only_setSc s p _).up.trans (only_unpresent _ p).up).trans (only_planRegular _ p _ _)
      · exact (only_setSc s p _).up
      · exact (only_setSc s p _).up
    · exact Only.refl _ s

theorem only_startSurvey (s : State) (p : Pair) :
    Only [.pool, .survey, .contexts, .telegrams] s (s.startSurvey p) :=
  (only_setSc s p _).up.trans (only_planRegular _ p _ _)

theorem only_haltSurvey (s : State) (p : Pair) : Only [.survey] s (s.haltSurvey p) := only_setSc s p _

/-! ### The Isolation Sequencer -/

/-- The blocks that the work of a context can reach. -/
abbrev sequencerParts : List Part := [.port, .survey, .pool, .telegrams, .arbiter, .claims, .contexts]

theorem only_askRound (s : State) (k : Case) (r : Station) : Only sequencerParts s (s.askRound k r).1 :=
  (only_updateContext s _ _).up.trans (only_requestFocus _ _ _).up

theorem only_sendFor (s : State) (k : Case) (r : Station) (kind : TelegramKind) :
    Only sequencerParts s (s.sendFor k r kind).1 := by
  unfold State.sendFor
  split
  · exact (only_updateContext s _ _).up.trans (only_submit _ _ _).up
  · exact Only.refl _ s

theorem only_startCheck (s : State) (k : Case) (st : ContextStep) : Only sequencerParts s (s.startCheck k st).1 := by
  unfold State.startCheck
  dsimp only
  refine (only_updateContext s k.level (·.enter st)).up.trans ?_
  split
  · exact Only.refl _ _
  · split
    · exact only_askRound _ k _
    · exact only_sendFor _ k _ _

theorem only_act (s : State) (k : Case) (cmd : Command) (target : Station) :
    Only sequencerParts s (s.act k cmd target).1 :=
  (only_updateContext s _ _).up.trans (only_sendFor _ k target _)

theorem only_askClaim (s : State) (k : Case) (cmd : Command) (target : Station) :
    Only sequencerParts s (s.askClaim k cmd target).1 := by
  unfold State.askClaim
  have h := (only_askAuto s k.number target.number k.pair).up (m := sequencerParts)
  split
  · next e =>
    rw [e] at h
    exact (h.trans (only_updateContext _ _ _).up).trans (only_act _ k cmd target)
  · next e =>
    rw [e] at h
    exact h.trans (only_updateContext _ _ _).up

theorem only_startClaim (s : State) (k : Case) (cmd : Command) (target : Station) :
    Only sequencerParts s (s.startClaim k cmd target).1 := by
  unfold State.startClaim
  dsimp only
  refine (only_updateContext s k.level fun c => { c.enter .claim with chosen := some cmd }).up.trans ?_
  split
  · exact only_askClaim _ k cmd target
  · split
    · exact only_act _ k cmd target
    · exact Only.refl _ _

theorem only_chooseAction (s : State) (k : Case) : Only sequencerParts s (s.chooseAction k).1 := by
  unfold State.chooseAction
  split
  · split
    · split
      · exact only_startClaim s k _ _
      · exact Only.refl _ s
    · exact Only.refl _ s
  · exact Only.refl _ s

theorem only_afterAct (s : State) (k : Case) (cmd : Command) : Only sequencerParts s (s.afterAct k cmd).1 := by
  unfold State.afterAct
  split
  · exact Only.refl _ s
  · exact only_startCheck s k _

theorem only_endAct (s : State) (c : Context) (k : Case) (e : ContextEvent) :
    Only sequencerParts s (s.endAct c k e).1 := by
  unfold State.endAct
  split
  · split
    · split
      · exact only_afterAct s k _
      · exact Only.refl _ s
    · exact Only.refl _ s
  · exact Only.refl _ s
  · exact Only.refl _ s
  · exact Only.refl _ s

theorem only_takeEvent (s : State) (c : Context) (k : Case) (e : ContextEvent) :
    Only sequencerParts s (s.takeEvent c k e).1 := by
  unfold State.takeEvent
  split
  · split
    · exact only_chooseAction s k
    · exact Only.refl _ s
  · exact Only.refl _ s
  · exact only_endAct s c k e
  · exact Only.refl _ s

theorem only_startContext (s : State) (k : Case) : Only sequencerParts s (s.startContext k).1 := by
  unfold State.startContext
  dsimp only
  refine (only_setContext s k.level (some (Context.occupied k))).up.trans ?_
  split
  · exact only_startCheck _ k _
  · exact Only.refl _ _
  · exact only_startCheck _ k _

theorem only_askAgain (s : State) : Only sequencerParts s s.askAgain.1 := by
  unfold State.askAgain
  split
  · exact Only.refl _ s
  · split
    · split
      · exact only_askClaim s _ _ _
      · exact Only.refl _ s
    · exact Only.refl _ s

theorem only_resume (s : State) : Only sequencerParts s s.resume.1 := by
  unfold State.resume
  split
  · exact Only.refl _ s
  · split
    · exact (only_updateContext s _ _).up.trans (only_takeEvent _ _ _ _)
    · split
      · split
        · exact only_askRound s _ _
        · exact Only.refl _ s
      · exact only_askAgain s
      · exact Only.refl _ s

theorem only_concludeWithin : ∀ (n : Nat) (w : Work) (s : State), Only sequencerParts s w.1 →
    Only sequencerParts s (concludeWithin n w)
  | 0, _, _, h => h
  | n + 1, w, s, h => by
    unfold concludeWithin
    split
    · exact h
    · exact only_concludeWithin n _ s ((h.trans (only_leaveService _ _).up).trans (only_resume _))

/-- The conclusion of a piece of work stays within the sequencer's blocks. -/
theorem only_conclude (w : Work) (s : State) (h : Only sequencerParts s w.1) : Only sequencerParts s (conclude w) :=
  only_concludeWithin _ w s h

theorem only_writeAction (s : State) (c : Context) (e : ContextEvent) : Only [.arbiter] s (s.writeAction c e) := by
  unfold State.writeAction
  split
  · split
    · split
      · exact only_updateCase s _ _
      · exact Only.refl _ s
    · exact Only.refl _ s
  · exact Only.refl _ s

/-- An event told to a context stays within the sequencer's blocks. -/
theorem only_tell (s : State) (l : Level) (e : ContextEvent) : Only sequencerParts s (s.tell l e) := by
  unfold State.tell
  split
  · exact Only.refl _ s
  · next c _ =>
    dsimp only
    refine (only_writeAction s c e).up.trans ?_
    split
    · exact only_conclude _ _ (only_takeEvent _ _ _ _)
    · exact (only_updateContext _ _ _).up

theorem only_tellRefused (w : State × Option Level) : Only sequencerParts w.1 (State.tellRefused w) := by
  unfold State.tellRefused
  split
  · exact Only.refl _ _
  · split
    · exact only_conclude _ _ (Only.refl _ _)
    · exact Only.refl _ _

theorem only_announce (s : State) : Only sequencerParts s s.announce := only_conclude _ s (only_askAgain s)

theorem only_replanned (s : State) (p : Pair) : Only sequencerParts s (s.replanned p) :=
  (only_replan s p).up.trans (only_tellRefused _)

theorem only_suspendWork (s : State) : Only sequencerParts s s.suspendWork := by
  unfold State.suspendWork
  split
  · exact Only.refl _ s
  · exact Only.ite (only_withdrawFocus s _ _).up (Only.refl _ s)

/-- The grant of a case stays within the sequencer's blocks. -/
theorem only_grantCase (s : State) (k : Case) : Only sequencerParts s (s.grantCase k) :=
  only_conclude _ s (((only_suspendWork s).trans (only_pushCase _ k).up).trans (only_startContext _ _))

theorem only_interrupt (s : State) (p : Pair) : Only sequencerParts s (s.interrupt p) := by
  unfold State.interrupt
  dsimp only
  exact Only.ite (only_interruptCases s p).up
    ((only_interruptCases s p).up.trans (only_conclude _ _ (only_resume _)))

/-! ### The Alarm Watch -/

theorem only_dropLatch (s : State) (n : Nat) : Only [.table] s (s.dropLatch n) :=
  Only.ite (Only.refl _ s) (only_updateStation s n _)

/-- A judgement changes the table, the Case List and the attention set. -/
theorem only_judgeWord (s : State) (n : Nat) (w : AlarmWord) :
    Only [.arbiter, .table, .port] s (s.judgeWord n w) := by
  unfold State.judgeWord
  split
  · exact Only.refl _ s
  · dsimp only
    split
    · exact (only_updateStation s n _).up
    · refine Only.trans ?_ (only_dropLatch _ n).up
      exact (only_updateStation s n _).up.trans (Only.foldl (fun s p => only_findCase s n p _ _) _ _)

/-! ### Results -/

theorem only_judgeEntry (s : State) (p : Pair) (n round : Nat) (q : PairPart) :
    Only [.arbiter, .table, .port] s (s.judgeEntry p n round q) := by
  unfold State.judgeEntry
  dsimp only
  have h := ((only_updatePart s n p fun r =>
    { r with confirm := (q.roundIs (s.settings.get p).stepThreshold).confirm (s.settings.get p).confirmRounds q.confirm }).trans
      (only_refreshHealth _ n p)).up (m := [.arbiter, .table, .port])
  split
  · exact h
  · exact Only.ite (h.trans (only_findCase _ n p _ round)) h

theorem only_workEntry (p : Pair) (round : Nat) (w : State × Option Int) (e : EchoEntry) :
    Only [.arbiter, .table, .port] w.1 (State.workEntry p round w e).1 := by
  unfold State.workEntry
  split
  · exact Only.refl _ _
  · dsimp only
    exact Only.ite ((only_updatePart _ _ p _).up.trans (only_judgeEntry _ p _ round _))
      ((only_updatePart _ _ p _).up.trans (only_refreshHealth _ _ p).up)

theorem only_workEntries (s : State) (p : Pair) (round : Nat) (l : List EchoEntry) :
    Only [.arbiter, .table, .port] s (s.workEntries p round l) := by
  have h : ∀ (l : List EchoEntry) (w : State × Option Int),
      Only [.arbiter, .table, .port] w.1 (l.foldl (State.workEntry p round) w).1 := by
    intro l
    induction l with
    | nil => exact fun w => Only.refl _ _
    | cons e l ih => exact fun w => (only_workEntry p round w e).trans (ih _)
  exact h l (s, none)

theorem only_captureStray (s : State) (r : RoundResult) (round d : Nat) (m : Int) :
    Only [.arbiter, .table, .port, .strays] s (s.captureStray r round d m) := by
  unfold State.captureStray
  dsimp only
  refine Only.trans ?_ (only_raise _ _).up
  split
  · exact (only_setStrays s _).up.trans (only_findCase _ _ _ _ _).up
  · exact (only_setStrays s _).up

theorem only_workStray (s : State) (r : RoundResult) (round : Nat) :
    Only [.arbiter, .table, .port, .strays] s (s.workStray r round) := by
  unfold State.workStray
  split
  · exact Only.refl _ s
  · split
    · exact only_captureStray s r round _ _
    · exact (only_setStrays s _).up

theorem only_countResult (s : State) (r : RoundResult) : Only [.survey] s (s.countResult r) := only_setSc s _ _

/-- The blocks that the taking of a result can reach. -/
abbrev resultParts : List Part :=
  [.port, .survey, .pool, .telegrams, .arbiter, .claims, .contexts, .table, .strays, .sweeper]

theorem only_handOver (s : State) (r : RoundResult) (round : Nat) : Only sequencerParts s (s.handOver r round) := by
  unfold State.handOver
  split
  · exact Only.refl _ s
  · exact only_tell s _ _

theorem only_assess (s : State) (r : RoundResult) : Only resultParts s (s.assess r) :=
  (((only_countResult s r).up.trans (only_workEntries _ _ _ _).up).trans (only_workStray _ r _).up).trans
    (only_handOver _ r _).up

theorem only_voidResult (s : State) (r : RoundResult) : Only [.survey, .contexts] s (s.voidResult r) := by
  unfold State.voidResult
  split
  · exact Only.refl _ s
  · dsimp only
    exact Only.ite ((only_updateContext s _ _).up.trans (only_setSc _ _ _).up) (only_updateContext s _ _).up

theorem only_releaseResult (s : State) (r : RoundResult) : Only [.pool] s (s.releaseResult r) :=
  (only_setCorrelator s _ _).trans (only_setPool _ _)

theorem only_endResult (s : State) (r : RoundResult) : Only resultParts s (s.endResult r) := by
  unfold State.endResult
  dsimp only
  refine Only.trans ?_ (only_settle _).up
  refine Only.trans ?_ (only_tellRefused _).up
  refine Only.trans ?_ (only_grantAll _).up
  exact ((only_releaseResult s r).up.trans (only_plan _ _).up)

/-- The taking of a result. -/
theorem only_takeResult (s : State) : Only resultParts s s.takeResult := by
  unfold State.takeResult
  split
  · exact Only.refl _ s
  · exact Only.trans (Only.ite (only_assess s _) (only_voidResult s _).up) (only_endResult _ _)

theorem only_completeRound (s : State) (k : CorrelatorNo) (r : RoundInCorrelator) :
    Only [.pool, .survey] s (s.completeRound k r) :=
  ((only_setCorrelator s _ _).up.trans (only_setPool _ _).up).trans (only_setSc _ _ _).up

theorem only_expireSpan (s : State) (k : CorrelatorNo) (train : EchoTrain) :
    Only [.pool, .survey] s (s.expireSpan k train) := by
  unfold State.expireSpan
  split
  · dsimp only
    exact Only.ite (only_setCorrelator s _ _).up (only_completeRound s k _)
  · exact Only.refl _ s

/-! ### Replies and timers -/

/-- The blocks that a reply or a timer can reach. -/
abbrev replyParts : List Part :=
  [.port, .survey, .pool, .telegrams, .arbiter, .claims, .contexts, .table, .sweeper]

theorem only_endExchange (s : State) (p : Pair) : Only [.telegrams] s (s.endExchange p) := only_setTc s p _

theorem only_setSilent (s : State) (n v : Nat) : Only [.table] s (s.setSilent n v) := only_updateStation s n _

theorem only_reportSide (s : State) (p : Pair) (n : Nat) (st : StateInForce) :
    Only [.survey] s (s.reportSide p n st) := by
  unfold State.reportSide
  split
  · exact Only.refl _ s
  · exact only_setSc s p _

theorem only_replanIfChanged (s before : State) (p : Pair) (n : Nat) :
    Only sequencerParts s (s.replanIfChanged before p n) := Only.ite (Only.refl _ s) (only_replanned s p)

theorem only_writeReply (s : State) (p : Pair) (n : Nat) (st : StateInForce) :
    Only replyParts s (s.writeReply p n st) :=
  (((only_setSilent s n 0).up.trans (only_writeInForce _ n p st).up).trans (only_reportSide _ p n st).up).trans
    (only_replanIfChanged _ s p n).up

theorem only_handWord (s : State) (n : Nat) (c : ReplyContent) :
    Only [.arbiter, .table, .port] s (s.handWord n c) := by
  unfold State.handWord
  split
  · exact only_judgeWord s n _
  · exact Only.refl _ s

theorem only_handReply (s : State) (p : Pair) (t : Telegram) (c : ReplyContent) :
    Only replyParts s (s.handReply p t c) := by
  unfold State.handReply
  split
  · exact (only_operatorDone s p t _).up
  · exact (only_steerEnded s p).up.trans (only_tellRefused _).up
  · exact (only_tell s _ _).up
  · exact Only.refl _ s

theorem only_matchedReply (s : State) (p : Pair) (t : Telegram) (c : ReplyContent) :
    Only replyParts s (s.matchedReply p t c) :=
  ((((only_endExchange s p).up.trans (only_writeReply _ p _ _)).trans (only_handWord _ _ _).up).trans
    (only_handReply _ p t c)).trans (only_settle _).up

theorem only_replyDriving (s : State) (p : Pair) (r : Reply) : Only replyParts s (s.replyDriving p r) := by
  unfold State.replyDriving
  split
  · exact Only.refl _ s
  · exact Only.ite (only_matchedReply s p _ _) (Only.refl _ s)

theorem only_dropAbandoned (s : State) (p : Pair) : Only [.telegrams] s (s.dropAbandoned p) := only_setTc s p _

theorem only_replyAbandoned (s : State) (p : Pair) (r : Reply) :
    Only [.table, .telegrams] s (s.replyAbandoned p r) := by
  unfold State.replyAbandoned
  split
  · exact Only.refl _ s
  · split
    · split
      · exact (only_writeInForce s _ p _).up.trans (only_dropAbandoned _ p).up
      · exact (only_dropAbandoned s p).up
    · exact Only.refl _ s

theorem only_releaseFarOf (s : State) (n : Nat) (p : Pair) : Only sequencerParts s (s.releaseFarOf n p) := by
  unfold State.releaseFarOf
  exact Only.ite ((only_keepClaims s _).up.trans (only_announce _)) (Only.refl _ s)

theorem only_useOverheard (s : State) (p : Pair) (n : Nat) (k : TelegramKind) (c : ReplyContent) :
    Only replyParts s (s.useOverheard p n k c) := by
  unfold State.useOverheard
  dsimp only
  have h := (only_writeInForce s n p c.state).up (m := replyParts)
  have a : Only replyParts s (if isolates k c then (s.writeInForce n p c.state).makeFar n p
      else s.writeInForce n p c.state) := Only.ite (h.trans (only_makeFar _ n p).up) h
  exact Only.ite ((a.trans (only_releaseFarOf _ n p).up).trans (only_settle _).up) a

theorem only_replyOverheard (s : State) (p : Pair) (r : Reply) : Only replyParts s (s.replyOverheard p r) := by
  unfold State.replyOverheard
  split
  · exact Only.refl _ s
  · split
    · exact (only_judgeWord s _ _).up
    · split
      · exact only_useOverheard s p _ _ _
      · exact Only.refl _ s

/-- A reply. -/
theorem only_hearReply (s : State) (p : Pair) (r : Reply) : Only replyParts s (s.hearReply p r) := by
  unfold State.hearReply
  split
  · split
    · exact Only.refl _ s
    · exact only_replyDriving s p r
    · exact Only.ite (only_replyAbandoned s p r).up (only_replyOverheard s p r)
  · exact Only.refl _ s

theorem only_retry (s : State) (p : Pair) (t : Telegram) : Only [.telegrams] s (s.retry p t) := by
  unfold State.retry
  split
  · exact only_launch s p t _ 2
  · exact Only.refl _ s

theorem only_silentCase (s : State) (n : Nat) (p : Pair) (k : TelegramKind) :
    Only [.arbiter, .table, .port] s (s.silentCase n p k) :=
  Only.ite (only_findCase s n p _ _) (Only.refl _ s)

theorem only_handFailure (s : State) (p : Pair) (t : Telegram) : Only sequencerParts s (s.handFailure p t) := by
  unfold State.handFailure
  split
  · exact ((only_setSc s p _).up.trans (only_steerEnded _ p).up).trans (only_tellRefused _)
  · exact only_tell s _ _
  · exact Only.refl _ s

theorem only_failExchange (s : State) (p : Pair) (t : Telegram) : Only replyParts s (s.failExchange p t) := by
  unfold State.failExchange
  dsimp only
  refine Only.trans ?_ (only_settle _).up
  refine Only.trans ?_ (only_handFailure _ p t).up
  refine Only.trans ?_ (only_silentCase _ _ p _).up
  refine Only.trans ?_ (only_operatorDone _ p t _).up
  exact ((only_endExchange s p).up.trans (only_markUncertain _ _ p _).up).trans (only_replanIfChanged _ _ p _).up

theorem only_failPoll (s : State) (p : Pair) (t : Telegram) :
    Only [.port, .table, .telegrams, .sweeper, .arbiter] s (s.failPoll p t) := by
  unfold State.failPoll
  dsimp only
  refine (only_endExchange s p).up.trans ?_
  split
  · exact (only_settle _).up
  · refine Only.trans ?_ (only_settle _).up
    exact Only.ite ((only_setSilent _ _ _).up.trans (only_silentCase _ _ p _).up) (only_setSilent _ _ _).up

/-- The reply timer. -/
theorem only_expireReply (s : State) (p : Pair) : Only replyParts s (s.expireReply p) := by
  unfold State.expireReply
  split
  · exact Only.refl _ s
  · split
    · exact (only_failPoll s p _).up
    · exact Only.ite (only_retry s p _).up (only_failExchange s p _)

/-- The poll timer. -/
theorem only_expirePoll (s : State) : Only [.telegrams, .sweeper] s s.expirePoll := by
  unfold State.expirePoll
  dsimp only
  exact Only.ite ((only_setSweeper s _).up.trans (only_setSweeper _ _).up)
    (((only_setSweeper s _).up.trans (only_startSweep _).up).trans (only_settle _))

/-- The claim wait timer. -/
theorem only_expireClaimWait (s : State) (l : Level) : Only replyParts s (s.expireClaimWait l) := by
  unfold State.expireClaimWait
  split
  · exact Only.refl _ s
  · exact Only.ite (((only_updateContext s l _).up.trans (only_tell _ l _).up).trans (only_settle _).up)
      (Only.refl _ s)

/-! ### Roles -/

theorem only_leaveDriving (s : State) (p : Pair) (keep : Bool) : Only replyParts s (s.leaveDriving p keep) :=
  (((only_haltSurvey s p).up.trans (only_abortRounds _ p).up).trans (only_abandonTelegrams _ p keep).up).trans
    (only_interrupt _ p).up

theorem only_releaseFar (s : State) (p : Pair) : Only sequencerParts s (s.releaseFar p) := by
  unfold State.releaseFar
  exact Only.ite ((only_keepClaims s _).up.trans (only_announce _)) (Only.refl _ s)

theorem only_leaveListening (s : State) (p : Pair) : Only sequencerParts s (s.leaveListening p) :=
  (only_endListening s p).up.trans (only_releaseFar _ p)

theorem only_changeRole (s : State) (p : Pair) (r : Role) : Only replyParts s (s.changeRole p r) := by
  unfold State.changeRole
  dsimp only
  have a : ∀ old : Role, Only replyParts s
      (match old with
        | .driving => (s.setRole p r).leaveDriving p (r == .listening)
        | .listening => (s.setRole p r).leaveListening p
        | .off => s.setRole p r) := by
    intro old
    have h := (only_setRole s p r).up (m := replyParts)
    cases old with
    | off => exact h
    | driving => exact h.trans (only_leaveDriving _ p _)
    | listening => exact h.trans (only_leaveListening _ p).up
  split
  · exact (a _).trans (only_startSurvey _ p).up
  · exact a _

/-- An accepted ROLE. -/
theorem only_role (s : State) (p : Pair) (r : Role) : Only replyParts s (s.role p r) :=
  Only.ite (Only.refl _ s) ((only_changeRole s p r).trans (only_settle _).up)

theorem only_decode (s : State) (p : Pair) (sig : FarSignal) : Only [.telegrams] s (s.decode p sig) := by
  unfold State.decode
  split
  · exact Only.refl _ s
  · exact only_overhear s p _ _ _

theorem only_contend (s : State) (p : Pair) : Only replyParts s (s.contend p) :=
  (((only_setRole s p _).up.trans (only_setSc _ p _).up).trans (only_raise _ _).up).trans (only_leaveDriving _ p true)

/-- Far-end drive. -/
theorem only_farEndDrive (s : State) (p : Pair) (sig : FarSignal) : Only replyParts s (s.farEndDrive p sig) := by
  unfold State.farEndDrive
  split
  · split
    · exact ((only_contend s p).trans (only_decode _ p sig).up).trans (only_settle _).up
    · exact (only_decode s p sig).up
    · exact Only.refl _ s
  · exact Only.refl _ s

/-- The grant of a case, as an event. -/
theorem only_caseGrant (s : State) : Only replyParts s s.caseGrant := by
  unfold State.caseGrant
  split
  · exact Only.refl _ s
  · exact (only_grantCase s _).up.trans (only_settle _).up

/-! ### Requests -/

theorem only_placeStation (s : State) (r : Station) : Only [.table] s (s.placeStation r) :=
  ((only_setTable s _).trans (only_setIndex _ _ _)).trans (only_bumpGeneration _ _)

theorem only_gainSteering (s : State) (n : Nat) (k : StationKind) : Only [.survey] s (s.gainSteering n k) := by
  unfold State.gainSteering
  split
  · exact Only.refl _ s
  · exact only_setSurvey s _

theorem only_presentHeldBack (s : State) (p : Pair) : Only [.pool, .survey, .contexts] s (s.presentHeldBack p) :=
  Only.ite (only_present s p _) (Only.refl _ s)

theorem only_enlistOnPair (k : StationKind) (s : State) (p : Pair) :
    Only sequencerParts s (State.enlistOnPair k s p) := by
  unfold State.enlistOnPair
  split
  · exact (only_presentHeldBack s p).up
  · exact Only.ite (only_replanned s p) (only_presentHeldBack s p).up

/-- An accepted ENLIST. -/
theorem only_enlist (s : State) (a : EnlistArgs) (k : StationKind) (g : Segment) :
    Only replyParts s (s.enlist a k g) := by
  unfold State.enlist
  dsimp only
  refine Only.trans ?_ (only_settle _).up
  refine Only.trans ?_ (Only.foldl (fun u p => (only_enlistOnPair k u p).up) _ _)
  exact (only_placeStation s _).up.trans (only_gainSteering _ _ k).up

theorem only_setBaseline (n : Nat) (s : State) (e : Nat × Int) : Only [.table] s (State.setBaseline n s e) := by
  unfold State.setBaseline
  split
  · exact Only.refl _ s
  · exact (only_updatePart s n _ _).trans (only_refreshHealth _ n _)

/-- An accepted AMEND. -/
theorem only_amend (s : State) (r : Station) (a : AmendArgs) : Only [.table] s (s.amend r a) := by
  unfold State.amend
  dsimp only
  refine Only.trans ?_ (Only.foldl (only_setBaseline r.number) _ _)
  refine (only_updateStation s _ _).trans (Only.ite ?_ (Only.refl _ _))
  exact (only_setIndex _ _ _).trans (only_bumpGeneration _ _)

/-- An accepted RETIRE. -/
theorem only_retire (s : State) (r : Station) : Only replyParts s (s.retire r) := by
  unfold State.retire
  dsimp only
  refine Only.trans ?_ (only_settle _).up
  refine Only.trans ?_ (Only.foldl (fun u p => ?_) _ _)
  · refine Only.trans ?_ (only_setSurvey _ _).up
    refine Only.trans ?_ (((only_setTable _ _).trans (only_setIndex _ _ _)).trans (only_bumpGeneration _ _)).up
    exact (only_setArbiter s _).up.trans (only_setTelegrams _ _).up
  · exact Only.ite (only_replanned u p).up (Only.refl _ u)

/-- An accepted SHIFT that moves stations. -/
theorem only_shift (s : State) (g : Segment) (d : Nat) (x : Int) : Only [.table] s (s.shift g d x) :=
  (only_setTable s _).trans (Only.foldl only_bumpGeneration _ _)

/-- An accepted SETPAIR. -/
theorem only_setpair (s : State) (p : Pair) (a : SetpairArgs) : Only [.settings, .table] s (s.setpair p a) :=
  (only_setSettings s _).up.trans (only_setTable _ _).up

theorem only_releaseAuto (s : State) (n : Nat) : Only sequencerParts s (s.releaseAuto n) := by
  unfold State.releaseAuto
  exact Only.ite ((only_keepClaims s _).up.trans (only_announce _)) (Only.refl _ s)

/-- An accepted CLOSE. -/
theorem only_closeCase (s : State) (c : Case) : Only replyParts s (s.closeCase c) := by
  unfold State.closeCase
  dsimp only
  refine Only.trans ?_ (only_settle _).up
  refine Only.trans ?_ (only_releaseAuto _ _).up
  have h := ((only_setArbiter s { s.arbiter with cases := s.arbiter.cases.filter fun d => d.number != c.number }).up.trans
    ((only_updatePart _ c.station c.pair fun q => { q with confirm := 0 }).trans
      (only_refreshHealth _ c.station c.pair)).up : Only replyParts s _)
  exact Only.ite (h.trans (only_dropLatch _ _).up) h

/-- An accepted DROP. -/
theorem only_dropClaim (s : State) (n : Nat) : Only replyParts s (s.dropClaim n) :=
  ((only_keepClaims s _).up.trans (only_announce _).up).trans (only_settle _).up

theorem only_operateOn (n : Nat) (k : TelegramKind) (s : State) (p : Pair) :
    Only [.table, .telegrams] s (State.operateOn n k s p) := by
  unfold State.operateOn
  dsimp only
  split
  · exact (only_updatePart s n p _).up.trans (only_submit _ p _).up
  · exact (only_updatePart s n p _).up

/-- An accepted operator action. -/
theorem only_operate (s : State) (r : Station) (scope : ClaimPair) (k : TelegramKind) :
    Only [.table, .telegrams, .sweeper] s (s.operate r scope k) :=
  (Only.foldl (fun s p => (only_operateOn r.number k s p).up) _ s).trans (only_settle _).up

end Sys2Proof.Machine
end

