-- ==== Sys2Proof/Laws/Requests.lean ====
section
/-! SUPPORT. How a request reaches its block and comes back: what `exec` is on every request, taken or out of
turn, and what performing can change. -/

namespace Sys2Proof.Machine

/-- A request frame in IDLE is performed. -/
theorem State.request_idle {s : State} (h : s.port.state = .idle) (k : Byte) (f : State → Answer) :
    s.request k f = (f s).1.respond { kind := k, status := (f s).2.1, body := (f s).2.2 } := by
  unfold State.request; rw [h]

/-- A request frame out of turn sets the collision flag. -/
theorem State.request_busy {s : State} (h : s.port.state ≠ .idle) (k : Byte) (f : State → Answer) :
    s.request k f = s.setCollision := by
  unfold State.request
  split
  · contradiction
  · rfl

/-- A command is a request exactly when something performs it. -/
theorem performer_isSome (i : Instr) : (performer i).isSome = (requestKind i).isSome := by cases i <;> rfl

/-- `exec` of a request hands its performer to the port under its kind. -/
theorem exec_request {i : Instr} {k : Nat} {f : State → Answer} (hk : requestKind i = some k)
    (hf : performer i = some f) (s : State) : exec i s = .next (s.request (BitVec.ofNat 8 k) f) := by
  cases i <;> simp only [requestKind, performer, Option.some.injEq, reduceCtorEq] at hk hf <;> subst hk <;>
    subst hf <;> rfl

/-- A request out of turn. -/
theorem exec_request_busy {i : Instr} (hi : (requestKind i).isSome = true) {s : State}
    (h : s.port.state ≠ .idle) : exec i s = .next s.setCollision := by
  obtain ⟨k, hk⟩ := Option.isSome_iff_exists.mp hi
  rw [← performer_isSome] at hi
  obtain ⟨f, hf⟩ := Option.isSome_iff_exists.mp hi
  rw [exec_request hk hf, State.request_busy h]

/-- A request taken in IDLE answers what its performer answers. -/
theorem answers_of_performer {i : Instr} {f : State → Answer} (hf : performer i = some f) {s : State}
    (h : s.port.state = .idle) : Answers i s (f s).1 (f s).2.1 (f s).2.2 := by
  have hi : (requestKind i).isSome = true := by rw [← performer_isSome, hf]; rfl
  obtain ⟨k, hk⟩ := Option.isSome_iff_exists.mp hi
  exact ⟨k, hk, by rw [exec_request hk hf, State.request_idle h]; rfl⟩

/-- The answer of a request, given what its performer comes to. -/
theorem answers_of_eq {i : Instr} {f : State → Answer} (hf : performer i = some f) {s t : State} {st : Status}
    {b : Body} (h : s.port.state = .idle) (e : f s = (t, st, b)) : Answers i s t st b := by
  have := answers_of_performer hf h
  rwa [e] at this

/-- The refusal of a request, given what its performer comes to. -/
theorem refuses_of_eq {i : Instr} {f : State → Answer} (hf : performer i = some f) {s : State} {st : Status}
    (h : s.port.state = .idle) (e : f s = (s, st, .empty)) : Refuses i s st := answers_of_eq hf h e

/-! ### What performing can change -/

/-- The blocks that performing a request can reach: all but the model's own two. -/
abbrev requestParts : List Part :=
  [.port, .survey, .pool, .telegrams, .arbiter, .claims, .contexts, .table, .sweeper, .strays, .line, .settings]

theorem only_restart (s : State) : Only requestParts s s.restart := by
  intro f hf
  cases f <;> first | rfl | simp at hf

@[simp] theorem State.ok_fst (s : State) (b : Body) : (s.ok b).1 = s := rfl

theorem only_performOperator (n p : Nat) (k : Option TelegramKind) (s : State) :
    Only requestParts s (performOperator n p k s).1 := by
  unfold performOperator
  split
  · split
    · split
      · exact Only.refl _ s
      · split
        · exact Only.refl _ s
        · dsimp only; exact (only_operate s _ _ _).up
    · exact Only.refl _ s
  · exact Only.refl _ s

/-- What performing a request can change: not the free values drawn and not the queue. -/
theorem only_perform {i : Instr} {f : State → Answer} (hf : performer i = some f) (s : State) :
    Only requestParts s (f s).1 := by
  have r := Only.refl requestParts s
  cases i <;> simp only [performer, Option.some.injEq, reduceCtorEq] at hf <;> subst hf
  case findByNumber => unfold performFindByNumber; split <;> exact r
  case findByAddress => unfold performFindByAddress; split <;> (try split) <;> exact r
  case findByDelay =>
    unfold performFindByDelay State.findDelay
    split
    · split
      · dsimp only
        split
        · exact r
        · split <;> exact r
      · exact r
    · exact r
  case findNext =>
    unfold performFindNext State.findNextNumber State.findNextDelay
    split
    · split
      · exact r
      · split <;> exact r
    · split
      · split <;> exact r
      · exact r
    · exact r
  case enlist =>
    unfold performEnlist
    split
    · exact r
    · split
      · exact r
      · rw [State.ok_fst]; exact (only_enlist s _ _ _).up
  case amend =>
    unfold performAmend
    split
    · exact r
    · split
      · exact r
      · rw [State.ok_fst]; exact (only_amend s _ _).up
  case retire =>
    unfold performRetire
    split
    · exact r
    · split
      · exact r
      · split
        · exact r
        · rw [State.ok_fst]; exact (only_retire s _).up
  case rebase =>
    unfold performRebase
    split
    · exact r
    · split
      · exact r
      · split
        · exact r
        · split
          · exact (only_setTable s _).up
          · exact r
  case shift =>
    unfold performShift
    split
    · exact r
    · split
      · split
        · exact r
        · unfold State.acceptShift
          split
          · exact r
          · rw [State.ok_fst]; exact (only_shift s _ _ _).up
      · exact r
  case setline =>
    unfold performSetline
    split
    · split
      · exact r
      · exact (only_setLine s _).up.trans (only_setSweeper _ _).up
    · exact r
  case setpair =>
    unfold performSetpair
    split
    · exact r
    · split
      · rw [State.ok_fst]; exact (only_setpair s _ _).up
      · exact r
  case policy =>
    unfold performPolicy
    split
    · exact r
    · exact (only_setArbiter s _).up
  case role =>
    unfold performRole
    split
    · split
      · exact r
      · split
        · exact r
        · rw [State.ok_fst]; exact (only_role s _ _).up
    · exact r
  case pairStatus =>
    unfold performPairStatus
    split
    · exact r
    · exact Only.ite (only_setSc s _ _).up r
  case clearContention =>
    unfold performClear
    split
    · exact r
    · split
      · exact (only_setSc s _ _).up
      · exact r
  case listCases => exact r
  case readCase => unfold performReadCase; split <;> (try split) <;> exact r
  case close =>
    unfold performClose
    split
    · split
      · exact r
      · split
        · exact r
        · rw [State.ok_fst]; exact (only_closeCase s _).up
    · exact r
  case take =>
    unfold performTake
    split
    · exact r
    · split
      · split
        · exact r
        · unfold State.takeScope
          split
          · split
            · exact r
            · exact r
            · exact (only_addClaim s _).up
          · exact r
      · exact r
  case drop =>
    unfold performDrop
    split
    · split
      · exact r
      · split
        · rw [State.ok_fst]; exact (only_dropClaim s _).up
        · exact r
    · exact r
  case listClaims => exact r
  case strayRead =>
    unfold performStrayRead
    split
    · exact r
    · exact (only_setStrays s _).up
  case attend => exact (only_setPort s _).up
  case attentionEnable =>
    unfold performAttentionEnable
    split
    · exact (only_setPort s _).up
    · exact r
  case restart => exact only_restart s
  all_goals exact only_performOperator _ _ _ s

end Sys2Proof.Machine
end

