-- ==== Sys2Proof/Laws/Tables.lean ====
section
/-! SUPPORT. What the laws of the tables give a look-up: under them a key finds exactly the record that carries
it. -/

namespace Sys2Proof.Machine

/-! ### Order and distinctness -/

theorem rising_iff : ∀ l : List Nat, rising l = true ↔ l.Pairwise (· < ·)
  | [] => by simp [rising]
  | [_] => by simp [rising]
  | a :: b :: rest => by
    have ih := rising_iff (b :: rest)
    simp only [rising, Bool.and_eq_true, decide_eq_true_eq, ih]
    constructor
    · rintro ⟨hab, h⟩
      refine List.pairwise_cons.mpr ⟨fun x hx => ?_, h⟩
      rcases List.mem_cons.mp hx with rfl | hx
      · exact hab
      · exact Nat.lt_trans hab ((List.pairwise_cons.mp h).1 x hx)
    · intro h
      exact ⟨(List.pairwise_cons.mp h).1 b List.mem_cons_self, (List.pairwise_cons.mp h).2⟩

theorem noTwo_iff {α : Type} (f : α → α → Bool) : ∀ l : List α,
    noTwo f l = true ↔ l.Pairwise fun a b => f a b = false
  | [] => by simp [noTwo]
  | a :: rest => by simp [noTwo, noTwo_iff f rest, List.pairwise_cons]

/-- In a list without two of one key, the key finds the member that carries it. -/
theorem find_of_mem {α β : Type} [DecidableEq β] (key : α → β) {l : List α}
    (h : l.Pairwise fun a b => key a ≠ key b) {a : α} (ha : a ∈ l) : l.find? (fun b => key b == key a) = some a := by
  induction l with
  | nil => simp at ha
  | cons b rest ih =>
    rw [List.pairwise_cons] at h
    rcases List.mem_cons.mp ha with rfl | hr
    · simp
    · have : key b ≠ key a := h.1 a hr
      simp [this, ih h.2 hr]

/-- Two members of a list without two that meet a relation stand in it one way or the other. -/
theorem pairwise_either {α : Type} {R : α → α → Prop} : ∀ {l : List α}, l.Pairwise R → ∀ {a b : α}, a ∈ l → b ∈ l →
    a ≠ b → R a b ∨ R b a
  | [], _, _, _, ha, _, _ => by simp at ha
  | c :: rest, h, a, b, ha, hb, hne => by
    rw [List.pairwise_cons] at h
    rcases List.mem_cons.mp ha with ea | ha' <;> rcases List.mem_cons.mp hb with eb | hb'
    · exact absurd (ea.trans eb.symm) hne
    · exact .inl (ea ▸ h.1 b hb')
    · exact .inr (eb ▸ h.1 a ha')
    · exact pairwise_either h.2 ha' hb' hne

theorem pairwise_ne_of_rising {α : Type} (key : α → Nat) {l : List α} (h : rising (l.map key) = true) :
    l.Pairwise fun a b => key a ≠ key b := by
  rw [rising_iff, List.pairwise_map] at h
  exact h.imp fun hab => Nat.ne_of_lt hab

/-! ### Station records -/

theorem keyLaw_rising {s : State} (h : s.keyLaw = true) : rising (s.table.stations.map (·.number)) = true := by
  simp only [State.keyLaw, Bool.and_eq_true] at h
  exact h.1.1.2

theorem keyLaw_addresses {s : State} (h : s.keyLaw = true) :
    s.table.stations.Pairwise fun r q => r.address ≠ q.address := by
  simp only [State.keyLaw, Bool.and_eq_true] at h
  exact ((noTwo_iff _ _).mp h.2).imp fun hab => by simpa using hab

/-- Under the keys' law a station number finds its record. -/
theorem station?_of_mem {s : State} (h : s.keyLaw = true) {r : Station} (hr : r ∈ s.table.stations) :
    s.station? r.number = some r := find_of_mem Station.number (pairwise_ne_of_rising _ (keyLaw_rising h)) hr

/-- Under the keys' law an address finds its record. -/
theorem byAddress?_of_mem {s : State} (h : s.keyLaw = true) {r : Station} (hr : r ∈ s.table.stations) :
    s.byAddress? r.address = some r := find_of_mem Station.address (keyLaw_addresses h) hr

theorem station?_none {s : State} {n : Nat} : s.station? n = none ↔ ∀ r ∈ s.table.stations, r.number ≠ n := by
  simp [State.station?]

theorem byAddress?_none {s : State} {a : Nat} :
    s.byAddress? a = none ↔ ∀ r ∈ s.table.stations, r.address ≠ a := by
  simp [State.byAddress?]

theorem station?_some {s : State} {n : Nat} {r : Station} (h : s.station? n = some r) :
    r ∈ s.table.stations ∧ r.number = n :=
  ⟨List.mem_of_find?_eq_some h, by simpa using List.find?_some h⟩

theorem byAddress?_some {s : State} {a : Nat} {r : Station} (h : s.byAddress? a = some r) :
    r ∈ s.table.stations ∧ r.address = a :=
  ⟨List.mem_of_find?_eq_some h, by simpa using List.find?_some h⟩

theorem unit?_some {s : State} {b : Branch} {u : Station} (h : s.unit? b = some u) :
    u ∈ s.table.stations ∧ u.kind = .branching b :=
  ⟨List.mem_of_find?_eq_some h, by simpa using List.find?_some h⟩

theorem unit?_none {s : State} {b : Branch} :
    s.unit? b = none ↔ ∀ u ∈ s.table.stations, u.kind ≠ .branching b := by
  simp [State.unit?]

theorem geometry_parts {s : State} (h : s.geometryLaw = true) :
    s.keyLaw = true ∧ (∀ g, s.indexLaw g = true) ∧ s.overlapLaw = true := by
  simp only [State.geometryLaw, Bool.and_eq_true] at h
  exact ⟨h.1.1, fun g => List.all_eq_true.mp h.1.2 g (mem_allSegments g), h.2⟩

/-- Under the overlap law a branch has one unit. -/
theorem unit?_of_mem {s : State} (h : s.geometryLaw = true) {u : Station} {b : Branch}
    (hu : u ∈ s.table.stations) (hb : u.kind = .branching b) : s.unit? b = some u := by
  have o := (geometry_parts h).2.2
  simp only [State.overlapLaw, Bool.and_eq_true] at o
  have p := (noTwo_iff _ _).mp o.1.1.2
  cases e : s.unit? b with
  | none => exact absurd hb (unit?_none.mp e u hu)
  | some w =>
    obtain ⟨hw, hwb⟩ := unit?_some e
    by_contra hne
    have hwu : w ≠ u := fun hh => hne (by rw [hh])
    rcases pairwise_either p hw hu hwu with q | q <;> simp [Station.isUnit, hwb, hb] at q

/-- Under the geometry laws a segment's Delay Index holds the records of the segment, and no other. -/
theorem mem_segmentStations {s : State} (h : s.geometryLaw = true) {g : Segment} {r : Station} :
    r ∈ s.segmentStations g ↔ r ∈ s.table.stations ∧ r.segment = g := by
  obtain ⟨k, i, _⟩ := geometry_parts h
  have i := i g
  simp only [State.indexLaw, Bool.and_eq_true] at i
  obtain ⟨⟨⟨i1, _⟩, i3⟩, i4⟩ := i
  constructor
  · intro hr
    refine ⟨?_, by simpa using List.all_eq_true.mp i3 r hr⟩
    simp only [State.segmentStations, State.records, List.mem_filterMap] at hr
    obtain ⟨n, _, hn⟩ := hr
    exact (station?_some hn).1
  · rintro ⟨hr, hg⟩
    have := List.all_eq_true.mp i4 r hr
    simp only [hg, bne_self_eq_false, Bool.false_or, List.contains_iff_mem] at this
    simp only [State.segmentStations, State.records, List.mem_filterMap]
    exact ⟨r.number, this, station?_of_mem k hr⟩

/-- Under the geometry laws a Delay Index is in strictly increasing expected delay. -/
theorem segmentStations_sorted {s : State} (h : s.geometryLaw = true) (g : Segment) :
    (s.segmentStations g).Pairwise fun r q => r.delay < q.delay := by
  have i := (geometry_parts h).2.1 g
  simp only [State.indexLaw, Bool.and_eq_true] at i
  have := (rising_iff _).mp i.1.1.2
  rwa [List.pairwise_map] at this

theorem index_isEmpty {s : State} (h : s.geometryLaw = true) (g : Segment) :
    (s.index g).isEmpty = true ↔ ∀ r ∈ s.table.stations, r.segment ≠ g := by
  have i := (geometry_parts h).2.1 g
  simp only [State.indexLaw, Bool.and_eq_true, beq_iff_eq] at i
  rw [← i.1.1.1, List.isEmpty_iff, List.map_eq_nil_iff, List.eq_nil_iff_forall_not_mem]
  constructor
  · intro e r hr hg
    exact e r ((mem_segmentStations h).mpr ⟨hr, hg⟩)
  · intro e r hr
    exact e r ((mem_segmentStations h).mp hr).1 ((mem_segmentStations h).mp hr).2

/-! ### Cases and claims -/

theorem caseLaw_rising {s : State} (h : s.caseLaw = true) : rising (s.arbiter.cases.map (·.number)) = true := by
  simp only [State.caseLaw, Bool.and_eq_true] at h
  exact h.1.1.1.2

theorem caseLaw_places {s : State} (h : s.caseLaw = true) :
    s.arbiter.cases.Pairwise fun c d => (c.station == d.station && c.pair == d.pair) = false := by
  simp only [State.caseLaw, Bool.and_eq_true] at h
  exact (noTwo_iff _ _).mp h.1.2

/-- Under the law of the Case List a case number finds its case. -/
theorem case?_of_mem {s : State} (h : s.caseLaw = true) {c : Case} (hc : c ∈ s.arbiter.cases) :
    s.case? c.number = some c := find_of_mem Case.number (pairwise_ne_of_rising _ (caseLaw_rising h)) hc

theorem case?_some {s : State} {k : Nat} {c : Case} (h : s.case? k = some c) :
    c ∈ s.arbiter.cases ∧ c.number = k :=
  ⟨List.mem_of_find?_eq_some h, by simpa using List.find?_some h⟩

theorem case?_none {s : State} {k : Nat} : s.case? k = none ↔ ∀ c ∈ s.arbiter.cases, c.number ≠ k := by
  simp [State.case?]

theorem caseAt?_some {s : State} {n : Nat} {p : Pair} {c : Case} (h : s.caseAt? n p = some c) :
    c ∈ s.arbiter.cases ∧ c.station = n ∧ c.pair = p :=
  ⟨List.mem_of_find?_eq_some h, by simpa using List.find?_some h⟩

theorem caseAt?_none {s : State} {n : Nat} {p : Pair} :
    s.caseAt? n p = none ↔ ∀ c ∈ s.arbiter.cases, ¬(c.station = n ∧ c.pair = p) := by
  simp [State.caseAt?]

/-- Under the law of the Case List a station and pair find their case. -/
theorem caseAt?_of_mem {s : State} (h : s.caseLaw = true) {c : Case} (hc : c ∈ s.arbiter.cases) :
    s.caseAt? c.station c.pair = some c := by
  cases e : s.caseAt? c.station c.pair with
  | none => exact absurd ⟨rfl, rfl⟩ (caseAt?_none.mp e c hc)
  | some d =>
    obtain ⟨hd, hs, hp⟩ := caseAt?_some e
    by_contra hne
    have hdc : d ≠ c := fun hh => hne (by rw [hh])
    rcases pairwise_either (caseLaw_places h) hd hc hdc with q | q <;> simp [hs, hp] at q

theorem claimLaw_rising {s : State} (h : s.claimLaw = true) : rising (s.claims.map (·.number)) = true := by
  simp only [State.claimLaw, Bool.and_eq_true] at h
  exact h.1.1.2

/-- Under the law of the Claim Table a claim number finds its claim. -/
theorem claim?_of_mem {s : State} (h : s.claimLaw = true) {c : Claim} (hc : c ∈ s.claims) :
    s.claim? c.number = some c := find_of_mem Claim.number (pairwise_ne_of_rising _ (claimLaw_rising h)) hc

theorem claim?_none {s : State} {k : Nat} : s.claim? k = none ↔ ∀ c ∈ s.claims, c.number ≠ k := by
  simp [State.claim?]

/-- The number that a new claim takes is free, and every lower one is in use. -/
theorem freeClaimNumber_some {l : List Claim} {k : Nat} (h : freeClaimNumber l = some k) :
    k < 16 ∧ (∀ c ∈ l, c.number ≠ k) ∧ ∀ j, j < k → ∃ c ∈ l, c.number = j := by
  unfold freeClaimNumber at h
  rw [List.find?_range_eq_some] at h
  obtain ⟨h1, h2, h3⟩ := h
  refine ⟨by simpa [Config.maxClaims] using h2, by simpa using h1, fun j hj => by simpa using h3 j hj⟩

end Sys2Proof.Machine
end

