-- ==== Sys2Proof/Laws/Rounds.lean ====
section
/-! SUPPORT. What adding an echo does to an accumulated train: the level at every delay, and the order of the
delays (R53; log 10). -/

namespace Sys2Proof.Machine

theorem levelAt_cons (a : Nat) (v : Int) (t : EchoTrain) (d : Nat) :
    levelAt ((a, v) :: t) d = if a = d then some v else levelAt t d := by
  by_cases h : a = d <;> simp [levelAt, h]

theorem levelAt_eq_none {t : EchoTrain} {d : Nat} : levelAt t d = none ↔ t.any (·.1 == d) = false := by
  simp [levelAt]

/-- A placed level stands at its delay, which the train did not hold; every other delay reads as before. -/
theorem levelAt_placeLevel {t : EchoTrain} {d : Nat} (v : Int) (h : levelAt t d = none) (n : Nat) :
    levelAt (placeLevel d v t) n = if d = n then some v else levelAt t n := by
  induction t with
  | nil => simp [placeLevel, levelAt_cons]
  | cons e t ih =>
    obtain ⟨a, w⟩ := e
    rw [levelAt_cons] at h
    by_cases had : a = d
    · simp [had] at h
    · simp only [had, if_false] at h
      simp only [placeLevel]
      split <;> simp only [levelAt_cons, ih h]
      by_cases hn : d = n
      · simp [hn, show a ≠ n from hn ▸ had]
      · simp [hn]

/-- Every level of one delay replaced by a function of it. -/
theorem levelAt_map (t : EchoTrain) (d : Nat) (f : Int → Int) (n : Nat) :
    levelAt (t.map fun e => if e.1 == d then (d, f e.2) else e) n =
      if d = n then (levelAt t n).map f else levelAt t n := by
  induction t with
  | nil => simp [levelAt]
  | cons e t ih =>
    obtain ⟨a, w⟩ := e
    by_cases had : a = d
    · subst had
      by_cases hn : a = n <;> simp_all [levelAt_cons]
    · by_cases hn : d = n
      · subst hn
        simp_all [levelAt_cons]
      · by_cases han : a = n <;> simp_all [levelAt_cons]

/-- What adding an echo does: at its delay the sum with the level that stands there, or the echo's own level; every
other delay reads as before. -/
theorem levelAt_addLevel (t : EchoTrain) (d : Nat) (v : Int) (n : Nat) :
    levelAt (addLevel d v t) n =
      if d = n then some (match levelAt t d with
        | some a => Config.accumulatedLevel a v
        | none => v)
      else levelAt t n := by
  unfold addLevel
  cases h : levelAt t d with
  | none =>
    rw [if_neg (by simp [levelAt_eq_none.mp h]), levelAt_placeLevel v h]
  | some a =>
    have hany : t.any (·.1 == d) = true := by
      by_contra hc
      rw [levelAt_eq_none.mpr (Bool.eq_false_iff.mpr hc)] at h
      cases h
    rw [if_pos hany, levelAt_map t d fun w => Config.accumulatedLevel w v]
    by_cases hn : d = n
    · subst hn
      simp [h]
    · simp [hn]

theorem mem_placeLevel (t : EchoTrain) (d : Nat) (v : Int) (e : Nat × Int) :
    e ∈ placeLevel d v t ↔ e = (d, v) ∨ e ∈ t := by
  induction t with
  | nil => simp [placeLevel]
  | cons a t ih =>
    simp only [placeLevel]
    split <;> simp only [List.mem_cons, ih]
    exact or_left_comm

/-- A placed level keeps the delays rising. -/
theorem rising_placeLevel {t : EchoTrain} {d : Nat} (v : Int) (h : rising (t.map (·.1)) = true)
    (hd : levelAt t d = none) : rising ((placeLevel d v t).map (·.1)) = true := by
  rw [rising_iff, List.pairwise_map] at *
  induction t with
  | nil => simp [placeLevel]
  | cons e t ih =>
    obtain ⟨a, w⟩ := e
    rw [levelAt_cons] at hd
    have had : a ≠ d := fun hc => by simp [hc] at hd
    rw [if_neg had] at hd
    have hp := List.pairwise_cons.mp h
    simp only [placeLevel]
    split
    · next hlt => exact List.pairwise_cons.mpr ⟨fun x hx => (List.mem_cons.mp hx).elim (fun hx => hx ▸ hlt)
        fun hx => Nat.lt_trans hlt (hp.1 x hx), h⟩
    · next hlt =>
      refine List.pairwise_cons.mpr ⟨fun x hx => ?_, ih hp.2 hd⟩
      rcases (mem_placeLevel t d v x).mp hx with rfl | hx
      · exact Nat.lt_of_le_of_ne (Nat.le_of_not_lt hlt) had
      · exact hp.1 x hx

/-- Adding an echo keeps the delays rising. -/
theorem rising_addLevel {t : EchoTrain} (d : Nat) (v : Int) (h : rising (t.map (·.1)) = true) :
    rising ((addLevel d v t).map (·.1)) = true := by
  unfold addLevel
  split
  · rw [List.map_map]
    have : ((·.1) ∘ fun e : Nat × Int => if e.1 == d then (d, Config.accumulatedLevel e.2 v) else e) = (·.1) := by
      funext e
      by_cases he : e.1 = d <;> simp [he]
    rw [this]
    exact h
  · next hn => exact rising_placeLevel v h (levelAt_eq_none.mpr (Bool.eq_false_iff.mpr hn))

end Sys2Proof.Machine
end

