-- ==== Sys2Proof/Tests/Slice0.lean ====
section
/-! SUPPORT. Tests on small fixed states: the checks of WellFormed, frames written out byte by byte, one or two
steps of each command, and the witnesses of the obligations' hypotheses. -/

namespace Sys2Proof.Tests
open Sys2Proof.Machine

set_option maxRecDepth 20000

/-! ### WellFormed: an ill-formed command for each check -/

/-- Every operand field of the requests, one value beyond what its bytes hold. -/
theorem test_wf_refuses_requests :
    ([.findByNumber 256, .findByAddress 65536, .findByDelay 256 0, .findByDelay 0 4294967296, .findNext 256 0,
      .findNext 0 65536, .enlist ⟨256, 0, 0, none, 1, 10, none⟩, .enlist ⟨0, 256, 0, none, 1, 10, none⟩,
      .enlist ⟨0, 0, 256, none, 1, 10, none⟩, .enlist ⟨0, 0, 0, some 256, 1, 10, none⟩,
      .enlist ⟨0, 0, 0, none, 65536, 10, none⟩, .enlist ⟨0, 0, 0, none, 1, 4294967296, none⟩,
      .enlist ⟨0, 0, 0, none, 1, 10, some 256⟩,
      .amend ⟨256, none, none, none, none, none, none, []⟩, .amend ⟨0, some 65536, none, none, none, none, none, []⟩,
      .amend ⟨0, none, some 4294967296, none, none, none, none, []⟩,
      .amend ⟨0, none, none, some 256, none, none, none, []⟩, .amend ⟨0, none, none, none, some 256, none, none, []⟩,
      .amend ⟨0, none, none, none, none, none, none, [(256, 0)]⟩,
      .amend ⟨0, none, none, none, none, none, none, [(0, 32768)]⟩,
      .amend ⟨0, none, none, none, none, none, none, List.replicate 256 (0, 0)⟩,
      .retire 256, .rebase 65536 0, .rebase 0 256, .shift 256 10 0, .shift 0 4294967296 0, .shift 0 10 32768,
      .shift 0 10 (-32769)] : List Instr).all (fun i => !i.wf) = true := by decide

theorem test_wf_refuses_settings_and_the_rest :
    ([.setline ⟨some 256, none, none, none, none, none, none, none⟩,
      .setline ⟨none, none, none, none, none, some 65536, none, none⟩,
      .setline ⟨none, none, none, none, none, none, some 256, none⟩,
      .setline ⟨none, none, none, none, none, none, none, some 256⟩,
      .setpair ⟨256, none, none, none, none, none, none⟩, .setpair ⟨0, some 256, none, none, none, none, none⟩,
      .setpair ⟨0, none, some 256, none, none, none, none⟩, .setpair ⟨0, none, none, some 32768, none, none, none⟩,
      .setpair ⟨0, none, none, none, some 256, none, none⟩, .setpair ⟨0, none, none, none, none, some (-32769), none⟩,
      .setpair ⟨0, none, none, none, none, none, some 32768⟩,
      .policy ⟨[(256, 0)], [], [], []⟩, .policy ⟨[], [(0, 256)], [], []⟩, .policy ⟨[], [], [(256, 0)], []⟩,
      .policy ⟨[], [], [], [(0, 256)]⟩,
      .role 256 0, .role 0 256, .pairStatus 256, .clearContention 256, .readCase 256, .close 256, .take 256 0,
      .take 0 256, .drop 256, .isolate 256 0 1, .isolate 0 256 1, .isolate 0 0 256, .restore 256 0, .restore 0 256,
      .cut 256 0, .cut 0 256, .reconnect 256 0, .reconnect 0 256, .strayRead 256, .ignoredTransaction 81#8 [],
      .ignoredTransaction 82#8 [], .farEndDrive 0 (.telegram .endB 0 0 .status),
      .farEndDrive 0 (.telegram .endB 4096 0 .status), .farEndDrive 0 (.telegram .endB 1 16 .status),
      .reply 0 ⟨0, 0, .endA, .ack (.repeater .inLine)⟩, .reply 0 ⟨1, 16, .endA, .ack (.repeater .inLine)⟩,
      .listenSpanExpiry 0 [(5, 0), (5, -1)]] : List Instr).all (fun i => !i.wf) = true := by decide

theorem test_wf_accepts :
    ([.findByNumber 255, .shift 3 150000 (-5000), .listCases, .listClaims, .attend, .attentionEnable 255#8, .restart,
      .badframe [], .frameCollision, .responseReady, .readTransaction 9, .ignoredTransaction 0#8 [1#8], .powerOnReset,
      .farEndDrive 7 (.probe .endB), .reply 0 ⟨4095, 15, .endB, .nak .noSpare (.repeater .spare)⟩,
      .replyTimerExpiry 0, .pollTimerExpiry, .listenSpanExpiry 3 [(5, 0), (6, -1)], .takeResult, .caseGrant,
      .claimWaitExpiry 7] : List Instr).all Instr.wf = true := by decide

/-! ### Words and frames -/

theorem test_no_table_word_spells_a_command : decodeTableWord 8 1 = none := by decide

/-- FIND BY NUMBER 2, byte by byte as 12_frame_and_record_formats.md gives it. -/
theorem test_frame_find_by_number : decodeFrame [1#8, 0#8, 1#8, 2#8, 225#8, 7#8] = some (.findByNumber 2) := by decide

theorem test_frame_bad_check : decodeFrame [1#8, 0#8, 1#8, 2#8, 225#8, 8#8] = none := by decide

/-- ENLIST 3, REPEATER, segment 1, no branch served, address 258, delay 66051, window 10; SHIFT 1 from 500 by -40;
ATTEND: bodies written out from R186 and R187. -/
theorem test_bodies :
    decodeBody 5 [3#8, 0#8, 1#8, 0#8, 1#8, 2#8, 0#8, 1#8, 2#8, 3#8, 1#8, 10#8] =
      some (.enlist ⟨3, 0, 1, none, 258, 66051, some 10⟩) ∧
    decodeBody 9 [1#8, 0#8, 0#8, 1#8, 244#8, 255#8, 216#8] = some (.shift 1 500 (-40)) ∧
    decodeBody 27 [] = some .attend ∧ decodeBody 27 [0#8] = none ∧ decodeBody 30 [] = none ∧
    decodeBody 12 [1#8, 2#8, 5#8, 0#8, 1#8, 7#8, 1#8, 0#8] = some (.policy ⟨[(2, 5)], [], [(7, 1)], []⟩) := by decide

theorem test_frame_witness : (Instr.findByNumber 2).wf = true ∧ encodeFrame (.findByNumber 2) =
    [1#8, 0#8, 1#8, 2#8, 225#8, 7#8] ∧ State.reset.port.state = .idle := by decide

/-! ### Small states -/

/-- A station on pair 0 with a window of 8 µs. -/
def station (n : Nat) (kind : StationKind) (g : Segment) (delay : Nat) : Station :=
  { number := n, kind := kind, segment := g, address := n, delay := delay, window := 8, mode := .off, mask := 0#16,
    pattern := 0#16, settled := none, candidate := none, latched := none, matchSeen := false, armed := true,
    silent := 0, parts := [PairPart.fresh kind 0] }

/-- Repeater 1 at 500 µs and branching unit 2 at 1000 µs on the trunk; repeater 3 at 2000 µs on branch 1. -/
def line : State :=
  { State.reset with
    table := { stations := [station 1 .repeater .trunk 500, station 2 (.branching .b1) .trunk 1000,
                            station 3 .repeater (.branch .b1) 2000],
               index := ⟨[1, 2], [3], [], []⟩, generation := Quad.fill 0 },
    survey := Oct.fill (SurveyController.fresh []) }

/-- The line with pair 0 in a role. -/
def inRole (r : Role) : State := line.setSc 0 { SurveyController.fresh [(2, .unknown)] with role := r }

/-- A telegram of the operator to station 1. -/
def isolate1 : Telegram := { dest := 1, kind := .isolateSpare, submitter := .operator 0 }

/-- Pair 0 DRIVING with a telegram outstanding to station 1. -/
def sentTo1 (t : Telegram) (attempt : Nat) : State :=
  (inRole .driving).setTc 0 { TelegramController.fresh 3 with
    outstanding := some { telegram := t, address := 1, tag := 3, origin := .endA, attempt := attempt, deadline := 8 } }

/-- A case of station 1 on pair 0 with LOST and ALARM. -/
def case1 (st : CaseState) : Case :=
  { number := 1, station := 1, pair := 0, evidence := { Evidence.none with lost := some 3, alarm := some 1#16 },
    level := 1, state := st, openedRound := 7, actionTaken := none, claim := none }

/-- Pair 0 DRIVING with the one case. -/
def withCase (st : CaseState) (stack : List Nat) : State :=
  (inRole .driving).setArbiter { CaseArbiter.fresh Policy.default with cases := [case1 st], stack := stack, counter := 1 }

/-- The case in service, its context waiting for a claim with its timer running. -/
def claimWaiting : State :=
  (withCase .active [1]).setContext 1 (some { Context.occupied (case1 .active) with
    step := .claim, phase := .claimWait, timer := some 10, chosen := some .spare })

/-- The line under an OPERATOR claim on station 1, pair 0. -/
def claimed : State := (inRole .driving).setClaims [{ number := 0, station := 1, pair := .one 0, owner := .operator }]

/-- A result of a TRUNK round of pair 0 that heard station 1 at -30.0 dB and a stray peak. -/
def result (generation : Nat) : RoundResult :=
  { correlator := 0, pair := 0, view := .trunk, kind := .regular, focus := none, snapshot := [(.trunk, generation)],
    entries := [{ station := 1, peak := some (-300, 1) }], stray := some (700, -200) }

/-- Pair 0 in RESULT with the result at the head of the queue. -/
def withResult (generation : Nat) : State :=
  ((inRole .driving).setSc 0 { (inRole .driving).sc 0 with
      state := .result, roundView := some .trunk, roundKind := some .regular }).setPool
    { CorrelatorPool.fresh with
      correlators := ⟨.ready { definition := (inRole .driving).roundDefinition 0, snapshot := [], train := [] },
        .free, .free, .free⟩,
      queue := [result generation] }

/-- The status and the body that a request is answered with. -/
def answer (i : Instr) (s : State) : Option (Status × Body) :=
  match exec i s with
  | .next t => match t.port.state with
    | .performing r => some (r.status, r.body)
    | _ => none
  | _ => none

/-- The status that a request is answered with. -/
def status (i : Instr) (s : State) : Option Status := (answer i s).map (·.1)

/-- A value read from the state after a command. -/
def after {α : Type} (i : Instr) (s : State) (f : State → α) : Option α :=
  match exec i s with
  | .next t => some (f t)
  | _ => none

/-! ### The laws of the small states (the hypotheses that are laws) -/

theorem test_witness_line_laws : line.port.state = .idle ∧ line.geometryLaw = true ∧ line.keyLaw = true ∧
    line.partsLaw = true ∧ line.settingsLaw = true ∧ line.claimLaw = true ∧ line.caseLaw = true ∧
    line.strayLaw = true := by decide

theorem test_witness_case_laws :
    (withCase .active [1]).port.state = .idle ∧ (withCase .active [1]).caseLaw = true ∧
    (withCase .active [1]).stackLaw = true ∧ (withCase .active [1]).serviceLaw = true ∧
    (withCase .pending []).caseLaw = true ∧ (withCase .pending []).stackLaw = true ∧
    (withCase (.held .reported) []).caseLaw = true ∧ (withCase (.held .reported) []).stackLaw = true ∧
    claimed.claimLaw = true ∧ claimed.keyLaw = true ∧ claimed.partsLaw = true := by decide

theorem test_witness_step_laws :
    (inRole .driving).surveyLaw = true ∧ (inRole .driving).telegramLaw = true ∧
    (sentTo1 isolate1 1).telegramLaw = true ∧ (inRole .driving).flagLaw = true ∧
    (withCase .active [1]).claimLaw = true ∧ State.reset.healthLaw = true ∧ line.confirmLaw = true := by decide

/-! ### The machine and the Request Port -/

theorem test_step_takes_the_front : (match step (line.setPending [.attend, .restart]) with
    | .next t => t.pending == [.restart] && t.port.state != .idle
    | _ => false) = true := by decide

theorem test_empty_queue_idles : line.pending = [] ∧ step line = .next line := ⟨rfl, rfl⟩

/-- The port in PERFORMING and in RESPONSE READY with ATTEND's response. -/
def attending : State := line.setPort { line.port with state := .performing { kind := 27, status := .ok, body := .empty } }
/-- See `attending`. -/
def attended : State :=
  line.setPort { line.port with state := .responseReady { kind := 27, status := .ok, body := .empty } true, collision := true }

theorem test_port_witnesses : attending.port.state ≠ .idle ∧ attended.port.state ≠ .idle ∧
    attending.port.state = .performing { kind := 27, status := .ok, body := .empty } ∧
    attended.port.state = .responseReady { kind := 27, status := .ok, body := .empty } true := by decide

theorem test_collision : after .frameCollision attending (·.port.collision) = some true ∧
    after .attend attended (·.port.collision) = some true ∧ after .frameCollision line (·.port.collision) = some false := by
  decide

theorem test_response_ready : after .responseReady attending (·.rsp) = some true ∧
    after .responseReady line id = some line := by decide

/-- The response of 7 bytes: read short, and read to its last byte. -/
theorem test_read : after (.readTransaction 6) attended (fun t => (t.rsp, t.port.collision)) = some (true, true) ∧
    after (.readTransaction 7) attended (fun t => (t.port.state, t.port.collision)) = some (.idle, false) ∧
    after (.readTransaction 8) line (·.port.shiftedOut) = some [0#8, 2#8, 0#8, 0#8, 1#8, 0#8, 121#8, 162#8] := by decide

theorem test_ignored : after (.ignoredTransaction 7#8 [1#8, 2#8]) line (·.port.shiftedOut) = some [0#8, 0#8, 0#8] := by
  decide

theorem test_badframe : answer (.badframe [200#8, 0#8]) line = some (.badFrame, .empty) ∧
    answer (.badframe [1#8, 0#8, 1#8, 9#8, 90#8, 108#8]) line = answer (.badframe [9#8]) line ∧
    answer (.badframe [1#8, 0#8, 1#8, 2#8, 225#8, 7#8]) line = answer (.findByNumber 2) line ∧
    (match exec (.badframe []) line with
      | .next t => t.draws
      | _ => 0) = 1 := by decide

/-- A refused request with the premises of the statement about refusals. -/
theorem test_witness_refused : requestKind (.findByNumber 9) = some 1 ∧ line.port.state = .idle ∧
    status (.findByNumber 9) line = some .notFound ∧ Status.notFound ≠ .ok ∧ Status.notFound ≠ .queued := by decide

theorem test_attention : answer .attend (line.raise .stray) =
      some (.ok, .causes { AttentionSet.none with stray := true }) ∧ (line.raise .stray).atn = true ∧
    after .attend (line.raise .stray) (·.atn) = some false ∧
    status (.attentionEnable 63#8) line = some .ok ∧ status (.attentionEnable 64#8) line = some .range ∧
    after (.attentionEnable 4#8) line (·.port.enable.toMask) = some 4 := by decide

theorem test_resets : after .powerOnReset (inRole .driving) id = some State.reset ∧
    after .restart (inRole .driving) (fun t => (t.table.stations.length, (t.sc 0).role, (t.sc 0).steering)) =
      some (3, .off, [(2, .unknown)]) := by decide

/-! ### Settings -/

theorem test_setline :
    status (.setline ⟨some 2, none, none, none, none, none, none, none⟩) State.reset = some .range ∧
    status (.setline ⟨none, some 3#8, some 4#8, none, none, none, none, none⟩) State.reset = some .range ∧
    status (.setline ⟨none, none, none, none, none, some 3601, none, none⟩) State.reset = some .range ∧
    status (.setline ⟨none, none, none, none, none, some 3600, none, none⟩) line = some .state ∧
    after (.setline ⟨some 1, some 3#8, some 2#8, none, none, some 3600, some 50, some 60⟩) State.reset
        (fun t => (t.line, t.sweeper.pollTimer)) =
      some (⟨.endB, 3#8, ⟨2#8, 3#8, 3#8⟩, 3600, 50, 60⟩, 3600) := by decide

theorem test_setpair : status (.setpair ⟨8, none, none, none, none, none, none⟩) line = some .range ∧
    status (.setpair ⟨7, some 65, none, none, none, none, none⟩) line = some .range ∧
    status (.setpair ⟨7, some 64, some 16, some 200, some 8, some (-300), some (-100)⟩) line = some .ok ∧
    after (.setpair ⟨0, none, none, none, some 1, none, none⟩)
        (line.updatePart 1 0 fun q => { q with confirm := 3 })
        (fun t => (t.part? 1 0).map (·.confirm)) = some (some 1) := by decide

theorem test_policy : status (.policy ⟨[(5, 0)], [], [], []⟩) line = some .range ∧
    status (.policy ⟨[(4, 8)], [], [], []⟩) line = some .range ∧
    after (.policy ⟨[(4, 7), (4, 0)], [(4, 3)], [(7, 1)], [(0, 1)]⟩) line
        (fun t => (t.arbiter.policy.levelMap.silent, t.arbiter.policy.actionMap.silent, t.arbiter.policy.modes.p7,
          t.arbiter.policy.masked.p0)) = some (0, .cutBranch, .auto, true) := by decide

/-! ### The Station Table -/

theorem test_finds : status (.findByNumber 3) line = some .ok ∧ status (.findByNumber 4) line = some .notFound ∧
    status (.findByAddress 0) line = some .range ∧ status (.findByAddress 4096) line = some .range ∧
    status (.findByAddress 4095) line = some .notFound ∧ status (.findByAddress 1) line = some .ok := by decide

/-- The edges of FIND BY DELAY: the last delay in station 1's window, the first beyond it, the greatest delay. -/
theorem test_find_by_delay :
    answer (.findByDelay 0 508) line = some (.ok, .stationAtDelay ⟨station 1 .repeater .trunk 500, 0⟩) ∧
    answer (.findByDelay 0 509) line = some (.ok, .span (some ⟨station 1 .repeater .trunk 500, 0⟩)
      (some ⟨station 2 (.branching .b1) .trunk 1000, 0⟩)) ∧
    answer (.findByDelay 1 150050) line = some (.ok, .span (some ⟨station 3 .repeater (.branch .b1) 2000, 0⟩) none) ∧
    status (.findByDelay 0 150051) line = some .range ∧ status (.findByDelay 3 0) line = some .notFound ∧
    status (.findByDelay 4 0) line = some .range := by decide

theorem test_find_next :
    answer (.findNext 0 65535) line = some (.ok, .nextStation (some ⟨station 1 .repeater .trunk 500, 0⟩)) ∧
    answer (.findNext 0 3) line = some (.ok, .nextStation none) ∧ status (.findNext 0 256) line = some .range ∧
    answer (.findNext 1 1) line = some (.ok, .nextStation (some ⟨station 2 (.branching .b1) .trunk 1000, 0⟩)) ∧
    answer (.findNext 1 2) line = some (.ok, .nextStation none) ∧ status (.findNext 1 9) line = some .notFound ∧
    status (.findNext 1 65535) line = some .range ∧ status (.findNext 2 1) line = some .range := by decide

/-- ENLIST's refusals in order, each at a boundary: branch station 1016 µs lies within its unit's reach, 1017 not. -/
theorem test_enlist :
    status (.enlist ⟨4, 1, 0, none, 4, 3000, none⟩) line = some .range ∧
    status (.enlist ⟨4, 0, 0, none, 3, 3000, none⟩) line = some .duplicate ∧
    status (.enlist ⟨4, 0, 2, none, 4, 3000, none⟩) line = some .state ∧
    status (.enlist ⟨4, 0, 1, none, 4, 1016, none⟩) line = some .range ∧
    status (.enlist ⟨4, 0, 0, none, 4, 1016, none⟩) line = some .overlap ∧
    status (.enlist ⟨4, 0, 1, none, 4, 1017, none⟩) line = some .ok ∧
    after (.enlist ⟨4, 0, 1, none, 4, 1017, none⟩) line (fun t => (t.index (.branch .b1), t.table.generation)) =
      some ([4, 3], ⟨0, 1, 0, 0⟩) := by decide

/-- The hypotheses of ENLIST's statements: the checks' conditions at a refused and at an accepted request. -/
theorem test_witness_enlist : FirstApplies (line.enlistChecks ⟨4, 0, 0, none, 3, 3000, none⟩) .duplicate ∧
    NoneApplies (line.enlistChecks ⟨4, 0, 1, none, 4, 1017, none⟩) := by
  constructor
  · refine .inr ⟨?_, .inl ⟨?_, rfl⟩⟩
    · simp [enlistFieldsFit]
    · exact ⟨station 3 .repeater (.branch .b1) 2000, by decide, by decide⟩
  · intro e he
    fin_cases he
    · simp [enlistFieldsFit]
    · simp [line, station]
    · simp [line, station, Branch.number]
    · simp [line, station, Branch.number]
    · simp [line, station, Segment.number, Branch.number]

theorem test_amend :
    status (.amend ⟨9, none, none, none, none, none, none, []⟩) line = some .notFound ∧
    status (.amend ⟨1, none, none, none, none, none, none, [(0, 1)]⟩) line = some .range ∧
    status (.amend ⟨1, some 9, none, none, none, none, none, []⟩) (sentTo1 isolate1 1) = some .busy ∧
    status (.amend ⟨1, some 3, none, none, none, none, none, []⟩) line = some .duplicate ∧
    status (.amend ⟨2, none, some 1984, none, none, none, none, []⟩) line = some .range ∧
    status (.amend ⟨1, none, some 984, none, none, none, none, []⟩) line = some .overlap ∧
    after (.amend ⟨1, none, some 1200, none, some 1, none, none, [(0, -300), (0, -310)]⟩) line
        (fun t => (t.index .trunk, t.generation .trunk, (t.station? 1).map (·.mode), (t.part? 1 0).map (·.baseline))) =
      some ([2, 1], 1, some .event, some (some (-310))) := by decide

theorem test_retire : status (.retire 9) line = some .notFound ∧
    status (.retire 1) (sentTo1 isolate1 1) = some .busy ∧ status (.retire 2) line = some .state ∧
    status (.retire 1) (withCase .active [1]) = some .busy ∧
    status (.retire 1) (withCase (.held .reported) []) = some .state ∧
    after (.retire 1) (withCase .pending []) (fun t => (t.index .trunk, t.generation .trunk, t.arbiter.cases.length)) =
      some ([2], 1, 0) := by decide

theorem test_rebase : status (.rebase 256 0) line = some .range ∧ status (.rebase 9 0) line = some .notFound ∧
    status (.rebase 1 8) line = some .range ∧ status (.rebase 1 7) line = some .notFound ∧
    answer (.rebase 65535 255) (line.updatePart 1 0 fun q => { q with latest := some ⟨-300, 0, 5⟩ }) =
      some (.ok, .count 1) ∧
    after (.rebase 1 0) (line.updatePart 1 0 fun q => { q with latest := some ⟨-300, 0, 5⟩ })
        (fun t => (t.part? 1 0).map fun q => (q.baseline, q.health)) = some (some (some (-300), .normal)) := by decide

/-- SHIFT: the unit takes its branch with it; a delta of 0 moves nothing; unit 2 may go back to 517 µs, no less. -/
theorem test_shift : status (.shift 0 9 1) line = some .range ∧ status (.shift 2 10 1) line = some .state ∧
    status (.shift 0 10 (-491)) line = some .range ∧ status (.shift 0 600 (-484)) line = some .overlap ∧
    answer (.shift 0 600 0) line = some (.ok, .count 0) ∧ answer (.shift 0 600 (-483)) line = some (.ok, .count 2) ∧
    after (.shift 0 600 40) line (fun t => (t.table.stations.map (·.delay), t.table.generation)) =
      some ([500, 1040, 2040], ⟨1, 1, 0, 0⟩) := by decide

/-! ### Roles and contention -/

theorem test_role : status (.role 8 0) line = some .range ∧ status (.role 0 3) line = some .range ∧
    status (.role 1 1) line = some .state ∧
    status (.role 0 1) (line.flagContention 0) = some .contended ∧
    after (.role 0 2) line (fun t => (t.sc 0).role) = some .listening ∧
    after (.role 0 1) (inRole .listening) (fun t => ((t.sc 0).role, (t.sc 0).state)) =
      some (.driving, .steering) ∧
    after (.role 0 0) (withCase .active [1]) (fun t => ((t.sc 0).role, t.arbiter.cases.map (·.state))) =
      some (.off, [.held .interrupted]) := by decide

theorem test_witness_roles : (inRole .listening).equipped 0 = true ∧ ((inRole .listening).sc 0).contention = false ∧
    ((inRole .listening).sc 0).role ≠ .driving ∧ (inRole .listening).settingsLaw = true ∧
    ((withCase .active [1]).sc 0).role = .driving ∧ readRole 2 = some .listening ∧ readRole 0 = some .off ∧
    (line.sc 0).role = .off := by decide

theorem test_pair_status_and_clear :
    after (.pairStatus 0) (line.flagContention 0) (fun t => (t.sc 0).statusRead) = some true ∧
    status (.pairStatus 8) line = some .range ∧ status (.clearContention 0) (line.flagContention 0) = some .state ∧
    after (.clearContention 0) ((line.flagContention 0).flagStatusRead 0) (fun t => (t.sc 0).contention) =
      some false := by decide

theorem test_far_end : after (.farEndDrive 0 (.probe .endB)) line id = some line ∧
    after (.farEndDrive 0 (.telegram .endB 1 5 .cut)) (inRole .listening) (fun t => (t.tc 0).overheard) =
      some [⟨1, .cut, 5⟩] ∧
    after (.farEndDrive 0 (.probe .endB)) (withCase .active [1])
        (fun t => ((t.sc 0).role, (t.sc 0).contention, t.port.attention.contention, t.arbiter.stack)) =
      some (.listening, true, true, []) ∧ (withCase .active [1]).equipped 0 = true := by decide

/-! ### Cases and claims -/

theorem test_case_lists : answer .listCases (withCase .active [1]) = some (.ok, .cases [(1, .active, 1)]) ∧
    answer (.readCase 1) (withCase .pending []) = some (.ok, .case (case1 .pending) none) ∧
    status (.readCase 0) line = some .range ∧ status (.readCase 255) line = some .notFound ∧
    answer .listClaims claimed = some (.ok, .claims claimed.claims) := by decide

theorem test_close : status (.close 0) line = some .range ∧ status (.close 255) line = some .notFound ∧
    status (.close 1) (withCase .active [1]) = some .busy ∧
    after (.close 1) (withCase (.held .reported) []) (·.arbiter.cases) = some [] := by decide

theorem test_grant : after .caseGrant (withCase .pending []) (fun t => (t.arbiter.cases.map (·.state), t.arbiter.stack)) =
      some ([.active], [1]) ∧
    after .caseGrant (withCase (.held .reported) []) id = some (withCase (.held .reported) []) := by decide

/-- The grant's hypotheses at the one eligible case. -/
theorem test_witness_grant : case1 .pending ∈ (withCase .pending []).arbiter.cases ∧
    (withCase .pending []).arbiter.policy.masked.get 1 = false ∧ ((withCase .pending []).sc 0).role = .driving ∧
    (withCase .pending []).arbiter.stack.head? = none := by decide

theorem test_take_and_drop : status (.take 256 0) line = some .range ∧ status (.take 9 0) line = some .notFound ∧
    status (.take 1 7) line = some .range ∧ answer (.take 1 255) line = some (.ok, .claimNumber 0) ∧
    answer (.take 1 255) claimed = some (.held, .claimEntry ⟨0, 1, .one 0, .operator⟩) ∧
    status (.drop 16) line = some .range ∧ status (.drop 15) line = some .notFound ∧
    after (.drop 0) claimed (·.claims) = some [] ∧
    status (.drop 0) (claimed.setClaims [⟨0, 1, .one 0, .far⟩]) = some .state := by decide

theorem test_operator_refusals : status (.isolate 1 0 3) claimed = some .range ∧
    status (.cut 9 0) claimed = some .notFound ∧ status (.cut 1 0) claimed = some .range ∧
    status (.restore 3 0) claimed = some .noClaim ∧ status (.restore 1 0) (claimed.setSc 0 (line.sc 0)) = some .role ∧
    status (.isolate 1 0 1) (claimed.setTc 0 { TelegramController.fresh 0 with
      queue := List.replicate 8 isolate1 }) = some .full := by decide

theorem test_operator_actions :
    after (.isolate 1 0 1) claimed (fun t => ((t.part? 1 0).bind (·.operator), (t.tc 0).outstanding.map (·.telegram))) =
      some (some ⟨.isolateSpare, .pending⟩, some ⟨1, .isolateSpare, .operator 1⟩) ∧
    status (.restore 1 255) claimed = some .queued ∧
    status (.reconnect 2 0) (claimed.setClaims [⟨0, 2, .all, .operator⟩]) = some .queued ∧
    status (.cut 2 0) (claimed.setClaims [⟨0, 2, .all, .operator⟩]) = some .queued := by decide

/-- The hypotheses of the statement about an accepted operator action. -/
theorem test_witness_operator : NoneApplies (claimed.operatorChecks 1 0 .isolateSpare) := by
  have only1 : ∀ r ∈ claimed.table.stations, r.number = 1 → r = station 1 .repeater .trunk 500 := by decide
  have one : ∀ q ∈ (station 1 .repeater .trunk 500).parts, q = PairPart.fresh .repeater 0 := by decide
  intro e he
  fin_cases he
  · decide
  · decide
  · rintro ⟨r, hr, h1, h⟩
    rw [only1 r hr h1] at h
    revert h
    decide
  · rintro ⟨r, hr, h1, q, hq, _, h⟩
    rw [only1 r hr h1] at hq
    rw [one q hq] at h
    exact h _ List.mem_cons_self ⟨rfl, rfl, .inr rfl⟩
  · rintro ⟨r, hr, h1, q, hq, _, h⟩
    rw [only1 r hr h1] at hq
    rw [one q hq] at h
    exact h rfl
  · rintro ⟨r, hr, h1, q, hq, _, h, _⟩
    rw [only1 r hr h1] at hq
    rw [one q hq] at h
    exact absurd h (by decide)

theorem test_stray_read : status (.strayRead 8) line = some .range ∧ status (.strayRead 7) line = some .ok ∧
    after (.strayRead 0) (line.setStrays (Oct.fill ⟨some ⟨700, -200, .trunk, 1, some 1, none⟩, true⟩))
      (fun t => (t.strays.p0, t.strays.p1.overrun)) = some (⟨none, false⟩, true) := by decide

/-! ### Replies and timers -/

/-- A reply to tag 3 for this end from station 1. -/
def ack (st : StateInForce) : Reply := { source := 1, tag := 3, dest := .endA, content := .ack st }

theorem test_reply : after (.reply 0 (ack (.repeater .spare))) line id = some line ∧
    after (.reply 0 { ack (.repeater .spare) with tag := 4 }) (sentTo1 isolate1 1) id = some (sentTo1 isolate1 1) ∧
    after (.reply 0 (ack (.repeater .spare)))
        ((sentTo1 isolate1 1).updatePart 1 0 fun q => { q with operator := some ⟨.isolateSpare, .pending⟩ })
        (fun t => ((t.part? 1 0).map fun q => (q.isolation, q.operator.map (·.outcome)),
          t.port.attention.operatorDone)) =
      some (some (.spare, some .done), true) := by decide

theorem test_witness_matched : (sentTo1 isolate1 1).equipped 0 = true ∧ ((sentTo1 isolate1 1).sc 0).role = .driving ∧
    (ack (.repeater .spare)).dest = (sentTo1 isolate1 1).line.terminal ∧
    (ack (.repeater .spare)).content.answers isolate1.kind = true ∧
    (sentTo1 isolate1 1).station? 1 = some (station 1 .repeater .trunk 500) ∧
    (station 1 .repeater .trunk 500).part? 0 = some (PairPart.fresh .repeater 0) := by decide

/-- Pair 0 LISTENING with an abandoned exchange with station 1 and an overheard ISOLATE to it. -/
def listening : State := (inRole .listening).setTc 0 { TelegramController.fresh 3 with
  overheard := [⟨1, .isolateSpare, 6⟩], abandoned := some ⟨1, 3, .isolateSpare⟩ }

theorem test_listening_replies :
    after (.reply 0 (ack (.repeater .limit))) listening
        (fun t => ((t.part? 1 0).map (·.isolation), (t.tc 0).abandoned)) = some (some .limit, none) ∧
    after (.reply 0 { ack (.repeater .spare) with tag := 4 }) listening id = some listening ∧
    after (.reply 0 { ack (.repeater .spare) with dest := .endB, tag := 6 }) listening
        (fun t => ((t.part? 1 0).map (·.isolation), t.claims)) = some (some .spare, [⟨0, 1, .one 0, .far⟩]) ∧
    listening.claimLaw = true ∧ listening.keyLaw = true ∧ listening.equipped 0 = true := by decide

theorem test_reply_timer : after (.replyTimerExpiry 0) line id = some line ∧
    after (.replyTimerExpiry 0) (sentTo1 isolate1 1)
        (fun t => (t.tc 0).outstanding.map fun o => (o.attempt, o.tag, o.deadline)) = some (some (2, 4, 8)) ∧
    after (.replyTimerExpiry 0) (sentTo1 isolate1 2)
        (fun t => ((t.part? 1 0).map (·.isolation), t.arbiter.cases.map (·.evidence.silent))) =
      some (some .uncertain, [some .isolateSpare]) := by decide

/-- A POLL to station 1. -/
def poll1 : Telegram := { dest := 1, kind := .status, submitter := .sweep }

theorem test_poll_timers :
    after (.replyTimerExpiry 0) ((sentTo1 poll1 1).setSilent 1 2)
        (fun t => ((t.station? 1).map (·.silent), t.arbiter.cases.length)) = some (some 3, 1) ∧
    after .pollTimerExpiry (inRole .driving) (fun t => (t.sweeper.running, (t.tc 0).outstanding.map (·.telegram))) =
      some (true, some poll1) ∧
    after .pollTimerExpiry (line.setSweeper { line.sweeper with running := true }) (·.sweeper.sweepPending) =
      some true := by decide

theorem test_claim_wait : after (.claimWaitExpiry 1) claimWaiting
      (fun t => (t.arbiter.cases.map (·.state), t.context 1)) = some ([.held .blocked], none) ∧
    after (.claimWaitExpiry 2) claimWaiting id = some claimWaiting ∧
    claimWaiting.caseLaw = true ∧ claimWaiting.stackLaw = true ∧
    claimWaiting.arbiter.stack.head? = some (case1 .active).number := by decide

/-- The claim wait of a suspended context: another number stands on top. -/
theorem test_witness_claim_wait_suspended :
    (claimWaiting.setArbiter { claimWaiting.arbiter with stack := [2, 1] }).arbiter.stack.head? ≠ some 1 ∧
    after (.claimWaitExpiry 1) (claimWaiting.setArbiter { claimWaiting.arbiter with stack := [2, 1] })
      (fun t => (t.context 1).map fun c => (c.timer, c.recorded)) = some (some (none, some .expired)) := by decide

/-! ### Rounds and results -/

/-- A run of a round of pair 0 with so many bursts and one level heard. -/
def runOf (bursts : Nat) : RoundInCorrelator :=
  { definition := { (inRole .driving).roundDefinition 0 with bursts := bursts },
    snapshot := [(.trunk, 0)], train := [(500, -300)] }

/-- Correlator 0 running that round. -/
def running (bursts : Nat) : State :=
  (inRole .driving).setPool { CorrelatorPool.fresh with
    correlators := ⟨.running (runOf bursts) 0 .endA, .free, .free, .free⟩ }

theorem test_listen_span :
    after (.listenSpanExpiry 0 [(505, -250), (2000, -100)]) (running 1)
        (fun t => (t.pool.queue.map (·.entries), t.pool.queue.map (·.stray), (t.sc 0).state)) =
      some ([[⟨1, some (-250, 5)⟩, ⟨2, none⟩]], [none], .result) ∧
    after (.listenSpanExpiry 0 []) (running 2) (fun t => match t.pool.correlators.q0 with
      | .running _ n _ => n
      | _ => 0) = some 1 ∧
    after (.listenSpanExpiry 1 []) (running 2) id = some (running 2) ∧ ([(505, -250), (2000, -100)].map
      (Prod.fst : Nat × Int → Nat)).Nodup := by decide

theorem test_strongest_peak : strongestPeak [(500, -300), (505, -250), (506, -250)] (fun _ => true) = some (505, -250) ∧
    strongestPeak [(500, -800)] (fun _ => true) = none ∧ strongestPeak [(500, 30)] (fun _ => true) = some (500, 0) ∧
    rising ([(500, (-300 : Int)), (505, -250), (506, -250)].map (·.1)) = true := by decide

theorem test_take_result : after .takeResult line id = some line ∧
    after .takeResult (withResult 0) (fun t => ((t.sc 0).roundCounter, (t.part? 1 0).map (·.latest),
        t.strays.p0.held.map (·.delay), t.pool.queue)) =
      some (1, some (some ⟨-300, 1, 1⟩), some 700, []) ∧
    after .takeResult (withResult 1) (fun t => ((t.sc 0).roundCounter, (t.part? 1 0).map (·.latest))) =
      some (0, some none) ∧
    (withResult 0).pool.queue = [result 0] ∧ (∀ e ∈ (result 0).snapshot, (withResult 0).generation e.1 = e.2) ∧
    (∃ e ∈ (result 1).snapshot, (withResult 1).generation e.1 ≠ e.2) := by decide

/-- One entry at the step threshold of 1.5 dB, one below it, one missed. -/
theorem test_echo_entry : line.part? 1 0 = some (PairPart.fresh .repeater 0) ∧
    (let s := line.updatePart 1 0 fun q => { q with baseline := some (-300), confirm := 1 }
     ((State.workEntry 0 9 (s, none) ⟨1, some (-315, 0)⟩).1.part? 1 0).map (·.confirm) = some 2 ∧
     ((State.workEntry 0 9 (s, none) ⟨1, some (-314, 0)⟩).1.part? 1 0).map (·.confirm) = some 0 ∧
     ((State.workEntry 0 9 (s, none) ⟨1, none⟩).1.part? 1 0).map (·.missing) = some 1) := by decide

/-- A finding that opens, one that merges into a HELD case with a new cause, one that meets a full list. -/
theorem test_finding : (line.findCase 1 0 (.lost 3) 7).arbiter.cases.map (·.number) = [1] ∧
    ((withCase (.held .reported) []).findCase 1 0 (.step 20) 7).arbiter.cases.map (·.state) = [.pending] ∧
    ((withCase (.held .reported) []).findCase 1 0 (.lost 4) 7).arbiter.cases.map (·.state) =
      [.held .reported] ∧
    line.arbiter.cases.length < 32 ∧ line.arbiter.counter ≤ 255 := by decide

theorem test_watch :
    ({ station 1 .repeater .trunk 500 with mode := .event, settled := some 0#16, candidate := some 1#16 }.judge 1#16).2 =
      some [0] ∧
    ({ station 1 .repeater .trunk 500 with mode := .event, settled := some 0#16, candidate := some 1#16 }.judge 4#16).1.candidate =
      none ∧
    ({ station 1 .repeater .trunk 500 with mode := .matching, pattern := 1#16, matchSeen := true }.judge 1#16).2 =
      some [0] := by decide

/-! ### Leaving DRIVING, polls and branch cuts -/

/-- Case 1 in service, the operator's ISOLATE of station 1 outstanding and in force. -/
def atWork : State := ((withCase .active [1]).setTc 0 ((sentTo1 isolate1 1).tc 0)).updatePart 1 0 fun q =>
  { q with operator := some ⟨.isolateSpare, .pending⟩ }

/-- Contention ends the telegram, the action and the case; the contention telegram is overheard. -/
theorem test_leaving_ends_work :
    after (.farEndDrive 0 (.telegram .endB 3 5 .restore)) atWork (fun t => ((t.part? 1 0).map (·.isolation),
        (t.part? 1 0).map (·.operator), t.arbiter.cases.map (·.state), t.tc 0, t.port.attention.operatorDone)) =
      some (some .uncertain, some (some ⟨.isolateSpare, .abandoned⟩), [.held .interrupted],
        { TelegramController.fresh 3 with overheard := [⟨3, .restore, 5⟩], abandoned := some ⟨1, 3, .isolateSpare⟩ },
        true) ∧
    atWork.caseLaw = true ∧ atWork.stackLaw = true ∧ atWork.keyLaw = true ∧ atWork.partsLaw = true ∧
    (atWork.sc 0).role = .driving ∧ atWork.equipped 0 = true ∧ atWork.port.state = .idle := by decide

/-- The hypotheses on an abandoned command and an abandoned action. -/
theorem test_witness_abandoned : atWork.loses 0 1 .isolateSpare ∧
    ∀ y : PairPart, y.issue = 0 → atWork.abandonsAction 0 (station 1 .repeater .trunk 500) y := by
  refine ⟨⟨_, rfl, rfl, rfl⟩, fun y hy => ⟨isolate1, .inr ⟨_, rfl, rfl⟩, rfl, ?_⟩⟩
  rw [hy]
  rfl

/-- A POLL queued for station 1 goes with it; the case of station 1 stands when station 3 goes. -/
theorem test_retire_takes_polls :
    after (.retire 1) ((inRole .driving).setTc 0 { TelegramController.fresh 3 with queue := [poll1] })
        (fun t => ((t.tc 0).queue, (t.tc 0).outstanding, t.table.stations.length)) = some ([], none, 2) ∧
    after (.retire 3) (withCase .pending []) (·.arbiter.cases) = some [case1 .pending] ∧
    ((inRole .driving).setTc 0 { TelegramController.fresh 3 with queue := [poll1] }).telegramLaw = true ∧
    (withCase .pending []).geometryLaw = true := by decide

/-- The pair polls station 1 first: the hypotheses of the sweep that starts. -/
theorem test_witness_poll : (inRole .driving).polls 0 (station 1 .repeater .trunk 500) ∧
    ((inRole .driving).tc 0).roomForPoll ∧ (inRole .driving).geometryLaw = true ∧ (inRole .driving).partsLaw = true ∧
    (inRole .driving).flagLaw = true ∧ (inRole .driving).sweeper.running = false := by
  refine ⟨⟨⟨by decide, ⟨PairPart.fresh .repeater 0, by decide, rfl⟩, fun b h => (by cases h)⟩,
    fun q hq => absurd hq (Fin.not_lt_zero q)⟩, ⟨by decide, by decide, by decide⟩, by decide, by decide, by decide,
    by decide⟩

/-- With no telegram to send and no station to poll, the cursor of the pair passes to the end. -/
theorem test_poll_timer_with_no_station :
    after .pollTimerExpiry (State.reset.setRole 0 .driving) (fun t => (t.sweeper.running, t.sweeper.cursors.p0)) =
      some (false, 256) := by decide

/-- The operator's CUT of unit 2 outstanding; station 3 of its branch measured. -/
def cutting : State :=
  ((inRole .driving).setTc 0 { TelegramController.fresh 3 with
    outstanding := some { telegram := ⟨2, .cut, .operator 0⟩, address := 2, tag := 3, origin := .endA, attempt := 1,
                          deadline := 8 } }).updatePart 3 0 fun q => { q with latest := some ⟨-300, 0, 5⟩, health := .normal }

theorem test_cut_clears_branch :
    after (.reply 0 ⟨2, 3, .endA, .ack (.branching .cut .trunk)⟩) cutting (fun t => ((t.part? 2 0).map (·.connection),
        (t.part? 3 0).map (·.latest), (t.part? 3 0).map (·.health), (t.sc 0).steeringOf 2)) =
      some (some (some .cut), some none, some .unmeasured, some .trunk) ∧
    cutting.geometryLaw = true ∧ cutting.partsLaw = true ∧ (cutting.sc 0).focused = none := by decide

/-! ### Overheard replies -/

/-- Pair 0 LISTENING, a command to unit 2 overheard. -/
def overheard (k : TelegramKind) : State :=
  (inRole .listening).setTc 0 { TelegramController.fresh 3 with overheard := [⟨2, k, 6⟩] }

/-- The answer of unit 2 to the other end. -/
def heard (c : ReplyContent) : Instr := .reply 0 ⟨2, 6, .endB, c⟩

theorem test_overheard_commands :
    after (heard (.ack (.branching .cut .trunk))) (overheard .cut) (fun t => ((t.part? 2 0).map (·.connection), t.claims)) =
      some (some (some .cut), [⟨0, 2, .one 0, .far⟩]) ∧
    after (heard (.nak .refused (.branching .cut .trunk))) (overheard .cut)
        (fun t => ((t.part? 2 0).map (·.connection), t.claims)) = some (some (some .cut), []) ∧
    after (heard (.ack (.branching .connected .trunk))) ((overheard .reconnect).setClaims [⟨4, 2, .one 0, .far⟩])
        (fun t => ((t.part? 2 0).map (·.connection), t.claims)) = some (some (some .connected), []) ∧
    after (heard (.ack (.branching .connected .trunk))) (overheard .steerTrunk) id = some (overheard .steerTrunk) ∧
    (overheard .cut).geometryLaw = true ∧ (overheard .cut).partsLaw = true ∧ (overheard .cut).claimLaw = true ∧
    (overheard .cut).equipped 0 = true ∧
    ((overheard .steerTrunk).tc 0).overheard.filter (·.station == 2) = [⟨2, .steerTrunk, 6⟩] := by decide

/-- A STATUS REPLY overheard: the settled word; an abandoned exchange whose address no station carries. -/
theorem test_overheard_word_and_lost_address :
    after (heard (.statusReply 5#16 (.branching .connected .trunk))) (overheard .cut)
        (fun t => (t.station? 2).map (·.settled)) = some (some (some 5#16)) ∧
    after (.reply 0 ⟨9, 3, .endA, .ack (.repeater .limit)⟩)
        ((overheard .cut).setTc 0 { TelegramController.fresh 3 with abandoned := some ⟨9, 3, .isolateSpare⟩ })
        (fun t => (t.table, t.tc 0)) = some (line.table, TelegramController.fresh 3) := by decide

/-! ### Contexts -/

/-- Case 1 ACTIVE in AUTO mode at a step of its context; its station's latched word has pair 0's first indicator. -/
def inStep (st : ContextStep) (chosen : Option Command) : State :=
  ((((withCase .active [1]).setArbiter { (withCase .active [1]).arbiter with
      policy := { Policy.default with modes := Oct.fill .auto } }).setContext 1
    (some { Context.occupied (case1 .active) with step := st, chosen := chosen })).setSc 0
      { (inRole .driving).sc 0 with state := .running }).updateStation 1 fun r => { r with latched := some 1#16 }

/-- A finding of station 1 on pair 0. -/
def finding (echo : Bool) : ContextEvent :=
  .finding { pair := 0, view := .trunk, station := 1, round := 8, echo := echo, step := none, stray := none }

/-- What a command of the context comes to: the states and claims of the cases, the claims, the context's step. -/
def outcome (s : State) (e : ContextEvent) : List (CaseState × Option Nat) × List Claim × Option ContextStep :=
  ((s.tell 1 e).arbiter.cases.map fun c => (c.state, c.claim), (s.tell 1 e).claims, ((s.tell 1 e).context 1).map (·.step))

/-- VERIFY: no cause holds; LOST holds, its claim made; its claim held by another, waited for. -/
theorem test_verify :
    outcome (inStep .verify none) (finding true) = ([(.held .unconfirmed, none)], [], none) ∧
    outcome (inStep .verify none) (finding false) = ([(.active, some 0)], [⟨0, 1, .one 0, .auto 1⟩], some .act) ∧
    outcome ((inStep .verify none).setClaims [⟨0, 1, .all, .operator⟩]) (finding false) =
      ([(.active, none)], [⟨0, 1, .all, .operator⟩], some .claim) ∧
    (inStep .verify none).caseLaw = true ∧ (inStep .verify none).stackLaw = true ∧
    (inStep .verify none).geometryLaw = true ∧ (inStep .verify none).partsLaw = true ∧
    (inStep .verify none).claimLaw = true := by decide

/-- ACT: the commanded state and another, a NAK, a failure. -/
theorem test_act :
    outcome (inStep .act (some .spare)) (.ack (.repeater .spare)) = ([(.active, none)], [], some .confirm) ∧
    outcome (inStep .act (some .spare)) (.ack (.repeater .limit)) = ([(.held .refused, none)], [], none) ∧
    outcome (inStep .act (some .cut)) (.ack (.branching .cut .trunk)) = ([(.held .isolated, none)], [], none) ∧
    outcome (inStep .act (some .spare)) (.nak .noSpare (.repeater .inLine)) = ([(.held .refused, none)], [], none) ∧
    outcome (inStep .act (some .spare)) .failed = ([(.held .failed, none)], [], none) :=
  ⟨by decide, by decide, by decide, by decide, by decide⟩

/-- CONFIRM: LOST holds or not. -/
theorem test_confirm :
    outcome (inStep .confirm (some .spare)) (finding false) = ([(.held .ineffective, none)], [], none) ∧
    outcome (inStep .confirm (some .spare)) (.statusReply 0#16 (.repeater .inLine)) = ([(.held .isolated, none)], [], none) := by
  decide

/-- The hypotheses of those clauses. -/
theorem test_witness_context :
    Works (inStep .verify none) (case1 .active) { Context.occupied (case1 .active) with step := .verify, chosen := none } ∧
    (inStep .verify none).stillHolds (case1 .active) (station 1 .repeater .trunk 500) (finding false) ∧
    ¬(inStep .verify none).stillHolds (case1 .active) (station 1 .repeater .trunk 500) (finding true) ∧
    decides Policy.default.levelMap (case1 .active).evidence .lost ∧
    line.commandsBy .spare (station 1 .repeater .trunk 500) .spare (station 1 .repeater .trunk 500) ∧
    commanded .spare (.repeater .spare) ∧ ¬commanded .spare (.repeater .limit) ∧
    line.lowestFree 0 ∧ ¬(⟨0, 2, .all, .operator⟩ : Claim).on 1 0 := by
  refine ⟨⟨by decide, by decide, by decide, by decide⟩, .inr (.inl ⟨by decide, rfl⟩), ?_, ⟨by decide, ?_⟩,
    .inl ⟨rfl, rfl, rfl, rfl⟩, .inl ⟨rfl, rfl⟩, by simp [commanded], ⟨by decide, by decide, by omega⟩, by simp [Claim.on]⟩
  · simp [State.stillHolds, case1, Evidence.none, finding]
  · intro d
    cases d <;> decide

/-- Case 1 waits for its claim; its scope has become free, or another claim still covers it. -/
theorem test_waiting_context_asks_again :
    (let s := (inStep .claim (some .spare)).updateContext 1 fun c => { c with phase := .claimWait, timer := some 10 }
     s.announce.claims = [⟨0, 1, .one 0, .auto 1⟩] ∧
     (s.announce.context 1).map (fun c => (c.step, c.phase, c.timer)) = some (.act, .sent, none) ∧
     ((s.setClaims [⟨0, 1, .all, .operator⟩]).announce.context 1).map (fun c => (c.phase, c.tries, c.timer)) =
       some (.claimWait, 1, some 10)) := by decide

/-- A context that starts after CUT: the unit of the claim is CUT or it is not. -/
theorem test_context_starts_after_cut :
    (let s := line.setClaims [⟨2, 2, .one 0, .auto 1⟩]
     let k : Case := { case1 .active with actionTaken := some .cut, claim := some 2 }
     s.claimLaw = true ∧ (s.startContext k).2 = some .ineffective ∧
     ((s.updatePart 2 0 fun q => { q with connection := some .cut }).startContext k).2 = some .isolated) := by decide

/-- An event that reaches a suspended context is recorded, and an ACK of the commanded state is the action taken. -/
theorem test_suspended_context_records :
    (let s := (inStep .act (some .spare)).setArbiter { (inStep .act (some .spare)).arbiter with stack := [2, 1] }
     s.arbiter.stack.head? ≠ some 1 ∧
     ((s.tell 1 (.ack (.repeater .spare))).context 1).map (·.recorded) = some (some (.ack (.repeater .spare))) ∧
     (s.tell 1 (.ack (.repeater .spare))).arbiter.cases.map (·.actionTaken) = [some .spare] ∧
     (s.tell 1 .failed).arbiter = s.arbiter) := by decide

/-- A check of a case with LOST asks for a round; one with SILENT alone sends a STATUS. -/
theorem test_start_of_check :
    (((inStep .act none).startCheck (case1 .active) .confirm).1.sc 0).focused = some ⟨.trunk, 1, 1, false⟩ ∧
    (((inStep .act none).startCheck { case1 .active with evidence := Evidence.none.add (.silent .cut) } .verify).1.tc 0).queue =
      [⟨1, .status, .context 1⟩] ∧
    ((inStep .act none).sc 0).state = .running ∧ ((inStep .act none).sc 0).role = .driving := by decide

/-! ### Plans, steering and grants -/

/-- Pair 0 DRIVING in WAITING, unit 2 at a side, so many dwell counts. -/
def planning (v : View) (side : Steering) (dwell : Nat) : State :=
  (inRole .driving).setSc 0 { (inRole .driving).sc 0 with
    state := .steering, rotation := v, roundView := some v, roundKind := some .regular, dwellCount := dwell,
    steering := [(2, side)], lastView := some .trunk }

/-- The pair's state, view and dwell count with what it has queued. -/
def planned (s : State) : SurveyState × Option View × Nat × List Telegram :=
  ((s.sc 0).state, (s.sc 0).roundView, (s.sc 0).dwellCount, (s.tc 0).queue)

/-- The rotation stays; it moves to the branch view, whose unit is steered; it moves on past it to the trunk. -/
theorem test_plan :
    planned ((planning .trunk .trunk 3).plan 0).1 = (.running, some .trunk, 3, []) ∧
    planned ((planning .trunk .trunk 4).plan 0).1 = (.steering, some (.branch .b1), 0, [⟨2, .steerBranch, .survey⟩]) ∧
    planned ((planning (.branch .b1) .branch 4).plan 0).1 = (.steering, some .trunk, 0, [⟨2, .steerTrunk, .survey⟩]) ∧
    planned ((planning .trunk .unknown 4).plan 0).1 = (.steering, some .trunk, 0, [⟨2, .steerTrunk, .survey⟩]) := by decide

/-- Steering has ended: unit 2 stands at BRANCH, or the view is left. -/
theorem test_steering_ended :
    planned ((planning (.branch .b1) .branch 2).steerEnded 0).1 = (.running, some (.branch .b1), 2, []) ∧
    planned ((planning (.branch .b1) .unknown 2).steerEnded 0).1 = (.steering, some .trunk, 0, [⟨2, .steerTrunk, .survey⟩]) ∧
    (planning (.branch .b1) .branch 2).steersInFlight 0 = [] ∧ (planning (.branch .b1) .branch 2).geometryLaw = true ∧
    (planning (.branch .b1) .branch 2).partsLaw = true ∧ ((planning (.branch .b1) .branch 2).sc 0).planStale = false ∧
    ((planning (.branch .b1) .branch 2).sc 0).focused = none := by decide

/-- A FOCUSED request before the others; then rotating order from the last-granted pair; none left. -/
theorem test_grants :
    (let s := (planning .trunk .trunk 0).setPool { CorrelatorPool.fresh with
       presented := [(0, .regular), (2, .regular), (5, .focused)], lastGranted := 0 }
     s.grantOne.pool.presented = [(0, .regular), (2, .regular)] ∧ s.grantOne.pool.lastGranted = 0 ∧
     s.grantOne.grantOne.pool.presented = [(0, .regular)] ∧ s.grantOne.grantOne.pool.lastGranted = 2 ∧
     s.grantAll.pool.presented = [] ∧ s.pool.correlators.get 0 = .free) := by decide

/-- Unit 2 at UNKNOWN shadows station 3 of its branch on the trunk's far side: a trunk station beyond it is not seen. -/
theorem test_round_definition :
    (let s := (planning .trunk .unknown 0).setTable { line.table with
       stations := line.table.stations ++ [station 4 .repeater .trunk 3000], index := ⟨[1, 2, 4], [3], [], []⟩ }
     s.geometryLaw = true ∧ (s.roundDefinition 0).visible.map (·.number) = [1, 2] ∧
     (s.roundDefinition 0).shadowed.map (·.number) = [4] ∧ (s.roundDefinition 0).listenSpan = 3108 ∧
     (s.roundDefinition 0).strayLimit = some 1008 ∧ (s.roundDefinition 0).bursts = 16 ∧
     (s.sc 0).roundView = some .trunk ∧ (s.sc 0).roundKind = some .regular) := by decide

/-- The view, the unit and the rotation of the plan: the hypotheses of its clauses. -/
theorem test_witness_plan :
    (planning .trunk .unknown 0).shades 0 .trunk (station 2 (.branching .b1) .trunk 1000) ∧
    (planning .trunk .trunk 0).viewAvailable 0 (.branch .b1) ∧
    (planning .trunk .trunk 4).rotationMoves 0 .trunk (.branch .b1) ∧
    (planning .trunk .unknown 4).steersTrunk 0 .trunk True (station 2 (.branching .b1) .trunk 1000) ∧
    (planning .trunk .trunk 4).steersBranch 0 (.branch .b1) (station 2 (.branching .b1) .trunk 1000) := by
  have unit : (PairPart.fresh (.branching .b1) 0).pair = 0 ∧
      (PairPart.fresh (.branching .b1) 0).connection = some .connected := by decide
  exact ⟨⟨by decide, rfl, fun b h => (by cases h), .inl rfl⟩,
    ⟨by decide, station 2 (.branching .b1) .trunk 1000, by decide, rfl, ⟨_, by decide, unit⟩, .inl rfl⟩,
    ⟨[], [.branch .b2, .branch .b3, .trunk], rfl, fun u h => (by cases h),
      ⟨by decide, station 2 (.branching .b1) .trunk 1000, by decide, rfl, ⟨_, by decide, unit⟩, .inl rfl⟩⟩,
    ⟨by decide, rfl, .inr ⟨rfl, trivial, rfl⟩⟩, ⟨by decide, .b1, rfl, rfl, rfl⟩⟩

/-! ### Focused requests -/

/-- A focused request for a station in a view, of level 1. -/
def focus (v : View) (n : Nat) (taken : Bool) : FocusedRequest := ⟨v, n, 1, taken⟩

/-- The pair of a planning state with a focused request and a survey state. -/
def focused (s : State) (f : FocusedRequest) (st : SurveyState) : State := s.setSc 0 { s.sc 0 with focused := some f, state := st }

/-- What a focused request comes to: the pair, with the kind of its round, and the level to be told. -/
def focusedOutcome (w : State × Option Level) : (SurveyState × Option View × Nat × List Telegram) × Option RoundKind × Option Level :=
  (planned w.1, (w.1.sc 0).roundKind, w.2)

/-- At a boundary: station 3 of branch 1 with its unit at TRUNK, steered for; at BRANCH, granted; station 9, refused. -/
theorem test_focused_request_at_boundary :
    focusedOutcome ((focused (planning .trunk .trunk 1) (focus (.branch .b1) 3 false) .result).plan 0) =
      ((.steering, some (.branch .b1), 1, [⟨2, .steerBranch, .survey⟩]), some .focused, none) ∧
    focusedOutcome ((focused (planning .trunk .branch 1) (focus (.branch .b1) 3 false) .result).plan 0) =
      ((.running, some (.branch .b1), 1, []), some .focused, none) ∧
    focusedOutcome ((focused (planning .trunk .trunk 1) (focus (.branch .b1) 9 false) .result).plan 0) =
      ((.running, some .trunk, 1, []), some .regular, some 1) :=
  ⟨by decide, by decide, by decide⟩

/-- The steering of a taken request has ended: unit 2 at BRANCH, not at BRANCH, and a plan that no longer stands. -/
theorem test_focused_steering_ended :
    (let s := fun side stale => (focused (planning .trunk side 1) (focus (.branch .b1) 3 true) .steering).setSc 0
       { (focused (planning .trunk side 1) (focus (.branch .b1) 3 true) .steering).sc 0 with
         roundView := some (.branch .b1), roundKind := some .focused, planStale := stale }
     focusedOutcome ((s .branch false).steerEnded 0) = ((.running, some (.branch .b1), 1, []), some .focused, none) ∧
     focusedOutcome ((s .trunk false).steerEnded 0) = ((.running, some .trunk, 1, []), some .regular, some 1) ∧
     focusedOutcome ((s .trunk true).steerEnded 0) =
       ((.steering, some (.branch .b1), 1, [⟨2, .steerBranch, .survey⟩]), some .focused, none) ∧
     (s .trunk true).steersInFlight 0 = [] ∧ (s .trunk true).geometryLaw = true ∧ (s .trunk true).partsLaw = true) :=
  ⟨by decide, by decide, by decide, by decide, by decide, by decide⟩

/-- A request arrives in WAITING, in STEERING and in RUNNING; refused in STEERING; on a pair that does not drive. -/
theorem test_focused_request_arrives :
    (let s := fun st => (planning .trunk .branch 1).setSc 0 { (planning .trunk .branch 1).sc 0 with state := st }
     let f := focus (.branch .b1) 3 false
     ((s .waiting).requestFocus 0 f).2 = none ∧ (((s .waiting).requestFocus 0 f).1.sc 0).state = .running ∧
     (s .steering).requestFocus 0 f = ((s .steering).focusedOn 0 f .steering true, none) ∧
     ((s .steering).requestFocus 0 (focus .trunk 9 false)).2 = some .unreachable ∧
     ((((s .running).requestFocus 0 f).1).sc 0).focused = some f ∧
     line.requestFocus 0 f = (line, some .interrupted)) := by decide

/-- A request withdrawn in WAITING, in STEERING and in RUNNING; one of another level stands. -/
theorem test_focused_request_withdrawn :
    (let s := fun st => focused (planning .trunk .trunk 1) (focus .trunk 1 true) st
     planned ((s .waiting).withdrawFocus 0 1) = (.running, some .trunk, 1, []) ∧
     (((s .steering).withdrawFocus 0 1).sc 0).planStale = true ∧
     (s .running).withdrawFocus 0 1 = (s .running).unfocused 0 ∧ (s .running).withdrawFocus 0 2 = s .running ∧
     ((s .waiting).sc 0).role = .driving) := by decide

/-- The two tests of R43: station 3 of branch 1 passes the first with its unit at TRUNK and the second at BRANCH. -/
theorem test_witness_focus :
    (planning .trunk .trunk 1).admits 0 (focus (.branch .b1) 3 false) ∧
    ¬(planning .trunk .trunk 1).sees 0 (focus (.branch .b1) 3 true) ∧
    (planning .trunk .branch 1).turnedTo 0 (.branch .b1) := by
  have unit : (PairPart.fresh (.branching .b1) 0).pair = 0 ∧
      (PairPart.fresh (.branching .b1) 0).connection = some .connected := by decide
  have atTrunk : ∀ u ∈ (planning .trunk .trunk 1).table.stations, u.kind = .branching .b1 →
      ¬((planning .trunk .trunk 1).sc 0).steeringOf u.number = some .branch := by decide
  refine ⟨⟨⟨by decide, station 2 (.branching .b1) .trunk 1000, by decide, rfl, ⟨_, by decide, unit⟩, .inl rfl⟩,
    station 3 .repeater (.branch .b1) 2000, ⟨by decide, .inl rfl⟩, rfl, fun h => by cases h.1⟩, ?_, ?_⟩
  · rintro ⟨h, _⟩
    obtain ⟨u, hu, hk, hs⟩ := h .b1 rfl
    exact atTrunk u hu hk hs
  · intro b hb
    cases hb
    exact ⟨station 2 (.branching .b1) .trunk 1000, by decide, rfl, rfl⟩

/-! ### Resumption, and what reaches a suspended context -/

/-- The context of case 1 in VERIFY, in a phase, with an event recorded. -/
def resuming (ph : ContextPhase) (e : Option ContextEvent) : State :=
  (inStep .verify (some .spare)).updateContext 1 fun c => { c with phase := ph, recorded := e }

/-- A recorded finding is taken; without one the request is made again, the claim asked for again, the round awaited. -/
theorem test_resumption :
    (conclude (resuming .measuring (some (finding true))).resume).arbiter.cases.map (·.state) = [.held .unconfirmed] ∧
    ((resuming .asked none).resume.1.sc 0).focused = some ⟨.trunk, 1, 1, false⟩ ∧
    (conclude (resuming .claimWait none).resume).claims = [⟨0, 1, .one 0, .auto 1⟩] ∧
    (resuming .sent none).resume = (resuming .sent none, none) := by
  exact ⟨by decide, by decide, by decide, by decide⟩

theorem test_witness_resumption :
    Works (resuming .asked none) (case1 .active) ({ Context.occupied (case1 .active) with chosen := some .spare }) ∧
    (resuming .asked none).caseLaw = true ∧ (resuming .asked none).stackLaw = true ∧
    (resuming .asked none).arbiter.stack ≠ [] := ⟨⟨by decide, by decide, by decide, by decide⟩, by decide, by decide, by decide⟩

/-- A context's telegram fails: suspended, it records FAILED; the exchange has ended. -/
theorem test_failure_reaches_suspended_context :
    (let t : Telegram := ⟨1, .status, .context 1⟩
     let s := (resuming .sent none).setTc 0 ((sentTo1 t 2).tc 0)
     let s := s.setArbiter { s.arbiter with stack := [2, 1] }
     after (.replyTimerExpiry 0) s (fun t => ((t.context 1).map (·.recorded), (t.tc 0).outstanding)) =
       some (some (some .failed), none) ∧ (s.sc 0).focused = none) := by decide

/-- A focused result of station 1 for level 1, in force or void, at the head of the queue. -/
def focusedResult (generation : Nat) (stack : List Nat) : State :=
  ((resuming .measuring none).setArbiter { (resuming .measuring none).arbiter with stack := stack }).setPool
    { (withResult 0).pool with
      queue := [{ result generation with kind := .focused, focus := some (1, 1), stray := none }] }

/-- The finding recorded by a suspended context; a void result's request taken anew, or dropped with its context
suspended. -/
theorem test_focused_results :
    after .takeResult (focusedResult 0 [2, 1]) (fun t => ((t.context 1).bind (·.recorded)).isSome) = some true ∧
    after .takeResult (focusedResult 1 [1]) (fun t => ((t.context 1).map (·.phase), (t.sc 0).roundKind)) =
      some (some .asked, some .focused) ∧
    after .takeResult (focusedResult 1 [2, 1]) (fun t => ((t.context 1).map (·.phase), (t.sc 0).roundKind)) =
      some (some .asked, some .regular) ∧
    ((focusedResult 0 [2, 1]).sc 0).focused = none ∧ (focusedResult 0 [2, 1]).arbiter.stack.head? ≠ some 1 := by decide

/-- A second burst adds to the level that stands, and places the level of a new delay. -/
theorem test_levels_add : ((runOf 2).hear [(400, -500), (500, -310), (9000, -1)]).train =
    [(400, -500), (500, Config.accumulatedLevel (-300) (-310))] := rfl

/-- An echo entry that opens a case at K, and the deviation carried on; a captured stray peak's case and neighbours. -/
theorem test_assessment_finds_cases :
    (let s := line.updatePart 1 0 fun q => { q with baseline := some (-300), confirm := 2 }
     let w := State.workEntry 0 9 (s, some 4) ⟨1, some (-330, 0)⟩
     w.2 = some (-30) ∧ w.1.arbiter.cases.map (·.evidence.step) = [some (-34)] ∧
     (w.1.part? 1 0).map (·.health) = some .suspect) ∧
    after .takeResult (withResult 0) (fun t => (t.arbiter.cases.map fun c => (c.station, c.evidence.stray),
        t.strays.p0.held.map fun h => (h.preceding, h.following))) =
      some ([(1, some (700, -200))], some (some 1, none)) := by decide

/-! ### The checks of requests: a refused and an accepted request for each list -/

theorem test_line_is_quiet : (∀ p, (line.tc p).outstanding = none ∧ (line.tc p).queue = [] ∧ (line.tc p).waitLine = []) ∧
    (∀ p, (State.reset.sc p).role = .off) ∧ State.reset.table.stations = [] ∧ line.arbiter.cases = [] ∧ line.claims = [] := by
  decide

theorem test_witness_setline :
    FirstApplies (line.setlineChecks ⟨some 2, none, none, none, none, none, none, none⟩) .range ∧
    FirstApplies (line.setlineChecks ⟨some 1, none, none, none, none, none, none, none⟩) .state ∧
    NoneApplies (State.reset.setlineChecks ⟨some 1, none, none, none, none, none, none, some 60⟩) := by
  simp [FirstApplies, NoneApplies, State.setlineChecks, test_line_is_quiet]
  decide

theorem test_witness_settings : setpairOutside ⟨8, none, none, none, none, none, none⟩ ∧
    ¬setpairOutside ⟨7, some 64, some 1, some 200, some 8, some (-300), some (-600)⟩ ∧
    policyOutside ⟨[(5, 0)], [], [], []⟩ ∧ ¬policyOutside ⟨[(4, 7)], [(0, 3)], [(7, 1)], [(0, 0)]⟩ := by
  simp [setpairOutside, policyOutside]

theorem test_witness_amend :
    FirstApplies (line.amendChecks (station 1 .repeater .trunk 500) ⟨1, some 3, none, none, none, none, none, []⟩) .duplicate ∧
    NoneApplies (line.amendChecks (station 1 .repeater .trunk 500) ⟨1, some 9, none, none, some 2, none, none, [(0, 0)]⟩) := by
  simp only [FirstApplies, NoneApplies, State.amendChecks, State.outstandingTo, State.caseInService, test_line_is_quiet]
  simp [line, station, PairPart.fresh]
  refine ⟨⟨_, rfl, .inr (.inr rfl), by decide⟩, ?_⟩
  rintro x h (rfl | rfl | rfl) <;> simp_all

theorem test_witness_retire :
    FirstApplies (line.retireChecks (station 2 (.branching .b1) .trunk 1000)) .state ∧
    NoneApplies (line.retireChecks (station 1 .repeater .trunk 500)) := by
  simp only [FirstApplies, NoneApplies, State.retireChecks, State.outstandingTo, State.caseInService, test_line_is_quiet]
  simp [line, station]

theorem test_witness_rebase : FirstApplies (line.rebaseChecks 1 7) .notFound ∧ NoneApplies (line.rebaseChecks 65535 255) := by
  simp [FirstApplies, NoneApplies, State.rebaseChecks, line, station, PairPart.fresh]

theorem test_witness_shift : FirstApplies (line.shiftChecks 0 600 (-484)) .overlap ∧ NoneApplies (line.shiftChecks 0 600 (-483)) := by
  simp [FirstApplies, NoneApplies, State.shiftChecks, State.moved, State.movesTo, line, station, Segment.number, Branch.number]

theorem test_witness_role : FirstApplies (line.roleChecks 0 3) .range ∧
    FirstApplies ((line.flagContention 0).roleChecks 0 1) .contended ∧ NoneApplies (line.roleChecks 0 0) := by
  refine ⟨.inl ⟨by decide, rfl⟩, .inr ⟨by decide, .inr ⟨?_, .inl ⟨⟨rfl, 0, rfl, by decide⟩, rfl⟩⟩⟩, ?_⟩
  · rintro ⟨_, q, hq, h⟩
    rw [show q = 0 from Fin.ext hq] at h
    revert h
    decide
  · simp [NoneApplies, State.roleChecks]

theorem test_witness_close : FirstApplies ((withCase .active [1]).closeChecks 1) .busy ∧
    NoneApplies ((withCase .pending []).closeChecks 1) := by
  simp [FirstApplies, NoneApplies, State.closeChecks, withCase, case1, State.setArbiter]

theorem test_witness_take_drop : FirstApplies (line.takeChecks 1 7) .range ∧ NoneApplies (claimed.takeChecks 1 255) ∧
    FirstApplies (claimed.dropChecks 15) .notFound ∧ NoneApplies (claimed.dropChecks 0) ∧
    claimMeets 1 255 ⟨0, 1, .one 0, .operator⟩ := by
  simp [FirstApplies, NoneApplies, State.takeChecks, State.dropChecks, claimMeets, claimed, inRole, line, station, PairPart.fresh, State.setClaims, State.setSc, State.setSurvey]

theorem test_witness_operator_refused : FirstApplies (claimed.operatorChecks 1 0 .cut) .range ∧
   FirstApplies (claimed.operatorChecks 3 0 .restore) .noClaim := by
  simp [FirstApplies, State.operatorChecks, claimed, inRole, line, station, PairPart.fresh, State.setClaims, State.setSc, State.setSurvey, actsOn]

/-- The frame of no request: the bytes 200, 0. -/
theorem test_witness_no_frame (i : Instr) : encodeFrame i ≠ [200#8, 0#8] := by
  intro h
  have h2 := congrArg List.length h
  unfold encodeFrame at h2
  split at h2
  · simp at h2
  · simp [withCheck, put1, put2] at h2

end Sys2Proof.Tests
end

section
/-! PROOFS. The station table's lookups and the refusals of RETIRE: O14, O15, O16 and O21.

The lookups search a list that is sorted by the key they compare. So the two searches in a sorted list, `find?` for
the least key above a bound and `getLast?` of a filter for the greatest key below it, are treated once, for any list
that holds the stations meeting a condition; each lookup then names its list and its key. -/

namespace Sys2Proof.Machine

/-! ### Operands -/

theorem addressOk_iff {a : Nat} : addressOk a = true ↔ 1 ≤ a ∧ a ≤ 4095 := by simp [addressOk, inRange]

theorem stationOk_iff {n : Nat} : stationOk n = true ↔ n ≤ 255 := by simp [stationOk, inRange]

@[simp] theorem readSegment_number (g : Segment) : readSegment g.number.val = some g := by
  cases g with
  | trunk => rfl
  | branch b => cases b <;> rfl

theorem readSegment_above {n : Nat} (h : 3 < n) : readSegment n = none := by
  obtain ⟨m, rfl⟩ : ∃ m, n = m + 4 := ⟨n - 4, by omega⟩
  rfl

/-- Every number up to 3 is that of a segment. -/
theorem exists_segment_number {n : Nat} (h : n ≤ 3) : ∃ g : Segment, g.number.val = n :=
  match n, h with
  | 0, _ => ⟨.trunk, rfl⟩
  | 1, _ => ⟨.branch .b1, rfl⟩
  | 2, _ => ⟨.branch .b2, rfl⟩
  | 3, _ => ⟨.branch .b3, rfl⟩

/-- A segment's number names it. -/
theorem segment_number_inj {g k : Segment} : g.number.val = k.number.val ↔ g = k := by
  refine ⟨fun h => ?_, fun h => h ▸ rfl⟩
  have e := readSegment_number g
  rw [h, readSegment_number] at e
  exact (Option.some.inj e).symm

/-! ### Searches in a sorted list of stations -/

/-- In a list of the stations that meet a condition, sorted by a key, the first one above a bound has the least
key above it. -/
theorem isLeastAbove_find {s : State} {key : Station → Nat} {among : Station → Prop} {l : List Station}
    (mem : ∀ r, r ∈ l ↔ r ∈ s.table.stations ∧ among r) (sorted : l.Pairwise fun r q => key r < key q) (bound : Nat) :
    s.isLeastAbove key among bound ((l.find? fun r => decide (bound < key r)).map s.view) := by
  cases e : l.find? fun r => decide (bound < key r) with
  | none =>
    intro q hq ha
    simpa using List.find?_eq_none.mp e q ((mem q).mpr ⟨hq, ha⟩)
  | some v =>
    obtain ⟨hv, before, after, rfl, skipped⟩ := List.find?_eq_some_iff_append.mp e
    obtain ⟨hmem, hamong⟩ := (mem v).mp (by simp)
    refine ⟨hmem, hamong, of_decide_eq_true hv, rfl, fun q hq ha above => ?_⟩
    rcases List.mem_append.mp ((mem q).mpr ⟨hq, ha⟩) with hb | hb
    · exact absurd above (by simpa using skipped q hb)
    · rcases List.mem_cons.mp hb with rfl | hb
      · exact Nat.le_refl _
      · exact Nat.le_of_lt ((List.pairwise_cons.mp (List.pairwise_append.mp sorted).2.1).1 q hb)

/-- In a list of the stations that meet a condition, sorted by a key, the last one below a bound has the greatest
key below it. -/
theorem isGreatestBelow_getLast {s : State} {key : Station → Nat} {among : Station → Prop} {l : List Station}
    (mem : ∀ r, r ∈ l ↔ r ∈ s.table.stations ∧ among r) (sorted : l.Pairwise fun r q => key r < key q) (bound : Nat) :
    s.isGreatestBelow key among bound (((l.filter fun r => decide (key r < bound)).getLast?).map s.view) := by
  have below (q : Station) : q ∈ l.filter (fun r => decide (key r < bound)) ↔
      (q ∈ s.table.stations ∧ among q) ∧ key q < bound := by simp [mem]
  cases e : (l.filter fun r => decide (key r < bound)).getLast? with
  | none =>
    intro q hq ha
    rw [List.getLast?_eq_none_iff.mp e] at below
    exact Nat.le_of_not_lt fun hlt => List.not_mem_nil ((below q).mpr ⟨⟨hq, ha⟩, hlt⟩)
  | some v =>
    obtain ⟨init, ends⟩ := List.getLast?_eq_some_iff.mp e
    have sortedBelow := sorted.filter fun r => decide (key r < bound)
    rw [ends] at below sortedBelow
    obtain ⟨⟨hmem, hamong⟩, hv⟩ := (below v).mp (by simp)
    refine ⟨hmem, hamong, hv, rfl, fun q hq ha hlt => ?_⟩
    rcases List.mem_append.mp ((below q).mpr ⟨⟨hq, ha⟩, hlt⟩) with hi | hi
    · exact Nat.le_of_lt ((List.pairwise_append.mp sortedBelow).2.2 q hi v (by simp))
    · exact Nat.le_of_eq (congrArg key (List.mem_singleton.mp hi))

/-- The table's records are in strictly increasing station number. -/
theorem stations_sorted {s : State} (h : s.keyLaw = true) :
    s.table.stations.Pairwise fun r q => r.number < q.number :=
  List.pairwise_map.mp ((rising_iff _).mp (keyLaw_rising h))

/-! ### FIND BY NUMBER and FIND BY ADDRESS -/

theorem performFindByNumber_of_mem {s : State} (h : s.keyLaw = true) {r : Station} (hr : r ∈ s.table.stations) :
    performFindByNumber r.number s = s.ok (.station (s.view r)) := by
  simp [performFindByNumber, station?_of_mem h hr]

theorem performFindByNumber_absent {s : State} {n : Nat} (h : ∀ r ∈ s.table.stations, r.number ≠ n) :
    performFindByNumber n s = s.refuse .notFound := by
  simp [performFindByNumber, station?_none.mpr h]

theorem performFindByAddress_of_mem {s : State} (h : s.keyLaw = true) {r : Station} (hr : r ∈ s.table.stations)
    (lo : 1 ≤ r.address) (hi : r.address ≤ 4095) :
    performFindByAddress r.address s = s.ok (.station (s.view r)) := by
  simp [performFindByAddress, addressOk_iff.mpr ⟨lo, hi⟩, byAddress?_of_mem h hr]

theorem performFindByAddress_absent {s : State} {a : Nat} (lo : 1 ≤ a) (hi : a ≤ 4095)
    (h : ∀ r ∈ s.table.stations, r.address ≠ a) : performFindByAddress a s = s.refuse .notFound := by
  simp [performFindByAddress, addressOk_iff.mpr ⟨lo, hi⟩, byAddress?_none.mpr h]

theorem performFindByAddress_outside {s : State} {a : Nat} (h : a < 1 ∨ 4095 < a) :
    performFindByAddress a s = s.refuse .range :=
  if_neg fun ok => by have := addressOk_iff.mp ok; omega

/-- Settles O14: under the keys' law a key finds exactly the record that carries it. -/
theorem findByKeyReturnsRecord : Obligations.FindByKeyReturnsRecord := by
  intro s idle law
  refine ⟨fun r hr => ⟨?_, fun lo hi => ?_⟩, fun n absent => ?_, fun a outside => ?_, fun a lo hi absent => ?_⟩
  · exact answers_of_eq rfl idle (performFindByNumber_of_mem law hr)
  · exact answers_of_eq rfl idle (performFindByAddress_of_mem law hr lo hi)
  · exact refuses_of_eq rfl idle (performFindByNumber_absent absent)
  · exact refuses_of_eq rfl idle (performFindByAddress_outside outside)
  · exact refuses_of_eq rfl idle (performFindByAddress_absent lo hi absent)

/-! ### FIND BY DELAY -/

theorem Station.holds_iff {r : Station} {d : Nat} :
    r.holds d = true ↔ r.delay ≤ d + r.window ∧ d ≤ r.delay + r.window := by simp [Station.holds]

/-- Two stations of one segment whose windows hold one delay are the same: windows do not overlap (R6). -/
theorem holder_unique {s : State} (law : s.geometryLaw = true) {r q : Station} (hr : r ∈ s.table.stations)
    (hq : q ∈ s.table.stations) (seg : r.segment = q.segment) {d : Nat} (hrd : r.holds d = true)
    (hqd : q.holds d = true) : r = q := by
  have o := (geometry_parts law).2.2
  simp only [State.overlapLaw, Bool.and_eq_true] at o
  have apart := (noTwo_iff _ _).mp o.1.1.1
  rw [Station.holds_iff] at hrd hqd
  by_contra ne
  rcases pairwise_either apart hr hq ne with h | h <;>
    simp only [seg, beq_self_eq_true, Bool.true_and, overlapping, Bool.and_eq_false_iff, decide_eq_false_iff_not] at h <;>
    omega

theorem performFindByDelay_outside {s : State} {g d : Nat} (h : 3 < g ∨ 150050 < d) :
    performFindByDelay g d s = s.refuse .range := by
  unfold performFindByDelay
  split
  next seg e =>
    have hd : 150050 < d := h.resolve_left fun hg => by simp [readSegment_above hg] at e
    exact if_neg (Nat.not_le.mpr hd)
  next => rfl

theorem performFindByDelay_segment {s : State} {d : Nat} (g : Segment) (h : d ≤ 150050) :
    performFindByDelay g.number.val d s = s.findDelay g d := by simp [performFindByDelay, h]

theorem findDelay_empty {s : State} (law : s.geometryLaw = true) {g : Segment} {d : Nat}
    (h : ∀ r ∈ s.table.stations, r.segment ≠ g) : s.findDelay g d = s.refuse .notFound := by
  have noStation : s.segmentStations g = [] :=
    List.eq_nil_iff_forall_not_mem.mpr fun r hr =>
      have ⟨hmem, hseg⟩ := (mem_segmentStations law).mp hr
      h r hmem hseg
  simp [State.findDelay, noStation]

theorem segmentStations_isEmpty_of_mem {s : State} (law : s.geometryLaw = true) {r : Station}
    (hr : r ∈ s.table.stations) : (s.segmentStations r.segment).isEmpty = false :=
  List.isEmpty_eq_false_iff_exists_mem.mpr ⟨r, (mem_segmentStations law).mpr ⟨hr, rfl⟩⟩

/-- A delay within a station's window finds that station. -/
theorem findDelay_held {s : State} (law : s.geometryLaw = true) {r : Station} (hr : r ∈ s.table.stations) {d : Nat}
    (hd : r.holds d = true) : s.findDelay r.segment d = s.ok (.stationAtDelay (s.view r)) := by
  have hmem : r ∈ s.segmentStations r.segment := (mem_segmentStations law).mpr ⟨hr, rfl⟩
  have found : (s.segmentStations r.segment).find? (·.holds d) = some r := by
    cases e : (s.segmentStations r.segment).find? (·.holds d) with
    | none => exact absurd hd (List.find?_eq_none.mp e r hmem)
    | some q =>
      obtain ⟨hq, seg⟩ := (mem_segmentStations law).mp (List.mem_of_find?_eq_some e)
      have holds : q.holds d = true := by simpa using List.find?_some e
      rw [holder_unique law hq hr seg holds hd]
  simp [State.findDelay, segmentStations_isEmpty_of_mem law hr, found]

/-- A delay between the windows of a segment that has stations finds a span. -/
theorem findDelay_between {s : State} (law : s.geometryLaw = true) {g : Segment} {d : Nat}
    (stocked : ∃ r ∈ s.table.stations, r.segment = g)
    (free : ∀ r ∈ s.table.stations, r.segment = g → ¬r.holds d = true) :
    s.findDelay g d = s.ok (.span
      ((((s.segmentStations g).filter fun r => decide (r.delay < d)).getLast?).map s.view)
      (((s.segmentStations g).find? fun r => decide (d < r.delay)).map s.view)) := by
  obtain ⟨r, hr, rfl⟩ := stocked
  have unheld : (s.segmentStations r.segment).find? (·.holds d) = none :=
    List.find?_eq_none.mpr fun q hq =>
      have ⟨hmem, seg⟩ := (mem_segmentStations law).mp hq
      free q hmem seg
  simp [State.findDelay, segmentStations_isEmpty_of_mem law hr, unheld]

/-- Settles O15: windows that do not overlap make the holder unique, and the sorted Delay Index gives the
neighbours. -/
theorem findByDelayReturnsStationOrSpan : Obligations.FindByDelayReturnsStationOrSpan := by
  intro g d s idle law
  refine ⟨fun outside => refuses_of_eq rfl idle (performFindByDelay_outside outside), fun hg hd => ?_⟩
  obtain ⟨seg, rfl⟩ := exists_segment_number hg
  have perform := performFindByDelay_segment (s := s) seg hd
  simp only [ne_eq, segment_number_inj, ← Station.holds_iff]
  refine ⟨fun empty => ?_, fun r hr hseg lo hi => ?_, fun stocked free => ?_⟩
  · exact refuses_of_eq rfl idle (perform.trans (findDelay_empty law empty))
  · subst hseg
    exact answers_of_eq rfl idle (perform.trans (findDelay_held law hr (Station.holds_iff.mpr ⟨lo, hi⟩)))
  · exact ⟨_, _, answers_of_eq rfl idle (perform.trans (findDelay_between law stocked free)),
      isGreatestBelow_getLast (fun _ => mem_segmentStations law) (segmentStations_sorted law seg) d,
      isLeastAbove_find (fun _ => mem_segmentStations law) (segmentStations_sorted law seg) d⟩

/-! ### FIND NEXT -/

/-- In a list sorted by delay, the number after a member's is that of the first station with a greater delay. -/
theorem nextAfter_map_number {r : Station} : ∀ {l : List Station}, l.Pairwise (fun q p => q.delay < p.delay) →
    (∀ q ∈ l, q.number = r.number → q = r) → r ∈ l →
    nextAfter r.number (l.map (·.number)) = (l.find? fun q => decide (r.delay < q.delay)).map (·.number)
  | [], _, _, hr => by simp at hr
  | q :: rest, sorted, named, hr => by
    obtain ⟨first, sortedRest⟩ := List.pairwise_cons.mp sorted
    by_cases hq : q = r
    · subst hq
      cases rest with
      | nil => simp [nextAfter]
      | cons p rest => simp [nextAfter, first p (by simp)]
    · have hrest : r ∈ rest := (List.mem_cons.mp hr).resolve_left fun e => hq e.symm
      have other : q.number ≠ r.number := fun e => hq (named q (by simp) e)
      have ih := nextAfter_map_number sortedRest (fun p hp => named p (List.mem_cons_of_mem _ hp)) hrest
      have passed : ¬r.delay < q.delay := Nat.not_lt.mpr (Nat.le_of_lt (first r hrest))
      simpa [nextAfter, other, passed] using ih

/-- The station after an enlisted one in its Delay Index is the first with a greater delay. -/
theorem nextAfter_index {s : State} (law : s.geometryLaw = true) {r : Station} (hr : r ∈ s.table.stations) :
    (nextAfter r.number (s.index r.segment)).bind s.station? =
      (s.segmentStations r.segment).find? fun q => decide (r.delay < q.delay) := by
  obtain ⟨keys, index, _⟩ := geometry_parts law
  have numbers : (s.segmentStations r.segment).map (·.number) = s.index r.segment := by
    have i := index r.segment
    simp only [State.indexLaw, Bool.and_eq_true, beq_iff_eq] at i
    exact i.1.1.1
  have named : ∀ q ∈ s.segmentStations r.segment, q.number = r.number → q = r := fun q hq e => by
    have found := station?_of_mem keys ((mem_segmentStations law).mp hq).1
    rw [e, station?_of_mem keys hr] at found
    exact (Option.some.inj found).symm
  rw [← numbers, nextAfter_map_number (segmentStations_sorted law _) named ((mem_segmentStations law).mpr ⟨hr, rfl⟩)]
  cases e : (s.segmentStations r.segment).find? fun q => decide (r.delay < q.delay) with
  | none => rfl
  | some q => exact station?_of_mem keys ((mem_segmentStations law).mp (List.mem_of_find?_eq_some e)).1

theorem findNextNumber_start (s : State) :
    s.findNextNumber 65535 = s.ok (.nextStation (s.table.stations.head?.map s.view)) := rfl

theorem findNextNumber_of_le {s : State} {n : Nat} (h : n ≤ 255) : s.findNextNumber n =
    s.ok (.nextStation ((s.table.stations.find? fun r => decide (n < r.number)).map s.view)) := by
  have notStart : n ≠ startValue := by unfold startValue; omega
  simp [State.findNextNumber, notStart, stationOk_iff.mpr h]

theorem findNextNumber_outside {s : State} {n : Nat} (h : 255 < n) (notStart : n ≠ 65535) :
    s.findNextNumber n = s.refuse .range := by
  have bad : ¬stationOk n = true := fun ok => by have := stationOk_iff.mp ok; omega
  simp [State.findNextNumber, startValue, notStart, bad]

theorem findNextDelay_outside {s : State} {n : Nat} (h : 255 < n) : s.findNextDelay n = s.refuse .range :=
  if_neg fun ok => by have := stationOk_iff.mp ok; omega

theorem findNextDelay_absent {s : State} {n : Nat} (h : n ≤ 255) (absent : ∀ r ∈ s.table.stations, r.number ≠ n) :
    s.findNextDelay n = s.refuse .notFound := by
  simp [State.findNextDelay, stationOk_iff.mpr h, station?_none.mpr absent]

theorem number_le_of_mem {s : State} (h : s.keyLaw = true) {r : Station} (hr : r ∈ s.table.stations) :
    r.number ≤ 255 := by
  simp only [State.keyLaw, Bool.and_eq_true] at h
  have := List.all_eq_true.mp h.1.2 r hr
  simp only [decide_eq_true_eq] at this
  omega

theorem findNextDelay_of_mem {s : State} (law : s.geometryLaw = true) {r : Station} (hr : r ∈ s.table.stations) :
    s.findNextDelay r.number = s.ok (.nextStation
      (((s.segmentStations r.segment).find? fun q => decide (r.delay < q.delay)).map s.view)) := by
  have keys := (geometry_parts law).1
  simp [State.findNextDelay, stationOk_iff.mpr (number_le_of_mem keys hr), station?_of_mem keys hr,
    nextAfter_index law hr]

theorem performFindNext_otherOrder {s : State} {order start : Nat} (h : 1 < order) :
    performFindNext order start s = s.refuse .range := by
  obtain ⟨m, rfl⟩ : ∃ m, order = m + 2 := ⟨order - 2, by omega⟩
  rfl

/-- The lowest station of all is the least one above no number. -/
theorem isLeastAbove_head {s : State} (h : s.keyLaw = true) :
    s.isLeastAbove (fun r => r.number + 1) (fun _ => True) 0 (s.table.stations.head?.map s.view) := by
  have least := isLeastAbove_find (s := s) (key := fun r => r.number + 1) (among := fun _ => True) (by simp)
    ((stations_sorted h).imp Nat.succ_lt_succ) 0
  rwa [show (s.table.stations.find? fun r => decide (0 < r.number + 1)) = s.table.stations.head? by
    cases s.table.stations <;> simp] at least

/-- Settles O16: the table is sorted by number and each Delay Index by delay, so the first record above the start
is the successor. -/
theorem findNextReturnsSuccessor : Obligations.FindNextReturnsSuccessor := by
  intro order start s idle law
  have keys := (geometry_parts law).1
  refine ⟨?start, ?number, ?numberOutside, ?delayOutside, ?delayAbsent, ?delay, ?otherOrder⟩
  case start =>
    rintro rfl rfl
    exact ⟨_, answers_of_eq rfl idle (findNextNumber_start s), isLeastAbove_head keys⟩
  case number =>
    rintro rfl hn
    exact ⟨_, answers_of_eq rfl idle (findNextNumber_of_le hn),
      isLeastAbove_find (by simp) (stations_sorted keys) start⟩
  case numberOutside =>
    rintro rfl hn notStart
    exact refuses_of_eq rfl idle (findNextNumber_outside hn notStart)
  case delayOutside =>
    rintro rfl hn
    exact refuses_of_eq rfl idle (findNextDelay_outside hn)
  case delayAbsent =>
    rintro rfl hn absent
    exact refuses_of_eq rfl idle (findNextDelay_absent hn absent)
  case delay =>
    rintro rfl r hr rfl
    exact ⟨_, answers_of_eq rfl idle (findNextDelay_of_mem law hr),
      isLeastAbove_find (fun _ => mem_segmentStations law) (segmentStations_sorted law r.segment) r.delay⟩
  case otherOrder =>
    exact fun h => refuses_of_eq rfl idle (performFindNext_otherOrder h)

/-! ### The refusals of RETIRE -/

theorem Case.inService_iff {c : Case} : c.inService = true ↔ c.state = .active ∨ c.state = .suspended := by
  simp [Case.inService]

theorem Case.isHeld_iff {c : Case} : c.isHeld = true ↔ ∃ o, c.state = .held o := by
  unfold Case.isHeld
  split <;> simp_all

theorem Telegram.isPoll_iff {t : Telegram} : t.isPoll = true ↔ t.submitter = .sweep := by
  unfold Telegram.isPoll
  split <;> simp_all

theorem hasCase_iff {s : State} {n : Nat} {f : Case → Bool} :
    s.hasCase n f = true ↔ ∃ c ∈ s.arbiter.cases, c.station = n ∧ f c = true := by simp [State.hasCase]

theorem hasOutstanding_iff {s : State} {n : Nat} : s.hasOutstanding n = true ↔ s.outstandingTo n := by
  simp [State.hasOutstanding, State.outstandingTo, mem_allPairs, Option.any_eq_true]

theorem hasQueued_iff {s : State} {n : Nat} : s.hasQueued n = true ↔
    ∃ p, ∃ t, (t ∈ (s.tc p).queue ∨ t ∈ (s.tc p).waitLine) ∧ t.dest = n ∧ t.submitter ≠ .sweep := by
  simp only [State.hasQueued, List.any_eq_true, mem_allPairs, true_and, List.mem_append, Bool.and_eq_true, beq_iff_eq,
    Bool.not_eq_true', ne_eq, ← Telegram.isPoll_iff, Bool.not_eq_true]

theorem branchInUse_iff {s : State} (law : s.geometryLaw = true) {r : Station} : s.branchInUse r = true ↔
    ∃ b, r.kind = .branching b ∧ ∃ q ∈ s.table.stations, q.segment = .branch b := by
  cases e : r.kind with
  | repeater => simp [State.branchInUse, e]
  | branching b =>
    have empty := index_isEmpty law (.branch b)
    simp [State.branchInUse, e, ← Bool.not_eq_true, empty]

/-- RETIRE's second check is the model's test for BUSY. -/
theorem retireBusy_iff {s : State} {n : Nat} : s.retireBusy n = true ↔ s.caseInService n ∨ s.outstandingTo n ∨
    ∃ p, ∃ t, (t ∈ (s.tc p).queue ∨ t ∈ (s.tc p).waitLine) ∧ t.dest = n ∧ t.submitter ≠ .sweep := by
  simp only [State.retireBusy, Bool.or_eq_true, hasCase_iff, Case.inService_iff, hasOutstanding_iff, hasQueued_iff,
    State.caseInService, or_assoc]

/-- RETIRE's third check is the model's test for STATE. -/
theorem retireState_iff {s : State} (law : s.geometryLaw = true) {r : Station} : s.retireState r = true ↔
    (∃ c ∈ s.claims, c.station = r.number) ∨
    (∃ b, r.kind = .branching b ∧ ∃ q ∈ s.table.stations, q.segment = .branch b) ∨
    (∃ c ∈ s.arbiter.cases, c.station = r.number ∧ ∃ o, c.state = .held o) ∨
    (∃ c ∈ s.arbiter.cases, c.station = r.number ∧ c.state = .pending ∧ c.claim ≠ none) := by
  simp only [State.retireState, Bool.or_eq_true, List.any_eq_true, beq_iff_eq, branchInUse_iff law, hasCase_iff,
    Case.isHeld_iff, Bool.and_eq_true, Option.isSome_iff_ne_none, or_assoc]

theorem performRetire_absent {s : State} {n : Nat} (h : ∀ r ∈ s.table.stations, r.number ≠ n) :
    performRetire n s = s.refuse .notFound := by simp [performRetire, station?_none.mpr h]

/-- RETIRE of an enlisted station: its checks in order, then the retirement. -/
theorem performRetire_of_mem {s : State} (h : s.keyLaw = true) {r : Station} (hr : r ∈ s.table.stations) :
    performRetire r.number s = if s.retireBusy r.number then s.refuse .busy
      else if s.retireState r then s.refuse .state else (s.retire r).ok .empty := by
  simp [performRetire, station?_of_mem h hr]

/-- Settles O21: the first check of RETIRE that applies decides the status. -/
theorem retireRefusals : Obligations.RetireRefusals := by
  intro n s idle law
  refine ⟨fun absent => refuses_of_eq rfl idle (performRetire_absent absent), ?_⟩
  rintro r hr rfl st first
  refine refuses_of_eq rfl idle ((performRetire_of_mem (geometry_parts law).1 hr).trans ?_)
  simp only [FirstApplies, State.retireChecks, ← retireBusy_iff, ← retireState_iff law, and_false, or_false] at first
  rcases first with ⟨busy, rfl⟩ | ⟨notBusy, inState, rfl⟩
  · exact if_pos busy
  · rw [if_neg notBusy, if_pos inState]
    rfl

end Sys2Proof.Machine
end

section
/-! PROOFS. STRAY READ and the law of the stray slots: O38. -/

namespace Sys2Proof.Machine

/-! ### The pair operand -/

@[simp] theorem readPair_val (p : Pair) : readPair p.val = some p := dif_pos p.isLt

theorem readPair_above {n : Nat} (h : 7 < n) : readPair n = none := dif_neg (Nat.not_lt.mpr h)

/-! ### The stray slots -/

/-- An EMPTY slot is determined by its overrun flag. -/
theorem StraySlot.eq_empty_iff {v : StraySlot} : v = StraySlot.empty ↔ v.held = none ∧ v.overrun = false := by
  cases v
  simp [StraySlot.empty]

/-- The overrun law, slot by slot: a slot that holds no record has its flag clear (R81). -/
theorem strayLaw_iff {s : State} :
    s.strayLaw = true ↔ ∀ p, (s.strays.get p).held = none → (s.strays.get p).overrun = false := by
  simp only [State.strayLaw, List.all_eq_true, mem_allPairs, true_implies, Bool.or_eq_true, Bool.not_eq_true',
    ← Option.not_isSome_iff_eq_none, or_iff_not_imp_left]

/-- Under the overrun law an EMPTY slot is the slot as at reset. -/
theorem stray_eq_empty {s : State} (law : s.strayLaw = true) {p : Pair} (h : (s.strays.get p).held = none) :
    s.strays.get p = StraySlot.empty :=
  StraySlot.eq_empty_iff.mpr ⟨h, strayLaw_iff.mp law p h⟩

/-! ### STRAY READ -/

theorem performStrayRead_val (p : Pair) (s : State) : performStrayRead p.val s =
    (s.setStrays (s.strays.set p StraySlot.empty)).ok (.stray (s.strays.get p)) := by
  simp [performStrayRead]

theorem performStrayRead_above {n : Nat} (h : 7 < n) (s : State) : performStrayRead n s = s.refuse .range := by
  simp [performStrayRead, readPair_above h]

/-- Settles O38: the pair operand alone decides between RANGE and OK, and the overrun law gives the flag of an EMPTY
slot. -/
theorem strayReadEmptiesSlot : Obligations.StrayReadEmptiesSlot := by
  intro s idle law
  refine ⟨fun n above => ?range, fun p => ⟨?ok, ?empty⟩⟩
  case range => exact refuses_of_eq rfl idle (performStrayRead_above above s)
  case ok => exact answers_of_eq rfl idle (performStrayRead_val p s)
  case empty => exact stray_eq_empty law

end Sys2Proof.Machine
end

section
/-! PROOFS. PAIR STATUS and CLEAR, the host's two steps out of contention: O30.

R122 is told as one write of the pair's controller: with the contention flag clear it writes back the controller read,
which leaves the part as it stands. -/

namespace Sys2Proof.Machine

/-! ### A controller written back -/

/-- The value read at an index, written back there, changes nothing. -/
@[simp] theorem Oct.set_get_self {α : Type} (o : Oct α) (i : Fin 8) : o.set i (o.get i) = o := by
  refine Oct.ext_get fun j => ?_
  rw [Oct.get_set]
  split
  case isTrue same => rw [same]
  case isFalse => rfl

theorem State.setSc_sc (s : State) (p : Pair) : s.setSc p (s.sc p) = s := by
  rw [State.setSc, State.sc, Oct.set_get_self]
  rfl

/-! ### PAIR STATUS -/

/-- The controller of a pair after the host has read its status (R122). -/
def SurveyController.seen (c : SurveyController) : SurveyController :=
  if c.contention = true then { c with statusRead := true } else c

theorem flagStatusRead_eq (s : State) (p : Pair) : s.flagStatusRead p = s.setSc p (s.sc p).seen := by
  unfold State.flagStatusRead SurveyController.seen
  split
  case isTrue => rfl
  case isFalse => exact (s.setSc_sc p).symm

/-- The view of a pair whose controller was just written shows that controller; line and settings stand. -/
theorem pairView_setSc (s : State) (p : Pair) (c : SurveyController) : (s.setSc p c).pairView p =
    { pair := p, equipped := s.equipped p, controller := c, settings := s.settings.get p } := by
  rw [State.pairView, State.sc_setSc_self]
  rfl

theorem performPairStatus_val (p : Pair) (s : State) : performPairStatus p.val s =
    (s.setSc p (s.sc p).seen).ok (.pairStatus { pair := p, equipped := s.equipped p, controller := (s.sc p).seen,
                                                settings := s.settings.get p }) := by
  simp only [performPairStatus, readPair_val, flagStatusRead_eq, pairView_setSc]

theorem performPairStatus_above {n : Nat} (h : 7 < n) (s : State) : performPairStatus n s = s.refuse .range := by
  simp only [performPairStatus, readPair_above h]

/-! ### CLEAR -/

theorem performClear_above {n : Nat} (h : 7 < n) (s : State) : performClear n s = s.refuse .range := by
  simp only [performClear, readPair_above h]

/-- CLEAR of a pair 0 to 7 turns on its two flags (R123). -/
theorem performClear_val (p : Pair) (s : State) : performClear p.val s =
    if (s.sc p).contention = true ∧ (s.sc p).statusRead = true then (s.clearContentionFlags p).ok .empty
    else s.refuse .state := by
  simp only [performClear, readPair_val, Bool.and_eq_true]

/-- Settles O30: the pair operand decides RANGE; PAIR STATUS then writes the controller as the host has seen it, and
the two flags decide CLEAR. -/
theorem pairStatusAndClear : Obligations.PairStatusAndClear := by
  intro s idle
  refine ⟨fun n above => ⟨?statusRange, ?clearRange⟩, fun p => ⟨?status, ?clear, ?refused⟩⟩
  case statusRange => exact refuses_of_eq rfl idle (performPairStatus_above above s)
  case clearRange => exact refuses_of_eq rfl idle (performClear_above above s)
  case status =>
    rintro c rfl
    exact answers_of_eq rfl idle (performPairStatus_val p s)
  case clear =>
    intro contended read
    exact answers_of_eq rfl idle ((performClear_val p s).trans (if_pos ⟨contended, read⟩))
  case refused =>
    intro notBoth
    exact refuses_of_eq rfl idle ((performClear_val p s).trans (if_neg notBoth))

end Sys2Proof.Machine
end

section
/-! PROOFS. The part's own work, change by change: what the Survey Controllers, the Correlator Pool and the Isolation
Sequencer do when they plan, grant, ask and conclude is a sequence of nine kinds of elementary change (`WorkMove`).
Each operation is such a sequence (`WorkSteps`); a law or a frame is then proved once for each kind. -/

namespace Sys2Proof.Machine

/-- The survey of the pair runs: it is DRIVING, or its controller is not HALTED. -/
def State.live (s : State) (p : Pair) : Prop := s.driving p = true ∨ (s.sc p).state ≠ .halted

/-- The pair is DRIVING, or its controller holds something of a survey. -/
def State.engaged (s : State) (p : Pair) : Prop := s.driving p = true ∨ (s.sc p).quiet = false

/-- A case with this number is open, and on top of the stack. -/
def State.isTop (s : State) (k : Nat) : Prop :=
  k ∈ s.arbiter.cases.map (·.number) ∧ ∃ rest, s.arbiter.stack = k :: rest

/-- A station with this number is enlisted. -/
def State.enlisted (s : State) (n : Nat) : Prop := ∃ r ∈ s.table.stations, r.number = n

/-- Two controllers agree in what planning leaves alone: role, flags, steering states and round counter. -/
def SurveyController.agrees (c d : SurveyController) : Prop :=
  d.role = c.role ∧ d.contention = c.contention ∧ d.statusRead = c.statusRead ∧ d.steering = c.steering ∧
  d.roundCounter = c.roundCounter

/-- An elementary change of the part's own work. -/
inductive WorkMove : State → State → Prop where
  | contexts (s : State) (v : Oct (Option Context)) (kept : ∀ l, (v.get l).isSome = (s.context l).isSome) :
      WorkMove s (s.setContexts v)
  | occupy (s : State) (k : Case) (c : Context) (member : k ∈ s.arbiter.cases)
      (top : s.arbiter.stack.head? = some k.number) : WorkMove s (s.setContext k.level (some c))
  | controller (s : State) (p : Pair) (c : SurveyController) (engaged : s.engaged p) (same : (s.sc p).agrees c) :
      WorkMove s (s.setSc p c)
  | unpresent (s : State) (p : Pair) : WorkMove s (s.unpresent p)
  | present (s : State) (p : Pair) (k : RoundKind) (engaged : s.engaged p) :
      WorkMove s (s.setPool { s.pool with presented := insertRequest p k s.pool.presented })
  | grant (s : State) (k : CorrelatorNo) (p : Pair) (kind : RoundKind) (free : s.pool.correlators.get k = .free)
      (asked : (p, kind) ∈ s.pool.presented) : WorkMove s (s.grantTo k p kind)
  | submit (s : State) (p : Pair) (t : Telegram) (notPoll : t.isPoll = false) (enlisted : s.enlisted t.dest) :
      WorkMove s (s.submit p t)
  | askAuto (s : State) (k n : Nat) (p : Pair) (isTop : s.isTop k) :
      WorkMove s (s.askAuto k n p).1
  | leave (s : State) (o : Outcome) : WorkMove s (s.leaveService o)

/-- A sequence of elementary changes of the part's own work. -/
abbrev WorkSteps : State → State → Prop := Relation.ReflTransGen WorkMove

theorem WorkMove.steps {s t : State} (h : WorkMove s t) : WorkSteps s t := .single h

/-- What holds of every elementary change, of none and of two in a row, holds of a sequence of them. -/
theorem WorkSteps.lift {R : State → State → Prop} (refl : ∀ s, R s s) (trans : ∀ {s t u}, R s t → R t u → R s u)
    (step : ∀ {s t}, WorkMove s t → R s t) {s t : State} (h : WorkSteps s t) : R s t := by
  induction h with
  | refl => exact refl s
  | tail _ move ih => exact trans ih (step move)

theorem State.live.engaged {s : State} {p : Pair} (h : s.live p) : s.engaged p := by
  rcases h with driving | running
  · exact .inl driving
  · exact .inr (by simp [SurveyController.quiet, running])

/-- A controller that keeps its role, on a pair that is live, and its survey state, or one that is not HALTED,
leaves the pair live. -/
theorem State.live.setSc {s : State} {p : Pair} (h : s.live p) {c : SurveyController}
    (role : c.role = (s.sc p).role := by rfl)
    (state : c.state = (s.sc p).state ∨ c.state ≠ .halted := by exact .inl rfl) : (s.setSc p c).live p := by
  rcases h with driving | running
  · exact .inl (by simpa [State.driving, role] using driving)
  · exact .inr (by rw [State.sc_setSc_self]; rcases state with e | e <;> simp_all)

/-! ### Planning and grants change a context in its phase alone -/

/-- The contexts of the second state are those of the first, but for their phases. -/
def Phased (s t : State) : Prop :=
  ∀ l, ∃ g : ContextPhase → ContextPhase, t.context l = (s.context l).map fun c => { c with phase := g c.phase }

theorem phased_of_eq {s t : State} (h : t.contexts = s.contexts) : Phased s t := fun l =>
  ⟨id, by rw [State.context, h, ← State.context]; exact Option.map_id'.symm⟩

theorem Phased.trans {s t u : State} (h : Phased s t) (k : Phased t u) : Phased s u := fun l => by
  obtain ⟨g, first⟩ := h l
  obtain ⟨f, second⟩ := k l
  exact ⟨f ∘ g, by rw [second, first, Option.map_map]; rfl⟩

theorem phased_updateContext (s : State) (l : Level) (ph : ContextPhase) :
    Phased s (s.updateContext l fun c => { c with phase := ph }) := fun m => by
  by_cases e : m = l
  · rw [e]
    exact ⟨fun _ => ph, Oct.get_set_self _ _ _⟩
  · exact ⟨id, (Oct.get_set_ne _ _ e).trans Option.map_id'.symm⟩

theorem phased_grantTo (s : State) (k : CorrelatorNo) (p : Pair) (kind : RoundKind) : Phased s (s.grantTo k p kind) := by
  unfold State.grantTo
  dsimp only
  split
  next l _ => exact phased_updateContext _ l .measuring
  next => exact phased_of_eq rfl

/-- The blocks that planning and grants can reach. -/
abbrev planParts : List Part := [.pool, .survey, .contexts, .telegrams]

/-- An elementary change of planning and grants: it changes a context in its phase alone. -/
structure PlanMove (s t : State) : Prop where
  work : WorkMove s t
  phased : Phased s t
  only : Only planParts s t

/-- A sequence of elementary changes of planning and grants. -/
abbrev PlanSteps : State → State → Prop := Relation.ReflTransGen PlanMove

theorem PlanMove.steps {s t : State} (h : PlanMove s t) : PlanSteps s t := .single h

theorem PlanSteps.work {s t : State} (h : PlanSteps s t) : WorkSteps s t :=
  Relation.ReflTransGen.mono (fun _ _ => PlanMove.work) _ _ h

theorem PlanSteps.phased {s t : State} (h : PlanSteps s t) : Phased s t := by
  induction h with
  | refl => exact phased_of_eq rfl
  | tail _ move ih => exact ih.trans move.phased

theorem PlanSteps.only {s t : State} (h : PlanSteps s t) : Only planParts s t := by
  induction h with
  | refl => exact Only.refl _ _
  | tail _ move ih => exact ih.trans move.only

theorem planMove_controller {s : State} {p : Pair} {c : SurveyController} (engaged : s.engaged p)
    (same : (s.sc p).agrees c) : PlanMove s (s.setSc p c) :=
  ⟨.controller s p c engaged same, phased_of_eq rfl, (only_setSc s p c).up⟩

theorem planMove_unpresent (s : State) (p : Pair) : PlanMove s (s.unpresent p) :=
  ⟨.unpresent s p, phased_of_eq rfl, (only_unpresent s p).up⟩

theorem planMove_present {s : State} {p : Pair} (engaged : s.engaged p) (k : RoundKind) :
    PlanMove s (s.setPool { s.pool with presented := insertRequest p k s.pool.presented }) :=
  ⟨.present s p k engaged, phased_of_eq rfl, (only_setPool s _).up⟩

theorem planMove_grant {s : State} {k : CorrelatorNo} {p : Pair} {kind : RoundKind}
    (free : s.pool.correlators.get k = .free) (asked : (p, kind) ∈ s.pool.presented) :
    PlanMove s (s.grantTo k p kind) :=
  ⟨.grant s k p kind free asked, phased_grantTo s k p kind, (only_grantTo s k p kind).up⟩

theorem planMove_submit {s : State} (p : Pair) {t : Telegram} (notPoll : t.isPoll = false) (enlisted : s.enlisted t.dest) :
    PlanMove s (s.submit p t) :=
  ⟨.submit s p t notPoll enlisted, phased_of_eq (only_submit s p t).contexts_eq, (only_submit s p t).up⟩

/-! ### Grants -/

theorem CorrelatorPool.chosen_mem {c : CorrelatorPool} {e : Pair × RoundKind} (h : c.chosen = some e) :
    e ∈ c.presented := by
  obtain ⟨p, _, found⟩ := List.exists_of_findSome?_eq_some h
  have mem := List.mem_of_find?_eq_some found
  unfold CorrelatorPool.allowed at mem
  split at mem
  · exact List.mem_of_mem_filter mem
  · exact mem

theorem CorrelatorPool.freeCorrelator_free {c : CorrelatorPool} {k : CorrelatorNo} (h : c.freeCorrelator = some k) :
    c.correlators.get k = .free := by simpa using List.find?_some h

theorem planSteps_grantOne (s : State) : PlanSteps s s.grantOne := by
  unfold State.grantOne
  split
  next k p kind free chosen =>
    exact (planMove_grant (CorrelatorPool.freeCorrelator_free free) (CorrelatorPool.chosen_mem chosen)).steps
  next => exact .refl

theorem planSteps_grantAll (s : State) : PlanSteps s s.grantAll :=
  (((planSteps_grantOne s).trans (planSteps_grantOne _)).trans (planSteps_grantOne _)).trans (planSteps_grantOne _)

theorem planSteps_present {s : State} {p : Pair} (h : s.engaged p) (k : RoundKind) : PlanSteps s (s.present p k) :=
  (planMove_present h k).steps.trans (planSteps_grantAll _)

/-! ### Planning -/

theorem planSteps_controller {s : State} {p : Pair} (h : s.live p) {c : SurveyController}
    (same : (s.sc p).agrees c := by exact ⟨rfl, rfl, rfl, rfl, rfl⟩) : PlanSteps s (s.setSc p c) := (planMove_controller h.engaged same).steps

theorem planSteps_askPool {s : State} {p : Pair} (h : s.live p) : PlanSteps s (s.askPool p) := by
  have waits := planSteps_controller h (c := { s.sc p with state := .waiting })
  have live := h.setSc (c := { s.sc p with state := .waiting }) (state := .inr (by simp))
  unfold State.askPool
  dsimp only
  split
  · exact waits
  · exact waits.trans (planSteps_present live.engaged _)

theorem State.enlisted.of_table {s t : State} {n : Nat} (h : s.enlisted n) (table : t.table = s.table) :
    t.enlisted n := by rwa [State.enlisted, table]

theorem planSteps_submits (p : Pair) : ∀ (plan : List Telegram) (s : State),
    (∀ t ∈ plan, t.isPoll = false ∧ s.enlisted t.dest) → PlanSteps s (plan.foldl (State.submit · p) s)
  | [], _, _ => .refl
  | t :: rest, s, h => by
    obtain ⟨notPoll, enlisted⟩ := h t List.mem_cons_self
    refine (planMove_submit p notPoll enlisted).steps.trans (planSteps_submits p rest _ fun u hu => ?_)
    obtain ⟨notPoll, enlisted⟩ := h u (List.mem_cons_of_mem _ hu)
    exact ⟨notPoll, enlisted.of_table (only_submit s p t).table_eq⟩

theorem planSteps_runPlan {s : State} {p : Pair} (h : s.live p) {plan : List Telegram}
    (sound : ∀ t ∈ plan, t.isPoll = false ∧ s.enlisted t.dest) : PlanSteps s (s.runPlan p plan) := by
  unfold State.runPlan
  split
  · exact planSteps_askPool h
  · exact (planSteps_controller h (c := { s.sc p with state := .steering })).trans
      (planSteps_submits p plan _ sound)

theorem mem_steeredUnits {s : State} {p : Pair} {u : Station} (h : u ∈ s.steeredUnits p) : s.enlisted u.number := by
  obtain ⟨n, -, found⟩ := List.mem_filterMap.mp (List.mem_of_mem_filter h)
  exact ⟨u, (station?_some found).1, rfl⟩

/-- A steering plan's telegrams are the Survey Controller's, to units that are enlisted. -/
theorem steeringPlan_sound {s : State} {p : Pair} {v : View} {entry : Bool} :
    ∀ t ∈ s.steeringPlan p v entry, t.isPoll = false ∧ s.enlisted t.dest := by
  intro t h
  have steers {k : TelegramKind} {f : Station → Bool} (h : t ∈ ((s.steeredUnits p).filter f).map fun u =>
      ({ dest := u.number, kind := k, submitter := .survey } : Telegram)) : t.isPoll = false ∧ s.enlisted t.dest := by
    obtain ⟨u, hu, rfl⟩ := List.mem_map.mp h
    exact ⟨rfl, mem_steeredUnits (List.mem_of_mem_filter hu)⟩
  unfold State.steeringPlan at h
  dsimp only at h
  split at h
  · exact steers h
  · rcases List.mem_append.mp h with h | h <;> exact steers h

theorem planSteps_planRegular {s : State} {p : Pair} (h : s.live p) (move first : Bool) :
    PlanSteps s (s.planRegular p move first) := by
  unfold State.planRegular
  dsimp only
  exact (planSteps_controller h).trans
    (planSteps_runPlan h.setSc steeringPlan_sound)

theorem planSteps_refuseFocused {s : State} {p : Pair} (h : s.live p) (f : FocusedRequest) :
    PlanSteps s (s.refuseFocused p f).1 :=
  (planSteps_controller h).trans (planSteps_planRegular h.setSc _ _)

theorem planSteps_askFocused {s : State} {p : Pair} (h : s.live p) (f : FocusedRequest) :
    PlanSteps s (s.askFocused p f).1 := by
  unfold State.askFocused
  split
  · exact planSteps_askPool h
  · exact planSteps_refuseFocused h f

theorem planSteps_steerFocused {s : State} {p : Pair} (h : s.live p) (f : FocusedRequest) :
    PlanSteps s (s.steerFocused p f).1 := by
  have stale := planSteps_controller h (c := { s.sc p with planStale := false })
  have live := h.setSc (c := { s.sc p with planStale := false })
  unfold State.steerFocused
  dsimp only
  split
  · exact stale.trans (planSteps_askFocused live f)
  · exact stale.trans (planSteps_runPlan live steeringPlan_sound)

theorem planSteps_takeFocused {s : State} {p : Pair} (h : s.live p) (f : FocusedRequest) :
    PlanSteps s (s.takeFocused p f).1 := by
  unfold State.takeFocused
  split
  · exact (planSteps_controller h).trans (planSteps_steerFocused h.setSc f)
  · exact planSteps_refuseFocused h f

theorem planSteps_plan (s : State) (p : Pair) : PlanSteps s (s.plan p).1 := by
  unfold State.plan
  split
  next driving =>
    split
    · exact planSteps_takeFocused (.inl driving) _
    · exact planSteps_planRegular (.inl driving) _ _
  next => exact .refl

theorem planSteps_replan (s : State) (p : Pair) : PlanSteps s (s.replan p).1 := by
  unfold State.replan
  split
  · exact (planMove_unpresent s p).steps.trans (planSteps_plan _ p)
  · exact .refl

theorem planSteps_steerEnded (s : State) (p : Pair) : PlanSteps s (s.steerEnded p).1 := by
  unfold State.steerEnded
  dsimp only
  split
  next steering =>
    have live : s.live p := .inr (by
      simp only [Bool.and_eq_true, beq_iff_eq] at steering
      simp [steering.1])
    split
    · split
      · exact planSteps_steerFocused live _
      · exact planSteps_askFocused live _
    · split
      · exact planSteps_planRegular live _ _
      · split
        · exact planSteps_askPool live
        · exact planSteps_planRegular live _ _
  next => exact .refl

theorem planSteps_requestFocus (s : State) (p : Pair) (f : FocusedRequest) : PlanSteps s (s.requestFocus p f).1 := by
  unfold State.requestFocus
  dsimp only
  split
  next driving =>
    have live : s.live p := .inl driving
    split
    · have taken := (planMove_unpresent s p).steps.trans
        (planSteps_takeFocused (s := s.unpresent p) (p := p) (.inl driving) f)
      split <;> simp_all
    · split <;> exact planSteps_controller live
    · exact planSteps_controller live
  next => exact .refl

theorem planSteps_withdrawFocus (s : State) (p : Pair) (l : Level) : PlanSteps s (s.withdrawFocus p l) := by
  unfold State.withdrawFocus
  dsimp only
  split
  next => exact .refl
  next f focused =>
    have engaged : s.engaged p := .inr (by simp [SurveyController.quiet, focused])
    have goes (c : SurveyController) (same : (s.sc p).agrees c := by exact ⟨rfl, rfl, rfl, rfl, rfl⟩) :
        PlanSteps s (s.setSc p c) := (planMove_controller engaged same).steps
    split
    · split
      next waiting _ =>
        have live : s.live p := .inr (by simp [waiting])
        exact ((goes _).trans (planMove_unpresent _ p).steps).trans
          (planSteps_planRegular (s := (s.setSc p { s.sc p with focused := none }).unpresent p)
            (live.setSc (c := { s.sc p with focused := none })) _ _)
      next => exact goes _
      next => exact goes _
    · exact .refl

/-! ### The Isolation Sequencer -/

theorem workSteps_updateContext (s : State) (l : Level) (f : Context → Context) : WorkSteps s (s.updateContext l f) :=
  (WorkMove.contexts s _ fun m => by
    rw [Oct.get_set]
    split
    next e => rw [e, Option.isSome_map]
    next => rfl).steps

theorem workingCase?_some {s : State} {c : Context} {k : Case} (h : s.workingCase? = some (c, k)) :
    s.topCase? = some k ∧ s.context k.level = some c ∧ c.caseNumber = k.number := by
  unfold State.workingCase? at h
  split at h
  · cases h
  next top =>
    split at h
    next ctx =>
      split at h
      next same =>
        simp only [Option.some.injEq, Prod.mk.injEq] at h
        obtain ⟨rfl, rfl⟩ := h
        exact ⟨top, ctx, by simpa using same⟩
      next => cases h
    next => cases h

theorem topCase?_some {s : State} {k : Case} (h : s.topCase? = some k) :
    k ∈ s.arbiter.cases ∧ ∃ rest, s.arbiter.stack = k.number :: rest := by
  unfold State.topCase? at h
  split at h
  · cases h
  next n rest stack =>
    obtain ⟨mem, rfl⟩ := case?_some h
    exact ⟨mem, rest, stack⟩

theorem workingCase?_isTop {s : State} {c : Context} {k : Case} (h : s.workingCase? = some (c, k)) :
    s.isTop k.number :=
  have ⟨member, top⟩ := topCase?_some (workingCase?_some h).1
  ⟨List.mem_map_of_mem member, top⟩

theorem workSteps_askRound (s : State) (k : Case) (r : Station) : WorkSteps s (s.askRound k r).1 :=
  (workSteps_updateContext s _ _).trans (planSteps_requestFocus _ _ _).work

theorem workSteps_sendFor {s : State} {r : Station} (target : s.enlisted r.number) (k : Case) (kind : TelegramKind) :
    WorkSteps s (s.sendFor k r kind).1 := by
  unfold State.sendFor
  split
  · exact (workSteps_updateContext s _ _).trans (WorkMove.submit _ _ _ rfl target).steps
  · exact .refl

theorem workSteps_startCheck (s : State) (k : Case) (st : ContextStep) : WorkSteps s (s.startCheck k st).1 := by
  unfold State.startCheck
  dsimp only
  refine (workSteps_updateContext s k.level (·.enter st)).trans ?_
  split
  next => exact .refl
  next r found =>
    split
    · exact workSteps_askRound _ k _
    · exact workSteps_sendFor ⟨r, (station?_some found).1, rfl⟩ k _

theorem workSteps_act {s : State} {target : Station} (enlisted : s.enlisted target.number) (k : Case) (cmd : Command) :
    WorkSteps s (s.act k cmd target).1 :=
  (workSteps_updateContext s _ _).trans (workSteps_sendFor (s := s.updateContext k.level _) enlisted k _)

theorem workSteps_askClaim {s : State} {k : Case} {target : Station} (h : s.isTop k.number)
    (enlisted : s.enlisted target.number) (cmd : Command) : WorkSteps s (s.askClaim k cmd target).1 := by
  have after := enlisted.of_table (only_askAuto s k.number target.number k.pair).table_eq
  have asked := (WorkMove.askAuto s k.number target.number k.pair h).steps
  unfold State.askClaim
  split
  next e =>
    rw [e] at asked after
    exact (asked.trans (workSteps_updateContext _ _ _)).trans
      (workSteps_act (s := State.updateContext _ k.level _) after k cmd)
  next e =>
    rw [e] at asked
    exact asked.trans (workSteps_updateContext _ _ _)

theorem workSteps_startClaim {s : State} {k : Case} {target : Station} (h : s.isTop k.number)
    (enlisted : s.enlisted target.number) (cmd : Command) : WorkSteps s (s.startClaim k cmd target).1 := by
  unfold State.startClaim
  dsimp only
  refine (workSteps_updateContext s k.level fun c => { c.enter .claim with chosen := some cmd }).trans ?_
  split
  · exact workSteps_askClaim (s := s.updateContext k.level _) h enlisted cmd
  · split
    · exact workSteps_act (s := s.updateContext k.level _) enlisted k cmd
    · exact .refl

theorem commandTarget_enlisted {s : State} {k : Case} {cmd : Command} {target : Station}
    (h : s.commandTarget k cmd = some target) : s.enlisted target.number := by
  unfold State.commandTarget at h
  split at h
  next => cases h
  next r found =>
    split at h
    next => exact ⟨target, (unit?_some h).1, rfl⟩
    next => cases h
    next =>
      cases h
      exact ⟨target, (station?_some found).1, rfl⟩

theorem workSteps_chooseAction {s : State} {k : Case} (h : s.isTop k.number) :
    WorkSteps s (s.chooseAction k).1 := by
  unfold State.chooseAction
  split
  · split
    · split
      next target => exact workSteps_startClaim h (commandTarget_enlisted target) _
      next => exact .refl
    · exact .refl
  · exact .refl

theorem workSteps_afterAct (s : State) (k : Case) (cmd : Command) : WorkSteps s (s.afterAct k cmd).1 := by
  unfold State.afterAct
  split
  · exact .refl
  · exact workSteps_startCheck s k _

theorem workSteps_endAct (s : State) (c : Context) (k : Case) (e : ContextEvent) :
    WorkSteps s (s.endAct c k e).1 := by
  unfold State.endAct
  split
  · split
    · split
      · exact workSteps_afterAct s k _
      · exact .refl
    · exact .refl
  · exact .refl
  · exact .refl
  · exact .refl

theorem workSteps_takeEvent {s : State} {k : Case} (h : s.isTop k.number) (c : Context) (e : ContextEvent) :
    WorkSteps s (s.takeEvent c k e).1 := by
  unfold State.takeEvent
  split
  · split
    · exact workSteps_chooseAction h
    · exact .refl
  · exact .refl
  · exact workSteps_endAct s c k e
  · exact .refl

theorem workSteps_startContext {s : State} {k d : Case} (member : d ∈ s.arbiter.cases)
    (top : s.arbiter.stack.head? = some d.number) (level : d.level = k.level) : WorkSteps s (s.startContext k).1 := by
  unfold State.startContext
  dsimp only
  have occupied : WorkSteps s (s.setContext k.level (some (Context.occupied k))) := by
    rw [← level]
    exact (WorkMove.occupy s d (Context.occupied k) member top).steps
  refine occupied.trans ?_
  split
  · exact workSteps_startCheck _ k _
  · exact .refl
  · exact workSteps_startCheck _ k _

theorem workSteps_askAgain (s : State) : WorkSteps s s.askAgain.1 := by
  unfold State.askAgain
  split
  next => exact .refl
  next working =>
    split
    · split
      next target => exact workSteps_askClaim (workingCase?_isTop working) (commandTarget_enlisted target) _
      next => exact .refl
    · exact .refl

theorem workSteps_resume (s : State) : WorkSteps s s.resume.1 := by
  unfold State.resume
  split
  next => exact .refl
  next c k working =>
    have isTop := workingCase?_isTop working
    split
    · exact (workSteps_updateContext s _ _).trans
        (workSteps_takeEvent (s := s.updateContext k.level _) isTop c _)
    · split
      · split
        · exact workSteps_askRound s _ _
        · exact .refl
      · exact workSteps_askAgain s
      · exact .refl

theorem workSteps_concludeWithin : ∀ (n : Nat) (w : Work), WorkSteps w.1 (concludeWithin n w)
  | 0, _ => .refl
  | n + 1, w => by
    unfold concludeWithin
    split
    next => exact .refl
    next o _ =>
      exact ((WorkMove.leave w.1 o).steps.trans (workSteps_resume _)).trans (workSteps_concludeWithin n _)

theorem workSteps_conclude (w : Work) : WorkSteps w.1 (conclude w) := workSteps_concludeWithin _ w

theorem workSteps_tellRefused (w : State × Option Level) : WorkSteps w.1 (State.tellRefused w) := by
  unfold State.tellRefused
  split
  · exact .refl
  · split
    · exact workSteps_conclude (w.1, some .unreachable)
    · exact .refl

theorem workSteps_announce (s : State) : WorkSteps s s.announce :=
  (workSteps_askAgain s).trans (workSteps_conclude _)

theorem workSteps_replanned (s : State) (p : Pair) : WorkSteps s (s.replanned p) :=
  (planSteps_replan s p).work.trans (workSteps_tellRefused _)

theorem workSteps_suspendWork (s : State) : WorkSteps s s.suspendWork := by
  unfold State.suspendWork
  split
  · exact .refl
  · split
    · exact (planSteps_withdrawFocus s _ _).work
    · exact .refl

/-- The working context of a level has its case on top of the stack. -/
theorem working_stack {s : State} {l : Level} {c : Context} (h : s.context l = some c) (working : s.working l = true) :
    ∃ rest, s.arbiter.stack = c.caseNumber :: rest := by
  unfold State.working at working
  rw [h] at working
  split at working
  next k rest same stack =>
    cases same
    exact ⟨rest, by rw [stack, beq_iff_eq.mp working]⟩
  next => cases working

theorem writeAction_context (s : State) (c : Context) (e : ContextEvent) (l : Level) :
    (s.writeAction c e).context l = s.context l := by
  rw [State.context, (only_writeAction s c e).contexts_eq, State.context]

/-- After the action taken has been written, an event told to a context is work. -/
theorem workSteps_tell {s : State} {l : Level} {c : Context} (h : s.context l = some c) (e : ContextEvent) :
    WorkSteps (s.writeAction c e) (s.tell l e) := by
  unfold State.tell
  rw [h]
  dsimp only
  split
  next k working found =>
    obtain ⟨member, number⟩ := case?_some found
    refine (workSteps_takeEvent ⟨List.mem_map_of_mem member, ?_⟩ c e).trans (workSteps_conclude _)
    rw [number]
    exact working_stack ((writeAction_context s c e l).trans h) working
  next => exact workSteps_updateContext _ _ _

theorem tell_empty {s : State} {l : Level} (h : s.context l = none) (e : ContextEvent) : s.tell l e = s := by
  unfold State.tell
  rw [h]

/-! ### Frames of the work -/

theorem WorkMove.only {s t : State} (h : WorkMove s t) : Only sequencerParts s t := by
  cases h with
  | contexts v _ => exact (only_setContexts s v).up
  | occupy k c _ _ => exact (only_setContext s k.level _).up
  | controller p c => exact (only_setSc s p c).up
  | unpresent p => exact (only_unpresent s p).up
  | present p k => exact (only_setPool s _).up
  | grant k p kind => exact (only_grantTo s k p kind).up
  | submit p t => exact (only_submit s p t).up
  | askAuto k n p => exact (only_askAuto s k n p).up
  | leave o => exact (only_leaveService s o).up

theorem WorkSteps.only {s t : State} (h : WorkSteps s t) : Only sequencerParts s t :=
  h.lift (Only.refl _) Only.trans WorkMove.only

theorem SurveyController.agrees.refl (c : SurveyController) : c.agrees c := ⟨rfl, rfl, rfl, rfl, rfl⟩

theorem SurveyController.agrees.trans {c d e : SurveyController} (h : c.agrees d) (k : d.agrees e) : c.agrees e :=
  ⟨k.1.trans h.1, k.2.1.trans h.2.1, k.2.2.1.trans h.2.2.1, k.2.2.2.1.trans h.2.2.2.1, k.2.2.2.2.trans h.2.2.2.2⟩

theorem agrees_of_survey_eq {s t : State} (h : t.survey = s.survey) (p : Pair) : (s.sc p).agrees (t.sc p) := by
  simp only [State.sc, h]
  exact .refl _

theorem agrees_setSc {s : State} {p : Pair} {c : SurveyController} (h : (s.sc p).agrees c) (q : Pair) :
    (s.sc q).agrees ((s.setSc p c).sc q) := by
  by_cases e : q = p
  · subst e
    rwa [State.sc_setSc_self]
  · rw [State.sc_setSc_ne _ _ e]
    exact .refl _

theorem agrees_grantTo (s : State) (k : CorrelatorNo) (p : Pair) (kind : RoundKind) (q : Pair) :
    (s.sc q).agrees ((s.grantTo k p kind).sc q) := by
  unfold State.grantTo
  dsimp only
  have same : (s.sc q).agrees ((s.setSc p { s.sc p with
      state := .running, lastView := some (s.roundDefinition p).view,
      focused := if kind == .focused then none else (s.sc p).focused }).sc q) :=
    agrees_setSc (s := s) (p := p) (by exact ⟨rfl, rfl, rfl, rfl, rfl⟩) q
  split <;> exact same

/-- Work leaves the role, the flags, the steering states and the round counter of every pair. -/
theorem WorkMove.agrees {s t : State} (h : WorkMove s t) (q : Pair) : (s.sc q).agrees (t.sc q) := by
  cases h with
  | contexts v _ => exact agrees_of_survey_eq rfl q
  | occupy k c _ _ => exact agrees_of_survey_eq rfl q
  | controller p c _ same => exact agrees_setSc same q
  | unpresent p => exact agrees_of_survey_eq rfl q
  | present p k => exact agrees_of_survey_eq rfl q
  | grant k p kind => exact agrees_grantTo s k p kind q
  | submit p t => exact agrees_of_survey_eq (only_submit s p t).survey_eq q
  | askAuto k n p => exact agrees_of_survey_eq (only_askAuto s k n p).survey_eq q
  | leave o => exact agrees_of_survey_eq (only_leaveService s o).survey_eq q

theorem WorkSteps.agrees {s t : State} (h : WorkSteps s t) (q : Pair) : (s.sc q).agrees (t.sc q) :=
  h.lift (R := fun s t => (s.sc q).agrees (t.sc q)) (fun _ => .refl _) SurveyController.agrees.trans
    fun move => move.agrees q

theorem WorkSteps.role {s t : State} (h : WorkSteps s t) (q : Pair) : (t.sc q).role = (s.sc q).role :=
  (h.agrees q).1

theorem WorkSteps.driving {s t : State} (h : WorkSteps s t) (q : Pair) : t.driving q = s.driving q := by
  simp only [State.driving, h.role q]

end Sys2Proof.Machine
end

section
/-! PROOFS. What a command can do, change by change: every command's effect is a sequence of elementary changes
(`Move`), each with the guard under which the part makes it. The kinds are grouped by the block that they change. -/

namespace Sys2Proof.Machine

/-! ### The elementary changes -/

/-- The record is one of the second's place and parts: it differs at most in what the line has told of alarms and in
the silent count. -/
def Station.samePlace (r q : Station) : Prop :=
  r.number = q.number ∧ r.kind = q.kind ∧ r.segment = q.segment ∧ r.address = q.address ∧ r.delay = q.delay ∧
  r.window = q.window ∧ r.parts = q.parts

/-- A record of the station number holds the pair part. -/
def State.hasPart (s : State) (n : Nat) (p : Pair) (y : PairPart) : Prop :=
  ∃ x ∈ s.table.stations, x.number = n ∧ y ∈ x.parts ∧ y.pair = p

/-- The pair part can replace those of a station on a pair: its health is that of one of them, its confirm count not
above one of them or not above the pair's confirm rounds. -/
def State.succeeds (s : State) (n : Nat) (p : Pair) (z : PairPart) : Prop :=
  z.pair = p ∧ (∃ y, s.hasPart n p y ∧ z.health = y.health) ∧
  ((∃ y, s.hasPart n p y ∧ z.confirm ≤ y.confirm) ∨ z.confirm ≤ (s.settings.get p).confirmRounds)

/-- A change of the Telegram Controllers or of the sweep. -/
inductive TelegramMove : State → State → Prop where
  | fill (s : State) (p : Pair) : TelegramMove s (s.fillPair p)
  | send (s : State) (p : Pair) : TelegramMove s (s.sendHead p)
  | advance (s : State) (p : Pair) : TelegramMove s (s.advanceCursor p)
  | sweeper (s : State) (v : PollSweeper) (flags : v.running = true ∨ v.sweepPending = false) :
      TelegramMove s (s.setSweeper v)
  | retry (s : State) (p : Pair) (t : Telegram) (o : Outstanding) (out : (s.tc p).outstanding = some o) :
      TelegramMove s (s.retry p t)
  | endExchange (s : State) (p : Pair) : TelegramMove s (s.endExchange p)
  | listen (s : State) (p : Pair) (l : List Overheard) (a : Option AbandonedExchange) :
      TelegramMove s (s.setTc p { s.tc p with overheard := l, abandoned := a })

/-- A change of the Case List, with the health of the pair part that goes with it. -/
inductive CaseMove : State → State → Prop where
  | merge (s : State) (c : Case) (f : CauseFound) (found : c ∈ s.arbiter.cases) : CaseMove s (s.mergeCase c f)
  | opens (s : State) (n : Nat) (p : Pair) (f : CauseFound) (round : Nat) (enlisted : (s.station? n).isSome = true)
      (absent : s.caseAt? n p = none) (room : s.arbiter.cases.length < Config.maxCases) :
      CaseMove s (s.openCase n p f round)
  | action (s : State) (k : Nat) (cmd : Command) :
      CaseMove s (s.updateCase k fun c => { c with actionTaken := some cmd })
  | push (s : State) (k : Case) (due : s.grantDue = some k) : CaseMove s (s.pushCase k)
  | close (s : State) (c : Case) (found : s.case? c.number = some c) (idle : c.inService = false) :
      CaseMove s (((s.setArbiter { s.arbiter with
        cases := s.arbiter.cases.filter fun d => d.number != c.number }).updatePart c.station c.pair
          fun q => { q with confirm := 0 }).refreshHealth c.station c.pair)
  | policy (s : State) (v : Policy) : CaseMove s (s.setArbiter { s.arbiter with policy := v })

/-- A change of the Station Table alone. -/
inductive TableMove : State → State → Prop where
  | station (s : State) (n : Nat) (f : Station → Station)
      (same : ∀ q ∈ s.table.stations, q.number = n →
        ∃ r ∈ s.table.stations, r.number = n ∧ (f q).samePlace r) : TableMove s (s.updateStation n f)
  | part (s : State) (n : Nat) (p : Pair) (f : PairPart → PairPart)
      (legal : ∀ q, s.hasPart n p q → s.succeeds n p (f q)) : TableMove s (s.updatePart n p f)
  | refresh (s : State) (n : Nat) (p : Pair) : TableMove s (s.refreshHealth n p)
  | place (s : State) (a : EnlistArgs) (kind : StationKind) (g : Segment) (read : readEnlist a = some (kind, g))
      (legal : s.enlistRefusal a kind g = none) : TableMove s (s.placeStation (s.newStation a kind g))
  | amend (s : State) (r : Station) (a : AmendArgs) (found : s.station? r.number = some r)
      (legal : s.amendRefusal r a = none) :
      TableMove s (let t := s.updateStation r.number fun r => (r.amendGeometry a).amendWatch a
        if amendsPlace a then t.amendIndex r (a.delay.getD r.delay) else t)
  | rebase (s : State) (st : Option Nat) (scope : ClaimPair) : TableMove s (s.rebase st scope)
  | shift (s : State) (g : Segment) (d : Nat) (x : Int) (legal : s.shiftRefusal g d x = none) :
      TableMove s (s.shift g d x)

/-- A change of Survey Controllers that is no work of their own. -/
inductive SurveyMove : State → State → Prop where
  | steering (s : State) (v : Oct SurveyController)
      (same : ∀ p, v.get p = { s.sc p with steering := (v.get p).steering }) : SurveyMove s (s.setSurvey v)
  | count (s : State) (r : RoundResult) : SurveyMove s (s.countResult r)
  | putBack (s : State) (p : Pair) (f : FocusedRequest) (held : ∃ r ∈ s.pool.queue, r.pair = p) :
      SurveyMove s (s.setSc p { s.sc p with focused := some f })
  | flags (s : State) (p : Pair) (contention read : Bool) (lawful : contention = true ∨ read = false) :
      SurveyMove s (s.setSc p { s.sc p with contention := contention, statusRead := read })
  | role (s : State) (p : Pair) (r : Role) (idle : (s.sc p).role ≠ .driving) : SurveyMove s (s.setRole p r)

/-- A change of the Correlator Pool by a round that runs or ends. -/
inductive PoolMove : State → State → Prop where
  | burst (s : State) (k : CorrelatorNo) (r q : RoundInCorrelator) (n m : Nat) (c e : End)
      (running : s.pool.correlators.get k = .running r n c) (same : q.definition = r.definition) :
      PoolMove s (s.setCorrelator k (.running q m e))
  | complete (s : State) (k : CorrelatorNo) (r q : RoundInCorrelator) (n : Nat) (c : End)
      (running : s.pool.correlators.get k = .running r n c) (same : q.definition = r.definition) :
      PoolMove s (s.completeRound k q)
  | release (s : State) (r : RoundResult) : PoolMove s (s.releaseResult r)

/-- Every block ends its work on a pair that has left DRIVING, up to the cases of the pair: what of R117 comes before
the next case resumes. -/
def State.endWork (s : State) (p : Pair) (keep : Bool) : State :=
  (((s.haltSurvey p).abortRounds p).abandonTelegrams p keep).interruptCases p

/-- What RETIRE does before pairs plan again (R22, R38). -/
def State.unlist (s : State) (r : Station) : State :=
  (((s.withdrawCases r.number).setTelegrams (s.telegrams.map (·.forget r.number))).removeStation r).dropSteering
    r.number

/-- An elementary change that a command makes. -/
inductive Move : State → State → Prop where
  | work {s t : State} (move : WorkMove s t) : Move s t
  | telegram {s t : State} (move : TelegramMove s t) : Move s t
  | case {s t : State} (move : CaseMove s t) : Move s t
  | table {s t : State} (move : TableMove s t) : Move s t
  | survey {s t : State} (move : SurveyMove s t) : Move s t
  | pool {s t : State} (move : PoolMove s t) : Move s t
  | claim (s : State) (k n : Nat) (sc : ClaimPair) (o : ClaimOwner) (granted : s.claimAnswer n sc = .granted k) :
      Move s (s.addClaim { number := k, station := n, pair := sc, owner := o })
  | release (s : State) (keep : Claim → Bool) : Move s (s.keepClaims keep)
  | stray (s : State) (p : Pair) (v : StraySlot) (lawful : v.held.isSome = true ∨ v.overrun = false) :
      Move s (s.setStrays (s.strays.set p v))
  | port (s : State) (v : RequestPort) : Move s (s.setPort v)
  | draw (s : State) (n : Nat) : Move s (s.setDraws n)
  | setline (s : State) (a : SetlineArgs) (ranges : s.line.setlineRanges a = true) : Move s (s.setline a)
  | setpair (s : State) (p : Pair) (a : SetpairArgs) (ranges : setpairRanges a = true) : Move s (s.setpair p a)
  | retire (s : State) (r : Station) (found : s.station? r.number = some r) (idle : s.retireBusy r.number = false)
      (unused : s.retireState r = false) : Move s (s.unlist r)
  | leave (s : State) (p : Pair) (c : SurveyController) (v : RequestPort) (keep : Bool)
      (driving : (s.sc p).role = .driving) (left : c.role ≠ .driving)
      (flags : (c.contention = (s.sc p).contention ∧ c.statusRead = (s.sc p).statusRead) ∨ c.statusRead = false) :
      Move s (((s.setSc p c).setPort v).endWork p keep)
  | restart (s : State) : Move s s.restart
  | powerOn (s : State) : Move s s.powerOn

/-- A sequence of elementary changes. -/
abbrev Moves : State → State → Prop := Relation.ReflTransGen Move

theorem Move.moves {s t : State} (h : Move s t) : Moves s t := .single h

theorem WorkSteps.moves {s t : State} (h : WorkSteps s t) : Moves s t := h.lift (fun _ => .refl) Relation.ReflTransGen.trans fun move => .single (.work move)

theorem TelegramMove.moves {s t : State} (h : TelegramMove s t) : Moves s t := (Move.telegram h).moves
theorem CaseMove.moves {s t : State} (h : CaseMove s t) : Moves s t := (Move.case h).moves
theorem TableMove.moves {s t : State} (h : TableMove s t) : Moves s t := (Move.table h).moves

/-- A sequence of changes of the Station Table. -/
abbrev TableSteps : State → State → Prop := Relation.ReflTransGen TableMove

theorem TableMove.steps {s t : State} (h : TableMove s t) : TableSteps s t := .single h

theorem TableSteps.moves {s t : State} (h : TableSteps s t) : Moves s t := by
  induction h with
  | refl => exact .refl
  | tail _ move ih => exact ih.tail (.table move)

theorem TableSteps.foldl {α : Type} {f : State → α → State} (h : ∀ s a, TableSteps s (f s a)) :
    ∀ (l : List α) (s : State), TableSteps s (l.foldl f s)
  | [], _ => .refl
  | a :: l, s => (h s a).trans (TableSteps.foldl h l (f s a))
theorem SurveyMove.moves {s t : State} (h : SurveyMove s t) : Moves s t := (Move.survey h).moves
theorem PoolMove.moves {s t : State} (h : PoolMove s t) : Moves s t := (Move.pool h).moves

/-- What every elementary change keeps, a sequence of them keeps. -/
theorem Moves.keeps {I : State → Prop} (step : ∀ {s t}, Move s t → I s → I t) {s t : State} (h : Moves s t)
    (hs : I s) : I t := by
  induction h with
  | refl => exact hs
  | tail _ move ih => exact step move ih

theorem Moves.foldl {α : Type} {f : State → α → State} (h : ∀ s a, Moves s (f s a)) :
    ∀ (l : List α) (s : State), Moves s (l.foldl f s)
  | [], _ => .refl
  | a :: l, s => (h s a).trans (Moves.foldl h l (f s a))

/-- One of two sequences. -/
theorem Moves.ite {c : Prop} [Decidable c] {s t u : State} (h : c → Moves s t) (k : ¬c → Moves s u) :
    Moves s (if c then t else u) := by
  split
  next yes => exact h yes
  next no => exact k no

theorem moves_raise (s : State) (c : AttentionCause) : Moves s (s.raise c) := (Move.port s _).moves

/-! ### The close of an event -/

theorem moves_pump (s : State) (p : Pair) : Moves s (s.pump p) :=
  ((((((TelegramMove.fill s p).moves.trans (TelegramMove.send _ p).moves).trans
    (TelegramMove.fill _ p).moves).trans (TelegramMove.advance _ p).moves).trans
    (TelegramMove.send _ p).moves).trans (TelegramMove.fill _ p).moves).trans (TelegramMove.advance _ p).moves

theorem moves_pumpAll (s : State) : Moves s s.pumpAll := Moves.foldl moves_pump _ s

theorem moves_startSweep (s : State) : Moves s s.startSweep := (TelegramMove.sweeper s _ (.inl rfl)).moves

theorem moves_stopIfOver {s : State} (h : s.sweepOver = true → s.sweeper.sweepPending = false) :
    Moves s s.stopIfOver :=
  Moves.ite (fun ended => (TelegramMove.sweeper s { s.sweeper with running := false } (.inr (h ended))).moves) fun _ => .refl

theorem advanceCursor_sweepPending (s : State) (p : Pair) :
    (s.advanceCursor p).sweeper.sweepPending = s.sweeper.sweepPending := by
  unfold State.advanceCursor
  split
  · split <;> rfl
  · rfl

theorem pump_sweepPending (s : State) (p : Pair) : (s.pump p).sweeper.sweepPending = s.sweeper.sweepPending := by
  unfold State.pump
  dsimp only
  rw [advanceCursor_sweepPending, (only_fillPair _ p).sweeper_eq, (only_sendHead _ p).sweeper_eq,
    advanceCursor_sweepPending, (only_fillPair _ p).sweeper_eq, (only_sendHead _ p).sweeper_eq,
    (only_fillPair s p).sweeper_eq]

/-- Pumping leaves the sweep-pending flag. -/
theorem pumpAll_sweepPending (s : State) : s.pumpAll.sweeper.sweepPending = s.sweeper.sweepPending := by
  have h : ∀ (l : List Pair) (s : State), (l.foldl State.pump s).sweeper.sweepPending = s.sweeper.sweepPending := by
    intro l
    induction l with
    | nil => exact fun _ => rfl
    | cons p l ih => exact fun s => (ih _).trans (pump_sweepPending s p)
  rw [State.pumpAll]
  exact h _ s

theorem moves_settle (s : State) : Moves s s.settle := by
  unfold State.settle
  dsimp only
  refine (moves_pumpAll s).trans (Moves.ite (fun _ => ?pending) fun alone => ?ended)
  case pending =>
    have starts : Moves s.pumpAll (s.pumpAll.setSweeper { s.pumpAll.sweeper with sweepPending := false }).startSweep :=
      (TelegramMove.sweeper _ _ (.inr rfl)).moves.trans (moves_startSweep _)
    refine (starts.trans (moves_pumpAll _)).trans (moves_stopIfOver fun _ => ?_)
    rw [pumpAll_sweepPending]
    rfl
  case ended => exact moves_stopIfOver fun ended => by simpa [ended] using alone

/-! ### Events that reach a context -/

theorem moves_writeAction (s : State) (c : Context) (e : ContextEvent) : Moves s (s.writeAction c e) := by
  unfold State.writeAction
  split
  · split
    · split
      · exact (CaseMove.action s _ _).moves
      · exact .refl
    · exact .refl
  · exact .refl

theorem moves_tell (s : State) (l : Level) (e : ContextEvent) : Moves s (s.tell l e) := by
  cases h : s.context l with
  | none => rw [tell_empty h]
  | some c => exact (moves_writeAction s c e).trans (workSteps_tell h e).moves

/-! ### Findings and alarm words -/

theorem moves_findCase {s : State} {n : Nat} (enlisted : (s.station? n).isSome = true) (p : Pair) (f : CauseFound)
    (round : Nat) : Moves s (s.findCase n p f round) := by
  unfold State.findCase
  split
  next c found => exact (CaseMove.merge s c f (caseAt?_some found).1).moves
  next absent =>
    exact Moves.ite (fun room => (CaseMove.opens s n p f round enlisted absent room).moves) fun _ => moves_raise s _

theorem Station.judgeEvent_samePlace (r : Station) (w : AlarmWord) : (r.judgeEvent w).1.samePlace r := by
  unfold Station.judgeEvent
  split
  · exact ⟨rfl, rfl, rfl, rfl, rfl, rfl, rfl⟩
  · split
    · exact ⟨rfl, rfl, rfl, rfl, rfl, rfl, rfl⟩
    · split <;> exact ⟨rfl, rfl, rfl, rfl, rfl, rfl, rfl⟩

theorem Station.judgeMatch_samePlace (r : Station) (w : AlarmWord) : (r.judgeMatch w).1.samePlace r := by
  unfold Station.judgeMatch
  dsimp only
  split
  · split
    · split <;> exact ⟨rfl, rfl, rfl, rfl, rfl, rfl, rfl⟩
    · exact ⟨rfl, rfl, rfl, rfl, rfl, rfl, rfl⟩
  · exact ⟨rfl, rfl, rfl, rfl, rfl, rfl, rfl⟩

/-- A judgement keeps the record's place and parts. -/
theorem Station.judge_samePlace (r : Station) (w : AlarmWord) : (r.judge w).1.samePlace r := by
  unfold Station.judge
  split
  · exact ⟨rfl, rfl, rfl, rfl, rfl, rfl, rfl⟩
  · exact r.judgeEvent_samePlace w
  · exact r.judgeMatch_samePlace w

/-- A change of every record of a station number that keeps its place. -/
theorem moves_updateStation {s : State} {n : Nat} {f : Station → Station} (h : ∀ q, (f q).samePlace q) :
    Moves s (s.updateStation n f) :=
  (TableMove.station s n f fun q hq hn => ⟨q, hq, hn, h q⟩).moves

theorem moves_dropLatch (s : State) (n : Nat) : Moves s (s.dropLatch n) :=
  Moves.ite (fun _ => .refl) fun _ => moves_updateStation fun _ => ⟨rfl, rfl, rfl, rfl, rfl, rfl, rfl⟩

/-- The enlisted station numbers stand. -/
theorem station?_isSome_iff {s : State} {n : Nat} :
    (s.station? n).isSome = true ↔ n ∈ s.table.stations.map (·.number) := by
  simp [Option.isSome_iff_ne_none, station?_none]

theorem updateStation_numbers (s : State) {n : Nat} {f : Station → Station} (h : ∀ q, (f q).number = n) :
    (s.updateStation n f).table.stations.map (·.number) = s.table.stations.map (·.number) := by
  simp only [State.updateStation, State.setTable_table, List.map_map]
  refine List.map_congr_left fun q _ => ?_
  by_cases e : q.number = n <;> simp [e, h]

theorem updatePart_numbers (s : State) (n : Nat) (p : Pair) (f : PairPart → PairPart) :
    (s.updatePart n p f).table.stations.map (·.number) = s.table.stations.map (·.number) := by
  simp only [State.updatePart, State.updateStation, State.setTable_table, List.map_map]
  refine List.map_congr_left fun q _ => ?_
  by_cases e : q.number = n <;> simp [e, Station.updatePart]

/-- A finding leaves the enlisted station numbers. -/
theorem findCase_numbers (s : State) (n : Nat) (p : Pair) (f : CauseFound) (round : Nat) :
    (s.findCase n p f round).table.stations.map (·.number) = s.table.stations.map (·.number) := by
  unfold State.findCase
  split
  · rw [(only_mergeCase s _ f).table_eq]
  · split
    · exact updatePart_numbers _ n p _
    · rfl

theorem moves_alarmCases (n : Nat) (w : AlarmWord) : ∀ (l : List Pair) (s : State),
    (s.station? n).isSome = true → Moves s (l.foldl (fun s p => s.alarmCase n w p) s)
  | [], _, _ => .refl
  | p :: l, s, h => (moves_findCase h p _ _).trans (moves_alarmCases n w l _ (by
      rw [station?_isSome_iff] at h ⊢
      exact findCase_numbers s n p _ _ ▸ h))

theorem moves_judgeWord (s : State) (n : Nat) (w : AlarmWord) : Moves s (s.judgeWord n w) := by
  unfold State.judgeWord
  split
  next => exact .refl
  next r found =>
    dsimp only
    obtain ⟨mem, number⟩ := station?_some found
    have place := r.judge_samePlace w
    have judged : Moves s (s.updateStation n fun _ => (r.judge w).1) :=
      (TableMove.station s n _ fun q _ _ => ⟨r, mem, number, place⟩).moves
    split
    · exact judged
    · have enlisted : ((s.updateStation n fun _ => (r.judge w).1).station? n).isSome = true := by
        rw [station?_isSome_iff, updateStation_numbers s fun _ => place.1.trans number, ← station?_isSome_iff, found]
        rfl
      exact (judged.trans (moves_alarmCases n w _ _ enlisted)).trans (moves_dropLatch _ n)

end Sys2Proof.Machine
end

section
/-! PROOFS. The changes that results, replies, timers and roles make. -/

namespace Sys2Proof.Machine

/-! ### A controller written twice -/

theorem Oct.set_set {α : Type} (o : Oct α) (i : Fin 8) (a b : α) : (o.set i a).set i b = o.set i b := by
  refine Oct.ext_get fun j => ?_
  simp only [Oct.get_set]
  split <;> rfl

theorem State.setSc_setSc (s : State) (p : Pair) (c d : SurveyController) :
    (s.setSc p c).setSc p d = s.setSc p d := by
  simp only [State.setSc, State.setSurvey_survey, Oct.set_set]
  rfl

/-! ### Pair parts -/

theorem State.hasPart.succeeds {s : State} {n : Nat} {p : Pair} {y z : PairPart} (h : s.hasPart n p y)
    (pair : z.pair = y.pair) (health : z.health = y.health) (confirm : z.confirm ≤ y.confirm) : s.succeeds n p z := by
  obtain ⟨x, hx, hn, hy, hp⟩ := h
  exact ⟨pair.trans hp, ⟨y, ⟨x, hx, hn, hy, hp⟩, health⟩, .inl ⟨y, ⟨x, hx, hn, hy, hp⟩, confirm⟩⟩

/-- A change of pair parts that keeps pair and health and raises no confirm count. -/
theorem tableSteps_updatePart {s : State} {n : Nat} {p : Pair} {f : PairPart → PairPart}
    (h : ∀ q, (f q).pair = q.pair ∧ (f q).health = q.health ∧ (f q).confirm ≤ q.confirm) :
    TableSteps s (s.updatePart n p f) :=
  (TableMove.part s n p f fun q hq => hq.succeeds (h q).1 (h q).2.1 (h q).2.2).steps

theorem moves_updatePart {s : State} {n : Nat} {p : Pair} {f : PairPart → PairPart}
    (h : ∀ q, (f q).pair = q.pair ∧ (f q).health = q.health ∧ (f q).confirm ≤ q.confirm) :
    Moves s (s.updatePart n p f) := (tableSteps_updatePart h).moves

theorem moves_refreshHealth (s : State) (n : Nat) (p : Pair) : Moves s (s.refreshHealth n p) :=
  (TableMove.refresh s n p).moves

theorem part?_hasPart {s : State} {n : Nat} {p : Pair} {q : PairPart} (h : s.part? n p = some q) : s.hasPart n p q := by
  unfold State.part? at h
  split at h
  next r found =>
    obtain ⟨mem, number⟩ := station?_some found
    exact ⟨r, mem, number, List.mem_of_find?_eq_some h, by simpa using List.find?_some h⟩
  next => cases h

theorem State.hasPart.enlisted {s : State} {n : Nat} {p : Pair} {q : PairPart} (h : s.hasPart n p q) :
    (s.station? n).isSome = true := by
  obtain ⟨x, hx, hn, -⟩ := h
  exact station?_isSome_iff.mpr (List.mem_map.mpr ⟨x, hx, hn⟩)

/-- A part written stands in the record. -/
theorem State.hasPart.updatePart {s : State} {n : Nat} {p : Pair} {q : PairPart} (h : s.hasPart n p q)
    {f : PairPart → PairPart} (pair : (f q).pair = p) : (s.updatePart n p f).hasPart n p (f q) := by
  obtain ⟨x, hx, hn, hq, hp⟩ := h
  refine ⟨x.updatePart p f, ?_, hn, ?_, pair⟩
  · exact List.mem_map.mpr ⟨x, hx, by simp [hn]⟩
  · exact List.mem_map.mpr ⟨q, hq, by simp [hp]⟩

/-! ### Results -/

theorem RoundIs.confirm_le (r : RoundIs) (k count : Nat) : r.confirm k count ≤ count ∨ r.confirm k count ≤ k := by
  cases r <;> simp [RoundIs.confirm]

theorem moves_judgeEntry {s : State} {p : Pair} {n : Nat} {q : PairPart} (h : s.hasPart n p q) (round : Nat) :
    Moves s (s.judgeEntry p n round q) := by
  unfold State.judgeEntry
  dsimp only
  have counted : Moves s (s.updatePart n p fun r => { r with
      confirm := (q.roundIs (s.settings.get p).stepThreshold).confirm (s.settings.get p).confirmRounds q.confirm }) := by
    refine (TableMove.part s n p _ fun r hr => ?_).moves
    obtain ⟨x, hx, hn, hm, hp⟩ := hr
    refine ⟨hp, ⟨r, ⟨x, hx, hn, hm, hp⟩, rfl⟩, ?_⟩
    exact (RoundIs.confirm_le _ _ _).imp (fun le => ⟨q, h, le⟩) id
  have refreshed := counted.trans (moves_refreshHealth _ n p)
  split
  · exact refreshed
  · refine Moves.ite (fun _ => refreshed.trans (moves_findCase ?_ p _ round)) fun _ => refreshed
    rw [State.refreshHealth, station?_isSome_iff, updatePart_numbers, updatePart_numbers, ← station?_isSome_iff]
    exact h.enlisted

theorem PairPart.measured_keeps (q : PairPart) (peak : Option (Int × Int)) (round : Nat) (prev : Option Int) :
    let z := match peak with
      | some (gain, offset) => q.measured gain offset round prev
      | none => q.missed
    z.pair = q.pair ∧ z.health = q.health ∧ z.confirm = q.confirm := by
  cases peak <;> exact ⟨rfl, rfl, rfl⟩

theorem moves_workEntry (p : Pair) (round : Nat) (w : State × Option Int) (e : EchoEntry) :
    Moves w.1 (State.workEntry p round w e).1 := by
  unfold State.workEntry
  split
  next => exact .refl
  next q found =>
    dsimp only
    have has := part?_hasPart found
    obtain ⟨pair, health, confirm⟩ := q.measured_keeps e.peak round w.2
    have onPair := pair.trans (by obtain ⟨_, _, _, _, hp⟩ := has; exact hp)
    have written := (TableMove.part w.1 e.station p (fun _ => match e.peak with
      | some (gain, offset) => q.measured gain offset round w.2
      | none => q.missed) fun _ _ => has.succeeds pair health (Nat.le_of_eq confirm)).moves
    exact Moves.ite
      (fun _ => written.trans (moves_judgeEntry (has.updatePart (f := fun _ => _) onPair) round))
      fun _ => written.trans (moves_refreshHealth _ _ p)

theorem moves_workEntries (s : State) (p : Pair) (round : Nat) (l : List EchoEntry) :
    Moves s (s.workEntries p round l) := by
  have h : ∀ (l : List EchoEntry) (w : State × Option Int), Moves w.1 (l.foldl (State.workEntry p round) w).1 := by
    intro l
    induction l with
    | nil => exact fun _ => .refl
    | cons e l ih => exact fun w => (moves_workEntry p round w e).trans (ih _)
  exact h l (s, none)

theorem precedingStation_mem {d n : Nat} {l : List Station} (h : precedingStation d l = some n) :
    n ∈ l.map (·.number) := by
  obtain ⟨x, last, rfl⟩ := Option.map_eq_some_iff.mp h
  exact List.mem_map_of_mem (List.mem_of_mem_filter (List.mem_of_getLast? last))

/-- The records of a list of station numbers are enlisted. -/
theorem records_enlisted {s : State} {l : List Nat} {n : Nat} (h : n ∈ (s.records l).map (·.number)) :
    (s.station? n).isSome = true := by
  obtain ⟨x, hx, rfl⟩ := List.mem_map.mp h
  obtain ⟨m, -, found⟩ := List.mem_filterMap.mp hx
  exact station?_isSome_iff.mpr (List.mem_map_of_mem (station?_some found).1)

theorem moves_captureStray (s : State) (r : RoundResult) (round d : Nat) (m : Int) :
    Moves s (s.captureStray r round d m) := by
  unfold State.captureStray
  dsimp only
  refine Relation.ReflTransGen.trans ?_ (moves_raise _ _)
  have held := (Move.stray s r.pair { s.strays.get r.pair with
    held := some { delay := d, magnitude := m, view := r.view, round := round,
                   preceding := precedingStation d (s.records (r.entries.map (·.station))),
                   following := followingStation d (s.records (r.entries.map (·.station))) } } (.inl rfl)).moves
  split
  next n chosen =>
    have enlisted (v : Oct StraySlot) : ((s.setStrays v).station? n).isSome = true := by
      refine records_enlisted (s := s) (l := r.entries.map (·.station)) ?_
      rcases Option.or_eq_some_iff.mp chosen with before | ⟨-, first⟩
      · exact precedingStation_mem before
      · obtain ⟨x, head, rfl⟩ := Option.map_eq_some_iff.mp first
        exact List.mem_map_of_mem (List.mem_of_head? head)
    exact held.trans (moves_findCase (enlisted _) _ _ round)
  next => exact held

theorem moves_workStray (s : State) (r : RoundResult) (round : Nat) : Moves s (s.workStray r round) := by
  unfold State.workStray
  split
  · exact .refl
  · split
    next => exact moves_captureStray s r round _ _
    next held => exact (Move.stray s r.pair { s.strays.get r.pair with overrun := true } (.inl (by simp [held]))).moves

theorem moves_handOver (s : State) (r : RoundResult) (round : Nat) : Moves s (s.handOver r round) := by
  unfold State.handOver
  split
  · exact .refl
  · exact moves_tell s _ _

theorem moves_assess (s : State) (r : RoundResult) : Moves s (s.assess r) :=
  (((SurveyMove.count s r).moves.trans (moves_workEntries _ _ _ _)).trans (moves_workStray _ r _)).trans
    (moves_handOver _ r _)

theorem moves_voidResult {s : State} {r : RoundResult} (h : ∃ q ∈ s.pool.queue, q.pair = r.pair) :
    Moves s (s.voidResult r) := by
  unfold State.voidResult
  split
  next => exact .refl
  next n l _ =>
    dsimp only
    have asked := (workSteps_updateContext s l fun c => { c with phase := .asked }).moves
    exact Moves.ite
      (fun _ => asked.trans (SurveyMove.putBack (s.updateContext l fun c => { c with phase := .asked }) r.pair _ h).moves)
      fun _ => asked

theorem moves_endResult (s : State) (r : RoundResult) : Moves s (s.endResult r) := by
  unfold State.endResult
  dsimp only
  have boundary := (PoolMove.release s r).moves.trans (planSteps_plan (s.releaseResult r) r.pair).work.moves
  exact ((boundary.trans (planSteps_grantAll _).work.moves).trans
    (workSteps_tellRefused (_, ((s.releaseResult r).plan r.pair).2)).moves).trans (moves_settle _)

theorem moves_takeResult (s : State) : Moves s s.takeResult := by
  unfold State.takeResult
  split
  next => exact .refl
  next r rest queue =>
    have head : ∃ q ∈ s.pool.queue, q.pair = (r.final (s.settings.get r.pair)).pair :=
      ⟨r, by simp [queue], rfl⟩
    exact (Moves.ite (fun _ => moves_assess s _) fun _ => moves_voidResult head).trans (moves_endResult _ _)

theorem moves_expireSpan (s : State) (k : CorrelatorNo) (train : EchoTrain) : Moves s (s.expireSpan k train) := by
  unfold State.expireSpan
  split
  next r n c running =>
    exact Moves.ite (fun _ => (PoolMove.burst s k r (r.hear train) n (n + 1) c _ running rfl).moves)
      fun _ => (PoolMove.complete s k r (r.hear train) n c running rfl).moves
  next => exact .refl

/-! ### Replies and timers -/

theorem tableSteps_clearPart (s : State) (p : Pair) (n : Nat) : TableSteps s (s.clearPart p n) :=
  (tableSteps_updatePart (f := PairPart.cleared) fun _ => ⟨rfl, rfl, Nat.zero_le _⟩).trans
    (TableMove.refresh _ n p).steps

theorem tableSteps_clearBranch (s : State) (p : Pair) (b : Branch) : TableSteps s (s.clearBranch p b) :=
  TableSteps.foldl (fun s n => tableSteps_clearPart s p n) _ s

theorem tableSteps_writeConnection (s : State) (n : Nat) (p : Pair) (b : Branch) (v : Connection) :
    TableSteps s (s.writeConnection n p b v) := by
  unfold State.writeConnection
  dsimp only
  have written : TableSteps s (s.updatePart n p fun q => { q with connection := some v }) :=
    tableSteps_updatePart fun q => ⟨rfl, rfl, Nat.le_refl _⟩
  split
  · exact written.trans (tableSteps_clearBranch _ p b)
  · exact written

theorem tableSteps_writeIsolation (s : State) (n : Nat) (p : Pair) (v : Isolation) :
    TableSteps s (s.writeIsolation n p v) :=
  tableSteps_updatePart fun _ => ⟨rfl, rfl, Nat.le_refl _⟩

theorem tableSteps_writeInForce (s : State) (n : Nat) (p : Pair) (st : StateInForce) :
    TableSteps s (s.writeInForce n p st) := by
  unfold State.writeInForce
  split
  · exact .refl
  · split
    · exact tableSteps_writeIsolation s n p _
    · exact tableSteps_writeConnection s n p _ _
    · exact .refl

theorem moves_writeInForce (s : State) (n : Nat) (p : Pair) (st : StateInForce) : Moves s (s.writeInForce n p st) :=
  (tableSteps_writeInForce s n p st).moves

theorem tableSteps_markUncertain (s : State) (n : Nat) (p : Pair) (k : TelegramKind) :
    TableSteps s (s.markUncertain n p k) := by
  unfold State.markUncertain
  split
  · exact .refl
  · split
    · exact tableSteps_writeIsolation s n p _
    · exact tableSteps_writeIsolation s n p _
    · exact tableSteps_writeIsolation s n p _
    · exact tableSteps_writeConnection s n p _ _
    · exact tableSteps_writeConnection s n p _ _
    · exact .refl

theorem moves_markUncertain (s : State) (n : Nat) (p : Pair) (k : TelegramKind) : Moves s (s.markUncertain n p k) :=
  (tableSteps_markUncertain s n p k).moves

theorem tableSteps_writeOperator (s : State) (p : Pair) (t : Telegram) (o : OperatorOutcome) :
    TableSteps s (s.writeOperator p t o) := tableSteps_updatePart fun _ => ⟨rfl, rfl, Nat.le_refl _⟩

theorem moves_operatorDone (s : State) (p : Pair) (t : Telegram) (o : OperatorOutcome) :
    Moves s (s.operatorDone p t o) :=
  Moves.ite (fun _ => (tableSteps_writeOperator s p t o).moves.trans (moves_raise _ _)) fun _ => .refl

/-- The steering states of one pair written. -/
theorem moves_steering (s : State) (p : Pair) (l : List (Nat × Steering)) :
    Moves s (s.setSc p { s.sc p with steering := l }) := by
  refine (SurveyMove.steering s _ fun q => ?_).moves
  rw [Oct.get_set]
  split
  next e => rw [e]
  next => rfl

theorem moves_reportSide (s : State) (p : Pair) (n : Nat) (st : StateInForce) : Moves s (s.reportSide p n st) := by
  unfold State.reportSide
  split
  · exact .refl
  · exact moves_steering s p _

theorem moves_replanIfChanged (s before : State) (p : Pair) (n : Nat) : Moves s (s.replanIfChanged before p n) :=
  Moves.ite (fun _ => .refl) fun _ => (workSteps_replanned s p).moves

theorem moves_writeReply (s : State) (p : Pair) (n : Nat) (st : StateInForce) : Moves s (s.writeReply p n st) := by
  have silent : Moves s (s.setSilent n 0) := moves_updateStation fun _ => ⟨rfl, rfl, rfl, rfl, rfl, rfl, rfl⟩
  exact ((silent.trans (moves_writeInForce _ n p st)).trans (moves_reportSide _ p n st)).trans
    (moves_replanIfChanged _ s p n)

theorem moves_handWord (s : State) (n : Nat) (c : ReplyContent) : Moves s (s.handWord n c) := by
  unfold State.handWord
  split
  · exact moves_judgeWord s n _
  · exact .refl

theorem moves_steerEnded (s : State) (p : Pair) : Moves s (State.tellRefused (s.steerEnded p)) :=
  (planSteps_steerEnded s p).work.moves.trans (workSteps_tellRefused _).moves

theorem moves_handReply (s : State) (p : Pair) (t : Telegram) (c : ReplyContent) : Moves s (s.handReply p t c) := by
  unfold State.handReply
  split
  · exact moves_operatorDone s p t _
  · exact moves_steerEnded s p
  · exact moves_tell s _ _
  · exact .refl

theorem moves_matchedReply (s : State) (p : Pair) (t : Telegram) (c : ReplyContent) :
    Moves s (s.matchedReply p t c) :=
  (((((TelegramMove.endExchange s p).moves.trans (moves_writeReply _ p t.dest c.state)).trans
    (moves_handWord _ _ c)).trans (moves_handReply _ p t c))).trans (moves_settle _)

theorem moves_dropAbandoned (s : State) (p : Pair) : Moves s (s.dropAbandoned p) :=
  (TelegramMove.listen s p (s.tc p).overheard none).moves

theorem moves_replyAbandoned (s : State) (p : Pair) (r : Reply) : Moves s (s.replyAbandoned p r) := by
  unfold State.replyAbandoned
  split
  · exact .refl
  · split
    · split
      · exact (moves_writeInForce s _ p _).trans (moves_dropAbandoned _ p)
      · exact moves_dropAbandoned s p
    · exact .refl

theorem moves_announce (s : State) : Moves s s.announce := (workSteps_announce s).moves

/-- Claims released and the release announced. -/
theorem moves_released (s : State) (keep : Claim → Bool) : Moves s (s.keepClaims keep).announce :=
  (Move.release s keep).moves.trans (moves_announce _)

theorem moves_makeFar (s : State) (n : Nat) (p : Pair) : Moves s (s.makeFar n p) := by
  unfold State.makeFar
  split
  next k granted => exact (Move.claim s k n (.one p) .far granted).moves
  next => exact .refl

theorem moves_useOverheard (s : State) (p : Pair) (n : Nat) (k : TelegramKind) (c : ReplyContent) :
    Moves s (s.useOverheard p n k c) := by
  unfold State.useOverheard
  dsimp only
  have claimed : Moves s (if isolates k c then (s.writeInForce n p c.state).makeFar n p
      else s.writeInForce n p c.state) :=
    Moves.ite (fun _ => (moves_writeInForce s n p _).trans (moves_makeFar _ n p)) fun _ => moves_writeInForce s n p _
  refine Moves.ite (fun _ => claimed.trans ?_) fun _ => claimed
  exact (Moves.ite (fun _ => moves_released _ _) fun _ => .refl).trans (moves_settle _)

theorem moves_hearReply (s : State) (p : Pair) (r : Reply) : Moves s (s.hearReply p r) := by
  unfold State.hearReply
  refine Moves.ite (fun _ => ?_) fun _ => .refl
  split
  · exact .refl
  · unfold State.replyDriving
    split
    · exact .refl
    · exact Moves.ite (fun _ => moves_matchedReply s p _ _) fun _ => .refl
  · refine Moves.ite (fun _ => moves_replyAbandoned s p r) fun _ => ?_
    unfold State.replyOverheard
    split
    · exact .refl
    · split
      · exact moves_judgeWord s _ _
      · split
        · exact moves_useOverheard s p _ _ _
        · exact .refl

theorem moves_silentCase (s : State) (n : Nat) (p : Pair) (k : TelegramKind) : Moves s (s.silentCase n p k) :=
  Moves.ite (fun enlisted => moves_findCase enlisted p _ _) fun _ => .refl

theorem moves_handFailure (s : State) (p : Pair) (t : Telegram) : Moves s (s.handFailure p t) := by
  unfold State.handFailure
  split
  · exact (moves_steering s p _).trans (moves_steerEnded _ p)
  · exact moves_tell s _ _
  · exact .refl

theorem moves_failExchange (s : State) (p : Pair) (t : Telegram) : Moves s (s.failExchange p t) := by
  unfold State.failExchange
  dsimp only
  have marked := (TelegramMove.endExchange s p).moves.trans (moves_markUncertain _ t.dest p t.kind)
  exact ((((marked.trans (moves_replanIfChanged _ _ p _)).trans (moves_operatorDone _ p t _)).trans
    (moves_silentCase _ _ p _)).trans (moves_handFailure _ p t)).trans (moves_settle _)

theorem moves_failPoll (s : State) (p : Pair) (t : Telegram) : Moves s (s.failPoll p t) := by
  unfold State.failPoll
  dsimp only
  refine (TelegramMove.endExchange s p).moves.trans ?_
  split
  · exact moves_settle _
  · refine Relation.ReflTransGen.trans ?_ (moves_settle _)
    have silent (u : State) (v : Nat) : Moves u (u.setSilent t.dest v) :=
      moves_updateStation fun _ => ⟨rfl, rfl, rfl, rfl, rfl, rfl, rfl⟩
    exact Moves.ite (fun _ => (silent _ _).trans (moves_silentCase _ _ p _)) fun _ => silent _ _

theorem moves_expireReply (s : State) (p : Pair) : Moves s (s.expireReply p) := by
  unfold State.expireReply
  split
  next => exact .refl
  next o out =>
    exact Moves.ite (fun _ => moves_failPoll s p _) fun _ =>
      Moves.ite (fun _ => (TelegramMove.retry s p o.telegram o out).moves) fun _ => moves_failExchange s p _

theorem moves_expirePoll (s : State) : Moves s s.expirePoll := by
  unfold State.expirePoll
  dsimp only
  split
  next running => exact (TelegramMove.sweeper s { s.sweeper with
      pollTimer := s.line.pollPeriod, sweepPending := true } (.inl running)).moves
  next =>
    exact (TelegramMove.sweeper s { s.sweeper with
      pollTimer := s.line.pollPeriod, running := true, cursors := Oct.fill 0 } (.inl rfl)).moves.trans (moves_settle _)

theorem moves_expireClaimWait (s : State) (l : Level) : Moves s (s.expireClaimWait l) := by
  unfold State.expireClaimWait
  split
  · exact .refl
  · exact Moves.ite (fun _ => ((workSteps_updateContext s l _).moves.trans (moves_tell _ l _)).trans (moves_settle _))
      fun _ => .refl

theorem suspendWork_arbiter (s : State) : s.suspendWork.arbiter = s.arbiter := by
  unfold State.suspendWork
  split
  · rfl
  · split
    · exact (only_withdrawFocus s _ _).arbiter_eq
    · rfl

theorem bestCase_congr {s t : State} (h : t.arbiter = s.arbiter) : ∀ l, t.bestCase l = s.bestCase l
  | [] => rfl
  | c :: l => by
    have served : t.servedBefore = s.servedBefore := by
      funext c d
      simp only [State.servedBefore, h]
    rw [State.bestCase, State.bestCase, bestCase_congr h l, served]

/-- The case that a grant is due to follows from the arbiter and from which pairs drive. -/
theorem grantDue_congr {s t : State} (arbiter : t.arbiter = s.arbiter) (driving : ∀ p, t.driving p = s.driving p) :
    t.grantDue = s.grantDue := by
  have eligible : t.eligible = s.eligible := by
    funext c
    simp only [State.eligible, arbiter, driving]
  have top : t.topCase? = s.topCase? := by simp only [State.topCase?, State.case?, arbiter]
  rw [State.grantDue, State.grantDue, arbiter, eligible, bestCase_congr arbiter, top]

theorem bestCase_mem {s : State} {c : Case} : ∀ {l : List Case}, s.bestCase l = some c → c ∈ l
  | d :: l, best => by
    unfold State.bestCase at best
    split at best
    next => cases best; exact .head _
    next e found =>
      split at best
      · cases best
        exact .tail _ (bestCase_mem found)
      · cases best
        exact .head _

theorem grantDue_mem {s : State} {c : Case} (due : s.grantDue = some c) : c ∈ s.arbiter.cases := by
  unfold State.grantDue at due
  split at due
  next => cases due
  next d best =>
    have member := List.mem_of_mem_filter (bestCase_mem best)
    split at due
    · cases due
      exact member
    · split at due
      · cases due
        exact member
      · cases due

theorem setCaseState_mem {s : State} {c : Case} (hc : c ∈ s.arbiter.cases) (k : Nat) (st : CaseState) :
    ∃ d ∈ (s.setCaseState k st).arbiter.cases, d.number = c.number ∧ d.level = c.level := by
  refine ⟨_, List.mem_map_of_mem hc, ?_⟩
  split <;> exact ⟨rfl, rfl⟩

/-- The case granted is open still when it is on top. -/
theorem pushCase_mem {s : State} {c : Case} (hc : c ∈ s.arbiter.cases) :
    ∃ d ∈ (s.pushCase c).arbiter.cases, d.number = c.number ∧ d.level = c.level := by
  obtain ⟨d, hd, number, level⟩ : ∃ d ∈ s.suspendTop.arbiter.cases, d.number = c.number ∧ d.level = c.level := by
    unfold State.suspendTop
    split
    · exact ⟨c, hc, rfl, rfl⟩
    · exact setCaseState_mem hc _ _
  obtain ⟨e, he, number', level'⟩ := setCaseState_mem hd c.number .active
  exact ⟨e, he, number'.trans number, level'.trans level⟩

theorem moves_caseGrant (s : State) : Moves s s.caseGrant := by
  unfold State.caseGrant
  split
  next => exact .refl
  next k due =>
    refine Relation.ReflTransGen.trans ?_ (moves_settle _)
    have suspended := workSteps_suspendWork s
    have still := (grantDue_congr (suspendWork_arbiter s) suspended.driving).trans due
    obtain ⟨d, member, number, level⟩ := pushCase_mem (s := s.suspendWork) (c := k) (by
      rw [suspendWork_arbiter]
      exact grantDue_mem due)
    have started := workSteps_startContext (k := { k with state := .active }) member
      (congrArg some number.symm) level
    exact ((suspended.moves.trans (CaseMove.push _ k still).moves).trans started.moves).trans
      (workSteps_conclude _).moves

/-! ### Roles -/

theorem moves_leaveDriving {s : State} {p : Pair} {c : SurveyController} {v : RequestPort} (keep : Bool)
    (driving : (s.sc p).role = .driving) (left : c.role ≠ .driving)
    (flags : (c.contention = (s.sc p).contention ∧ c.statusRead = (s.sc p).statusRead) ∨ c.statusRead = false) :
    Moves s (((s.setSc p c).setPort v).leaveDriving p keep) := by
  have ended := (Move.leave s p c v keep driving left flags).moves
  exact Moves.ite (fun _ => ended) fun _ =>
    (ended.trans (workSteps_resume _).moves).trans (workSteps_conclude _).moves

theorem moves_endListening (s : State) (p : Pair) : Moves s (s.endListening p) :=
  (TelegramMove.listen s p [] none).moves

theorem moves_leaveListening (s : State) (p : Pair) : Moves s (s.leaveListening p) :=
  (moves_endListening s p).trans (Moves.ite (fun _ => moves_released _ _) fun _ => .refl)

/-- The release of a pair's FAR claims leaves its role. -/
theorem leaveListening_role (s : State) (p q : Pair) : ((s.leaveListening p).sc q).role = (s.sc q).role := by
  unfold State.leaveListening State.releaseFar
  split
  · exact (workSteps_announce _).role q
  · rfl

/-- The survey of a pair that has just become DRIVING starts. -/
theorem moves_startSurvey {s : State} {p : Pair} (driving : s.driving p = true) : Moves s (s.startSurvey p) := by
  unfold State.startSurvey
  dsimp only
  refine (moves_steering s p ((s.sc p).steering.map fun e => (e.1, Steering.unknown))).trans ?_
  have live : (s.setSc p { s.sc p with steering := (s.sc p).steering.map fun e => (e.1, Steering.unknown) }).live p :=
    .inl (by simpa [State.driving] using driving)
  have cleared := (planSteps_controller live (c := { s.sc p with
    steering := (s.sc p).steering.map fun e => (e.1, Steering.unknown), rotation := .trunk, dwellCount := 0,
    focused := none }) (by simp [SurveyController.agrees])).work.moves
  rw [State.setSc_setSc] at cleared
  exact cleared.trans (planSteps_planRegular (.inl (by simpa [State.driving] using driving)) _ _).work.moves

theorem moves_changeRole {s : State} {p : Pair} {r : Role} (new : (s.sc p).role ≠ r) : Moves s (s.changeRole p r) := by
  unfold State.changeRole
  dsimp only
  cases old : (s.sc p).role with
  | driving =>
    have left : r ≠ .driving := fun e => new (old.trans e.symm)
    have leaves : Moves s ((s.setRole p r).leaveDriving p (r == .listening)) :=
      moves_leaveDriving (v := s.port) _ old (c := { s.sc p with role := r }) left (.inl ⟨rfl, rfl⟩)
    cases r with
    | driving => exact absurd rfl left
    | off => exact leaves
    | listening => exact leaves
  | listening =>
    have enters := (SurveyMove.role s p r (by simp [old])).moves
    have leaves := enters.trans (moves_leaveListening (s.setRole p r) p)
    cases r with
    | driving =>
      refine leaves.trans (moves_startSurvey ?_)
      rw [State.driving, leaveListening_role, State.setRole, State.sc_setSc_self]
      rfl
    | off => exact leaves
    | listening => exact leaves
  | off =>
    have enters := (SurveyMove.role s p r (by simp [old])).moves
    cases r with
    | driving =>
      refine enters.trans (moves_startSurvey ?_)
      rw [State.driving, State.setRole, State.sc_setSc_self]
      rfl
    | off => exact enters
    | listening => exact enters

theorem moves_role (s : State) (p : Pair) (r : Role) : Moves s (s.role p r) :=
  Moves.ite (fun _ => .refl) fun new => (moves_changeRole (by simpa using new)).trans (moves_settle _)

theorem moves_decode (s : State) (p : Pair) (sig : FarSignal) : Moves s (s.decode p sig) := by
  unfold State.decode
  split
  · exact .refl
  · unfold State.overhear
    split
    · exact .refl
    · exact (TelegramMove.listen s p _ (s.tc p).abandoned).moves

theorem moves_contend {s : State} {p : Pair} (driving : (s.sc p).role = .driving) : Moves s (s.contend p) := by
  have h := moves_leaveDriving (s := s) (p := p) (v := { s.port with attention := s.port.attention.add .contention })
    (c := { s.sc p with role := .listening, contention := true, statusRead := false }) true driving (by simp)
    (.inr rfl)
  have flagged : ((s.setRole p .listening).flagContention p) =
      s.setSc p { s.sc p with role := .listening, contention := true, statusRead := false } := by
    rw [State.flagContention, State.setRole, State.sc_setSc_self, State.setSc_setSc]
  rw [State.contend, flagged]
  exact h

theorem moves_farEndDrive (s : State) (p : Pair) (sig : FarSignal) : Moves s (s.farEndDrive p sig) := by
  unfold State.farEndDrive
  refine Moves.ite (fun _ => ?_) fun _ => .refl
  split
  next driving => exact ((moves_contend driving).trans (moves_decode _ p sig)).trans (moves_settle _)
  next => exact moves_decode s p sig
  next => exact .refl

end Sys2Proof.Machine
end

section
/-! PROOFS. The changes that requests make, and every command as a sequence of elementary changes; the command with
no meaning to the laws of the part that an elementary change keeps. -/

namespace Sys2Proof.Machine

/-! ### ENLIST, AMEND, RETIRE -/

theorem moves_gainSteering (s : State) (n : Nat) (kind : StationKind) : Moves s (s.gainSteering n kind) := by
  unfold State.gainSteering
  split
  · exact .refl
  · refine (SurveyMove.steering s _ fun p => ?_).moves
    rw [Oct.get_make]
    split <;> rfl

theorem moves_presentHeldBack (s : State) (p : Pair) : Moves s (s.presentHeldBack p) := by
  unfold State.presentHeldBack
  dsimp only
  refine Moves.ite (fun held => ?_) fun _ => .refl
  simp only [Bool.and_eq_true, beq_iff_eq] at held
  have live : s.live p := .inr (by simp [held.1.1])
  exact (planSteps_present live.engaged _).work.moves

theorem moves_enlistOnPair (kind : StationKind) (s : State) (p : Pair) : Moves s (State.enlistOnPair kind s p) := by
  unfold State.enlistOnPair
  split
  · exact moves_presentHeldBack s p
  · exact Moves.ite (fun _ => (workSteps_replanned s p).moves) fun _ => moves_presentHeldBack s p

theorem moves_enlist {s : State} {a : EnlistArgs} {kind : StationKind} {g : Segment}
    (read : readEnlist a = some (kind, g)) (legal : s.enlistRefusal a kind g = none) :
    Moves s (s.enlist a kind g) := by
  unfold State.enlist
  dsimp only
  exact (((TableMove.place s a kind g read legal).moves.trans (moves_gainSteering _ _ kind)).trans
    (Moves.foldl (moves_enlistOnPair kind) _ _)).trans (moves_settle _)

theorem moves_setBaseline (n : Nat) (s : State) (e : Nat × Int) : Moves s (State.setBaseline n s e) := by
  unfold State.setBaseline
  split
  · exact .refl
  · exact (moves_updatePart (f := fun q => { q with baseline := some e.2, confirm := 0 })
      fun _ => ⟨rfl, rfl, Nat.zero_le _⟩).trans (moves_refreshHealth _ n _)

theorem moves_amend {s : State} {r : Station} {a : AmendArgs} (found : s.station? r.number = some r)
    (legal : s.amendRefusal r a = none) : Moves s (s.amend r a) := by
  unfold State.amend
  exact (TableMove.amend s r a found legal).moves.trans (Moves.foldl (moves_setBaseline r.number) _ _)

theorem moves_retireOnPair (before : State) (n : Nat) (s : State) (p : Pair) :
    Moves s (State.retireOnPair before n s p) :=
  Moves.ite (fun _ => (workSteps_replanned s p).moves) fun _ => .refl

theorem moves_retire {s : State} {r : Station} (found : s.station? r.number = some r)
    (idle : s.retireBusy r.number = false) (unused : s.retireState r = false) : Moves s (s.retire r) := by
  unfold State.retire
  dsimp only
  exact ((Move.retire s r found idle unused).moves.trans (Moves.foldl (moves_retireOnPair s r.number) _ _)).trans
    (moves_settle _)

theorem moves_performEnlist (a : EnlistArgs) (s : State) : Moves s (performEnlist a s).1 := by
  unfold performEnlist
  split
  next => exact .refl
  next kind g read =>
    split
    next => exact .refl
    next legal =>
      rw [State.ok_fst]
      exact moves_enlist read legal

theorem moves_performAmend (a : AmendArgs) (s : State) : Moves s (performAmend a s).1 := by
  unfold performAmend
  split
  next => exact .refl
  next r found =>
    split
    next => exact .refl
    next legal =>
      rw [State.ok_fst]
      exact moves_amend ((station?_some found).2 ▸ found) legal

theorem moves_performRetire (n : Nat) (s : State) : Moves s (performRetire n s).1 := by
  unfold performRetire
  split
  next => exact .refl
  next r found =>
    obtain ⟨-, rfl⟩ := station?_some found
    split
    next => exact .refl
    next idle =>
      split
      next => exact .refl
      next unused =>
        rw [State.ok_fst]
        exact moves_retire found (by simpa using idle) (by simpa using unused)

theorem moves_performRebase (n p : Nat) (s : State) : Moves s (performRebase n p s).1 := by
  unfold performRebase
  split
  · exact .refl
  · split
    · exact .refl
    · split
      · exact .refl
      · split
        · exact (TableMove.rebase s _ _).moves
        · exact .refl

theorem moves_performShift (g d : Nat) (x : Int) (s : State) : Moves s (performShift g d x s).1 := by
  unfold performShift
  split
  next => exact .refl
  next seg _ =>
    split
    next =>
      split
      next => exact .refl
      next legal =>
        unfold State.acceptShift
        split
        · exact .refl
        · exact (TableMove.shift s seg d x legal).moves
    next => exact .refl

/-! ### Settings, roles, cases, claims, operator actions -/

theorem moves_performSetline (a : SetlineArgs) (s : State) : Moves s (performSetline a s).1 := by
  unfold performSetline
  split
  next ranges =>
    split
    · exact .refl
    · exact (Move.setline s a ranges).moves
  next => exact .refl

theorem moves_performSetpair (a : SetpairArgs) (s : State) : Moves s (performSetpair a s).1 := by
  unfold performSetpair
  split
  next => exact .refl
  next p _ =>
    split
    next ranges => exact (Move.setpair s p a ranges).moves
    next => exact .refl

theorem moves_performPolicy (a : PolicyArgs) (s : State) : Moves s (performPolicy a s).1 := by
  unfold performPolicy
  split
  · exact .refl
  · exact (CaseMove.policy s _).moves

theorem moves_performRole (p r : Nat) (s : State) : Moves s (performRole p r s).1 := by
  unfold performRole
  split
  · split
    · exact .refl
    · split
      · exact .refl
      · exact moves_role s _ _
  · exact .refl

theorem moves_performPairStatus (p : Nat) (s : State) : Moves s (performPairStatus p s).1 := by
  unfold performPairStatus
  split
  next => exact .refl
  next q _ =>
    have read (contended : (s.sc q).contention = true) :=
      (SurveyMove.flags s q (s.sc q).contention true (.inl contended)).moves
    exact Moves.ite read fun _ => .refl

theorem moves_performClear (p : Nat) (s : State) : Moves s (performClear p s).1 := by
  unfold performClear
  split
  next => exact .refl
  next q _ =>
    split
    · exact (SurveyMove.flags s q false false (.inr rfl)).moves
    · exact .refl

theorem moves_closeCase {s : State} {c : Case} (found : s.case? c.number = some c) (idle : c.inService = false) :
    Moves s (s.closeCase c) := by
  unfold State.closeCase
  dsimp only
  refine Relation.ReflTransGen.trans ?_ (moves_settle _)
  have closed := (CaseMove.close s c found idle).moves
  exact (Moves.ite (fun _ => closed.trans (moves_dropLatch _ _)) fun _ => closed).trans
    (Moves.ite (fun _ => moves_released _ _) fun _ => .refl)

theorem moves_performClose (n : Nat) (s : State) : Moves s (performClose n s).1 := by
  unfold performClose
  split
  · split
    next => exact .refl
    next c found =>
      split
      next => exact .refl
      next idle =>
        rw [State.ok_fst]
        exact moves_closeCase ((case?_some found).2 ▸ found) (by simpa using idle)
  · exact .refl

theorem moves_performTake (n p : Nat) (s : State) : Moves s (performTake n p s).1 := by
  unfold performTake State.takeScope
  split
  · exact .refl
  · split
    · split
      · exact .refl
      · split
        · split
          · exact .refl
          · exact .refl
          next granted => exact (Move.claim s _ _ _ .operator granted).moves
        · exact .refl
    · exact .refl

theorem moves_performDrop (n : Nat) (s : State) : Moves s (performDrop n s).1 := by
  unfold performDrop
  split
  · split
    · exact .refl
    · split
      · rw [State.ok_fst]
        exact (moves_released s _).trans (moves_settle _)
      · exact .refl
  · exact .refl

theorem moves_operateOn (n : Nat) (k : TelegramKind) (s : State) (p : Pair) :
    Moves s (State.operateOn n k s p) := by
  unfold State.operateOn
  dsimp only
  have written : Moves s (s.updatePart n p (·.operate k)) :=
    moves_updatePart (f := (·.operate k)) fun _ => ⟨rfl, rfl, Nat.le_refl _⟩
  split
  next q found =>
    refine written.trans (WorkMove.submit _ p _ rfl ?_).steps.moves
    obtain ⟨r, member, number, -⟩ := part?_hasPart found
    exact ⟨r, member, number⟩
  next => exact written

theorem moves_performOperator (n p : Nat) (k : Option TelegramKind) (s : State) :
    Moves s (performOperator n p k s).1 := by
  unfold performOperator
  split
  · split
    · split
      · exact .refl
      · split
        · exact .refl
        · dsimp only [State.operate]
          exact (Moves.foldl (moves_operateOn _ _) _ s).trans (moves_settle _)
    · exact .refl
  · exact .refl

/-! ### Every command -/

/-- Performing a request is a sequence of elementary changes. -/
theorem moves_perform {i : Instr} {f : State → Answer} (hf : performer i = some f) (s : State) : Moves s (f s).1 := by
  have unchanged {t : State} (h : t = s) : Moves s t := h ▸ .refl
  cases i <;> simp only [performer, Option.some.injEq, reduceCtorEq] at hf <;> subst hf
  case findByNumber => exact unchanged (by unfold performFindByNumber; split <;> rfl)
  case findByAddress => exact unchanged (by unfold performFindByAddress; split <;> (try split) <;> rfl)
  case findByDelay =>
    refine unchanged ?_
    unfold performFindByDelay State.findDelay
    dsimp only
    repeat' split
    all_goals rfl
  case findNext =>
    refine unchanged ?_
    unfold performFindNext State.findNextNumber State.findNextDelay
    repeat' split
    all_goals rfl
  case enlist a => exact moves_performEnlist a s
  case amend a => exact moves_performAmend a s
  case retire n => exact moves_performRetire n s
  case rebase n p => exact moves_performRebase n p s
  case shift g d x => exact moves_performShift g d x s
  case setline a => exact moves_performSetline a s
  case setpair a => exact moves_performSetpair a s
  case policy a => exact moves_performPolicy a s
  case role p r => exact moves_performRole p r s
  case pairStatus p => exact moves_performPairStatus p s
  case clearContention p => exact moves_performClear p s
  case listCases => exact .refl
  case readCase => exact unchanged (by unfold performReadCase; split <;> (try split) <;> rfl)
  case close n => exact moves_performClose n s
  case take n p => exact moves_performTake n p s
  case drop n => exact moves_performDrop n s
  case listClaims => exact .refl
  case isolate n p a => exact moves_performOperator n p _ s
  case restore n p => exact moves_performOperator n p _ s
  case cut n p => exact moves_performOperator n p _ s
  case reconnect n p => exact moves_performOperator n p _ s
  case strayRead p =>
    unfold performStrayRead
    split
    next => exact .refl
    next q _ => exact (Move.stray s q StraySlot.empty (.inr rfl)).moves
  case attend => exact (Move.port s _).moves
  case attentionEnable =>
    unfold performAttentionEnable
    split
    · exact (Move.port s _).moves
    · exact .refl
  case restart => exact (Move.restart s).moves

/-- A request frame, taken or out of turn. -/
theorem moves_request {s : State} {f : State → Answer} (h : Moves s (f s).1) (k : Byte) : Moves s (s.request k f) := by
  unfold State.request
  split
  · exact h.trans (Move.port _ _).moves
  · exact (Move.port s _).moves

theorem moves_requestFrame (s : State) (bytes : List Byte) : Moves s (s.requestFrame bytes) := by
  unfold State.requestFrame
  split
  · exact moves_request (Move.draw s _).moves _
  · split
    next f found =>
      obtain ⟨i, -, hf⟩ := Option.bind_eq_some_iff.mp found
      exact moves_request (moves_perform hf s) _
    next => exact moves_request (f := performBadFrame) .refl _

theorem moves_read (s : State) (n : Nat) : Moves s (s.read n) := by
  unfold State.read
  split
  · exact (Move.port s _).moves
  · exact (Move.port s _).moves
  · exact Moves.ite (fun _ => (Move.port s _).moves.trans (Move.port _ _).moves) fun _ => (Move.port s _).moves

/-- What an event does, as a state; a request as its frame. -/
theorem exec_moves {i : Instr} {s t : State} (h : exec i s = .next t) : Moves s t := by
  by_cases request : (requestKind i).isSome = true
  · obtain ⟨k, hk⟩ := Option.isSome_iff_exists.mp request
    rw [← performer_isSome] at request
    obtain ⟨f, hf⟩ := Option.isSome_iff_exists.mp request
    rw [exec_request hk hf] at h
    cases h
    exact moves_request (moves_perform hf s) _
  · cases i <;> try exact absurd rfl request
    case badframe bytes =>
      cases h
      exact moves_requestFrame s bytes
    case frameCollision =>
      cases h
      unfold State.collide
      split
      · exact .refl
      · exact (Move.port s _).moves
    case responseReady =>
      cases h
      unfold State.finishPerforming
      split
      · exact (Move.port s _).moves
      · exact .refl
    case readTransaction n =>
      cases h
      exact moves_read s n
    case ignoredTransaction first rest =>
      cases h
      exact Moves.ite (fun _ => moves_requestFrame s rest) fun _ =>
        Moves.ite (fun _ => moves_read s _) fun _ => (Move.port s _).moves
    case powerOnReset =>
      cases h
      exact (Move.powerOn s).moves
    case farEndDrive p sig =>
      cases h
      exact moves_farEndDrive s p sig
    case reply p r =>
      cases h
      exact moves_hearReply s p r
    case replyTimerExpiry p =>
      cases h
      exact moves_expireReply s p
    case pollTimerExpiry =>
      cases h
      exact moves_expirePoll s
    case listenSpanExpiry k train =>
      cases h
      exact moves_expireSpan s k train
    case takeResult =>
      cases h
      exact moves_takeResult s
    case caseGrant =>
      cases h
      exact moves_caseGrant s
    case claimWaitExpiry l =>
      cases h
      exact moves_expireClaimWait s l

/-- A law that reads nothing of the waiting commands, and that every elementary change keeps, every step keeps. -/
theorem step_keeps {I : State → Prop} (pending : ∀ {s : State} (l), I s → I (s.setPending l))
    (move : ∀ {s t}, Move s t → I s → I t) {s t : State} (h : step s = .next t) (hs : I s) : I t := by
  unfold step at h
  split at h
  · cases h
    exact hs
  · exact (exec_moves h).keeps move (pending _ hs)

end Sys2Proof.Machine
end

section
/-! PROOFS. The settings, the flags, the stray slots and the claims under every elementary change, the blocks that each
kind of change reaches, and insertion into the part's sorted lists: O54. -/

namespace Sys2Proof.Machine

/-! ### The blocks that a kind of change reaches -/

theorem TelegramMove.only {s t : State} (h : TelegramMove s t) : Only [.telegrams, .sweeper] s t := by
  cases h with
  | fill p => exact (only_fillPair s p).up
  | send p => exact (only_sendHead s p).up
  | advance p => exact only_advanceCursor s p
  | sweeper v _ => exact (only_setSweeper s v).up
  | retry p t _ _ => exact (only_retry s p t).up
  | endExchange p => exact (only_endExchange s p).up
  | listen p l a => exact (only_setTc s p _).up

theorem CaseMove.only {s t : State} (h : CaseMove s t) : Only [.arbiter, .table, .port] s t := by
  cases h with
  | merge c f _ => exact (only_mergeCase s c f).up
  | opens n p f round _ _ _ => exact only_openCase s n p f round
  | action k cmd => exact (only_updateCase s k _).up
  | push k _ => exact (only_pushCase s k).up
  | close c _ _ =>
    exact (only_setArbiter s _).comp ((only_updatePart _ _ _ _).comp (m := [.table]) (only_refreshHealth _ _ _))
  | policy v => exact (only_setArbiter s _).up

theorem TableMove.only {s t : State} (h : TableMove s t) : Only [.table] s t := by
  cases h with
  | station n f _ => exact only_updateStation s n f
  | part n p f _ => exact only_updatePart s n p f
  | refresh n p => exact only_refreshHealth s n p
  | place a kind g _ _ => exact only_placeStation s _
  | amend r a _ _ =>
    exact Only.ite ((only_updateStation s _ _).trans ((only_setIndex _ _ _).trans (only_bumpGeneration _ _)))
      (only_updateStation s _ _)
  | rebase st scope => exact only_setTable s _
  | shift g d x _ => exact only_shift s g d x

theorem SurveyMove.only {s t : State} (h : SurveyMove s t) : Only [.survey] s t := by
  cases h with
  | steering v _ => exact only_setSurvey s v
  | count r => exact only_countResult s r
  | putBack p f _ => exact only_setSc s p _
  | flags p _ _ _ => exact only_setSc s p _
  | role p r _ => exact only_setRole s p r

theorem PoolMove.only {s t : State} (h : PoolMove s t) : Only [.pool, .survey] s t := by
  cases h with
  | burst k _ q _ m _ e _ _ => exact (only_setCorrelator s k _).up
  | complete k _ q _ _ _ _ => exact only_completeRound s k q
  | release r => exact (only_releaseResult s r).up

theorem only_endWork (s : State) (p : Pair) (keep : Bool) :
    Only [.survey, .pool, .contexts, .telegrams, .table, .port, .arbiter] s (s.endWork p keep) :=
  (only_haltSurvey s p).comp ((only_abortRounds _ p).comp (m := [.survey, .pool, .contexts, .telegrams, .table, .port, .arbiter])
    ((only_abandonTelegrams _ p keep).comp (m := [.survey, .pool, .contexts, .telegrams, .table, .port, .arbiter])
      (only_interruptCases _ p)))

theorem only_unlist (s : State) (r : Station) : Only [.arbiter, .telegrams, .table, .survey] s (s.unlist r) := by
  intro f hf
  cases f <;> first | rfl | simp at hf

theorem unlist_survey (s : State) (r : Station) : (s.unlist r).survey =
    s.survey.map fun c => { c with steering := c.steering.filter fun e => e.1 != r.number } := rfl

/-! ### Insertion into a sorted list -/

theorem insertClaim_eq (c : Claim) : ∀ l : List Claim,
    insertClaim c l = l.orderedInsert (fun a b => a.number < b.number) c
  | [] => rfl
  | d :: rest => by rw [insertClaim, List.orderedInsert_cons, insertClaim_eq c rest]

theorem insertCase_eq (c : Case) : ∀ l : List Case,
    insertCase c l = l.orderedInsert (fun a b => a.number < b.number) c
  | [] => rfl
  | d :: rest => by rw [insertCase, List.orderedInsert_cons, insertCase_eq c rest]

theorem insertStation_eq (r : Station) : ∀ l : List Station,
    insertStation r l = l.orderedInsert (fun a b => a.number < b.number) r
  | [] => rfl
  | d :: rest => by rw [insertStation, List.orderedInsert_cons, insertStation_eq r rest]

/-- Insertion by a key that the list does not hold keeps the keys strictly increasing. -/
theorem pairwise_orderedInsert {α : Type} {key : α → Nat} {a : α} {l : List α}
    (sorted : l.Pairwise fun x y => key x < key y) (absent : ∀ b ∈ l, key b ≠ key a) :
    (l.orderedInsert (fun x y => key x < key y) a).Pairwise fun x y => key x < key y := by
  induction l with
  | nil => simp
  | cons b rest ih =>
    obtain ⟨first, sortedRest⟩ := List.pairwise_cons.mp sorted
    rw [List.orderedInsert_cons]
    split
    next lt =>
      refine List.pairwise_cons.mpr ⟨fun c hc => ?_, sorted⟩
      rcases List.mem_cons.mp hc with rfl | hc
      · exact lt
      · exact lt.trans (first c hc)
    next ge =>
      have above : key b < key a := Nat.lt_of_le_of_ne (Nat.le_of_not_lt ge) (absent b (by simp))
      refine List.pairwise_cons.mpr ⟨fun c hc => ?_, ih sortedRest fun c hc => absent c (by simp [hc])⟩
      rcases (List.mem_orderedInsert _).mp hc with rfl | hc
      · exact above
      · exact first c hc

/-- Insertion keeps a symmetric relation between any two members. -/
theorem pairwise_orderedInsert_of_symm {α : Type} {R : α → α → Prop} {r : α → α → Prop} [DecidableRel r] {a : α}
    {l : List α} (symm : ∀ {x y}, R x y → R y x) (related : l.Pairwise R) (new : ∀ b ∈ l, R a b) :
    (l.orderedInsert r a).Pairwise R :=
  ((List.perm_orderedInsert r a l).pairwise_iff symm).mpr (List.pairwise_cons.mpr ⟨new, related⟩)

/-- Strictly rising numbers below a bound are no more than the bound. -/
theorem length_le_of_rising {l : List Nat} {n : Nat} (sorted : rising l = true) (below : ∀ x ∈ l, x < n) :
    l.length ≤ n := by
  have nodup : l.Nodup := ((rising_iff l).mp sorted).imp Nat.ne_of_lt
  simpa using (List.subperm_of_subset nodup fun x hx => List.mem_range.mpr (below x hx)).length_le

/-! ### The settings -/

theorem settingsLaw_iff {s : State} : s.settingsLaw = true ↔ s.line.wf = true ∧ ∀ p, (s.settings.get p).wf = true := by
  simp [State.settingsLaw, mem_allPairs]

theorem settingsLaw_of_eq {s t : State} (line : t.line = s.line) (settings : t.settings = s.settings)
    (h : s.settingsLaw = true) : t.settingsLaw = true := by
  rwa [settingsLaw_iff, line, settings, ← settingsLaw_iff]

theorem settingsLaw_of_only {l : List Part} {s t : State} (h : Only l s t) (hs : s.settingsLaw = true)
    (line : Part.line ∉ l := by decide) (settings : Part.settings ∉ l := by decide) : t.settingsLaw = true :=
  settingsLaw_of_eq (h.line_eq line) (h.settings_eq settings) hs

/-- An operand named and in its range, or the value in force, is in its range. -/
theorem optOk_getD {α : Type} {f : α → Bool} {o : Option α} {a : α} (named : optOk f o = true) (stands : f a = true) :
    f (o.getD a) = true := by
  cases o with
  | none => exact stands
  | some b => exact named

theorem branchSetOk_self {e : PairSet} (h : e ≠ 0#8) : branchSetOk e e = true := by
  simp [branchSetOk, subsetOf, h]

/-- SETLINE leaves every whole-line setting in its range. -/
theorem setline_wf {l : LineSettings} {a : SetlineArgs} (law : l.wf = true) (ranges : l.setlineRanges a = true) :
    (l.setline a).wf = true := by
  simp only [LineSettings.setlineRanges, Bool.and_eq_true] at ranges
  simp only [LineSettings.wf, Bool.and_eq_true, bne_iff_ne] at law
  obtain ⟨⟨⟨⟨⟨⟨⟨-, named⟩, branch1⟩, branch2⟩, branch3⟩, poll⟩, turnaround⟩, wait⟩ := ranges
  obtain ⟨⟨⟨⟨⟨⟨equipped, -⟩, -⟩, -⟩, pollStands⟩, turnaroundStands⟩, waitStands⟩ := law
  have some : l.equippedAfter a ≠ 0#8 := by
    simpa [LineSettings.equippedAfter] using optOk_getD (f := fun q => q != 0#8) named (by simpa using equipped)
  simp only [LineSettings.wf, LineSettings.setline, Bool.and_eq_true, bne_iff_ne]
  exact ⟨⟨⟨⟨⟨⟨some, optOk_getD branch1 (branchSetOk_self some)⟩, optOk_getD branch2 (branchSetOk_self some)⟩,
    optOk_getD branch3 (branchSetOk_self some)⟩, optOk_getD poll pollStands⟩,
    optOk_getD turnaround turnaroundStands⟩, optOk_getD wait waitStands⟩

/-- SETPAIR leaves every setting of its pair in its range. -/
theorem setpair_wf {v : PairSettings} {a : SetpairArgs} (law : v.wf = true) (ranges : setpairRanges a = true) :
    (v.setpair a).wf = true := by
  simp only [setpairRanges, Bool.and_eq_true] at ranges
  simp only [PairSettings.wf, Bool.and_eq_true] at law
  obtain ⟨⟨⟨⟨⟨depth, dwell⟩, threshold⟩, rounds⟩, floor⟩, stray⟩ := ranges
  obtain ⟨⟨⟨⟨⟨depthStands, dwellStands⟩, thresholdStands⟩, roundsStand⟩, floorStands⟩, strayStands⟩ := law
  simp only [PairSettings.wf, PairSettings.setpair, Bool.and_eq_true]
  exact ⟨⟨⟨⟨⟨optOk_getD depth depthStands, optOk_getD dwell dwellStands⟩, optOk_getD threshold thresholdStands⟩,
    optOk_getD rounds roundsStand⟩, optOk_getD floor floorStands⟩, optOk_getD stray strayStands⟩

theorem Move.settingsLaw {s t : State} (h : Move s t) (hs : s.settingsLaw = true) : t.settingsLaw = true := by
  cases h with
  | work m => exact settingsLaw_of_only m.only hs
  | telegram m => exact settingsLaw_of_only m.only hs
  | case m => exact settingsLaw_of_only m.only hs
  | table m => exact settingsLaw_of_only m.only hs
  | survey m => exact settingsLaw_of_only m.only hs
  | pool m => exact settingsLaw_of_only m.only hs
  | claim | release | stray | port | draw | retire | restart => exact settingsLaw_of_eq rfl rfl hs
  | leave p c v keep => exact settingsLaw_of_only (only_endWork _ p keep) (settingsLaw_of_eq rfl rfl hs)
  | powerOn => exact show State.reset.settingsLaw = true by decide
  | setline a ranges =>
    obtain ⟨line, pairs⟩ := settingsLaw_iff.mp hs
    exact settingsLaw_iff.mpr ⟨setline_wf line ranges, pairs⟩
  | setpair p a ranges =>
    obtain ⟨line, pairs⟩ := settingsLaw_iff.mp hs
    refine settingsLaw_iff.mpr ⟨line, fun q => ?_⟩
    show ((s.settings.set p ((s.settings.get p).setpair a)).get q).wf = true
    rw [Oct.get_set]
    split
    · exact setpair_wf (pairs p) ranges
    · exact pairs q

/-! ### The flags -/

/-- The status-read flag is not set while the contention flag is clear (R114). -/
def SurveyController.flagged (c : SurveyController) : Prop := c.contention = true ∨ c.statusRead = false

/-- No sweep is pending while none runs (R100). -/
def PollSweeper.lawful (v : PollSweeper) : Prop := v.running = true ∨ v.sweepPending = false

theorem flagLaw_iff {s : State} : s.flagLaw = true ↔ (∀ p, (s.sc p).flagged) ∧ s.sweeper.lawful := by
  simp [State.flagLaw, SurveyController.flagged, PollSweeper.lawful, mem_allPairs]

/-- The law of the flags reads the two flags of every pair and the two of the sweep. -/
theorem flagLaw_of {s t : State} (hs : s.flagLaw = true) (flags : (∀ p, (s.sc p).flagged) → ∀ p, (t.sc p).flagged)
    (sweep : s.sweeper.lawful → t.sweeper.lawful) : t.flagLaw = true :=
  have ⟨pairs, sweeper⟩ := flagLaw_iff.mp hs
  flagLaw_iff.mpr ⟨flags pairs, sweep sweeper⟩

theorem flagLaw_of_eq {s t : State} (survey : t.survey = s.survey) (sweeper : t.sweeper = s.sweeper)
    (hs : s.flagLaw = true) : t.flagLaw = true :=
  flagLaw_of hs (fun h p => by rw [State.sc, survey]; exact h p) fun h => by rwa [sweeper]

/-- A controller written with flags as they were, or lawful ones. -/
theorem flagged_setSc {s : State} {p : Pair} {c : SurveyController}
    (h : (c.contention = (s.sc p).contention ∧ c.statusRead = (s.sc p).statusRead) ∨ c.flagged)
    (hs : ∀ q, (s.sc q).flagged) (q : Pair) : ((s.setSc p c).sc q).flagged := by
  by_cases e : q = p
  · subst e
    rw [State.sc_setSc_self]
    rcases h with ⟨contention, read⟩ | h
    · have stands := hs q
      rwa [SurveyController.flagged, ← contention, ← read] at stands
    · exact h
  · rw [State.sc_setSc_ne _ _ e]
    exact hs q

theorem SurveyController.agrees.flagged {c d : SurveyController} (h : c.agrees d) (hc : c.flagged) : d.flagged := by
  obtain ⟨-, contention, read, -⟩ := h
  rwa [SurveyController.flagged, contention, read]

theorem TelegramMove.sweeper_lawful {s t : State} (h : TelegramMove s t) (hs : s.sweeper.lawful) :
    t.sweeper.lawful := by
  cases h with
  | fill p => rwa [(only_fillPair s p).sweeper_eq]
  | send p => rwa [(only_sendHead s p).sweeper_eq]
  | advance p =>
    unfold State.advanceCursor
    repeat' split
    all_goals exact hs
  | sweeper v flags => exact flags
  | retry p t _ _ => rwa [(only_retry s p t).sweeper_eq]
  | endExchange p => exact hs
  | listen p l a => exact hs

theorem SurveyMove.flagged {s t : State} (h : SurveyMove s t) (hs : ∀ p, (s.sc p).flagged) (q : Pair) :
    (t.sc q).flagged := by
  cases h with
  | steering v same =>
    show (v.get q).flagged
    rw [same q]
    exact hs q
  | count r => exact flagged_setSc (by exact .inl ⟨rfl, rfl⟩) hs q
  | putBack p f _ => exact flagged_setSc (by exact .inl ⟨rfl, rfl⟩) hs q
  | flags p contention read lawful => exact flagged_setSc (by exact .inr lawful) hs q
  | role p r _ => exact flagged_setSc (by exact .inl ⟨rfl, rfl⟩) hs q

theorem PoolMove.flagged {s t : State} (h : PoolMove s t) (hs : ∀ p, (s.sc p).flagged) (q : Pair) :
    (t.sc q).flagged := by
  cases h with
  | burst k _ _ _ _ _ _ _ _ => exact hs q
  | complete k _ r _ _ _ _ =>
    exact flagged_setSc (s := (s.setCorrelator k (.ready r)).setPool _) (by exact .inl ⟨rfl, rfl⟩) hs q
  | release r => exact hs q

theorem grantAll_agrees (s : State) (q : Pair) : (s.sc q).agrees (s.grantAll.sc q) := (planSteps_grantAll s).work.agrees q

/-- The end of a pair's work leaves the flags of every pair. -/
theorem endWork_flagged {s : State} {p : Pair} {keep : Bool} (hs : ∀ q, (s.sc q).flagged) (q : Pair) :
    ((s.endWork p keep).sc q).flagged := by
  have halted : ∀ q, ((s.haltSurvey p).sc q).flagged := flagged_setSc (by exact .inl ⟨rfl, rfl⟩) hs
  have aborted : (((s.haltSurvey p).abortRounds p).sc q).flagged := (grantAll_agrees _ q).flagged (halted q)
  have same : (s.endWork p keep).survey = ((s.haltSurvey p).abortRounds p).survey :=
    (only_interruptCases _ p).survey_eq.trans (only_abandonTelegrams _ p keep).survey_eq
  rwa [State.sc, same]

theorem Move.flagLaw {s t : State} (h : Move s t) (hs : s.flagLaw = true) : t.flagLaw = true := by
  cases h with
  | work m => exact flagLaw_of hs (fun flags p => (m.agrees p).flagged (flags p)) fun sweep => m.only.sweeper_eq ▸ sweep
  | telegram m => exact flagLaw_of hs (fun flags p => by rw [State.sc, m.only.survey_eq]; exact flags p) m.sweeper_lawful
  | case m => exact flagLaw_of_eq m.only.survey_eq m.only.sweeper_eq hs
  | table m => exact flagLaw_of_eq m.only.survey_eq m.only.sweeper_eq hs
  | survey m => exact flagLaw_of hs m.flagged fun sweep => m.only.sweeper_eq ▸ sweep
  | pool m => exact flagLaw_of hs m.flagged fun sweep => m.only.sweeper_eq ▸ sweep
  | claim | release | stray | port | draw | setpair => exact flagLaw_of_eq rfl rfl hs
  | setline => exact flagLaw_of hs id id
  | retire r =>
    refine flagLaw_of hs (fun flags p => ?_) id
    rw [State.sc, unlist_survey, Oct.get_map]
    exact flags p
  | leave p c v keep _ _ flags =>
    refine flagLaw_of hs (fun stands => endWork_flagged (flagged_setSc ?_ stands)) fun sweep => ?_
    · exact flags.imp_right .inr
    · exact (only_endWork ((s.setSc p c).setPort v) p keep).sweeper_eq ▸ sweep
  | restart =>
    refine flagLaw_iff.mpr ⟨fun p => .inr ?_, .inr rfl⟩
    rw [State.sc, State.restart, Oct.get_make]
    rfl
  | powerOn => rfl

/-! ### The stray slots -/

theorem strayLaw_of_eq {s t : State} (strays : t.strays = s.strays) (hs : s.strayLaw = true) : t.strayLaw = true := by
  rwa [State.strayLaw, strays, ← State.strayLaw]

theorem Move.strayLaw {s t : State} (h : Move s t) (hs : s.strayLaw = true) : t.strayLaw = true := by
  cases h with
  | work m => exact strayLaw_of_eq m.only.strays_eq hs
  | telegram m => exact strayLaw_of_eq m.only.strays_eq hs
  | case m => exact strayLaw_of_eq m.only.strays_eq hs
  | table m => exact strayLaw_of_eq m.only.strays_eq hs
  | survey m => exact strayLaw_of_eq m.only.strays_eq hs
  | pool m => exact strayLaw_of_eq m.only.strays_eq hs
  | claim | release | port | draw | setline | setpair | retire => exact strayLaw_of_eq rfl hs
  | stray p v lawful =>
    refine strayLaw_iff.mpr fun q => ?_
    show ((s.strays.set p v).get q).held = none → ((s.strays.set p v).get q).overrun = false
    rw [Oct.get_set]
    split
    · exact fun empty => lawful.resolve_left (by simp [empty])
    · exact strayLaw_iff.mp hs q
  | leave p c v keep => exact strayLaw_of_eq (only_endWork ((s.setSc p c).setPort v) p keep).strays_eq hs
  | restart => exact strayLaw_iff.mpr fun p _ => congrArg StraySlot.overrun (Oct.get_fill StraySlot.empty p)
  | powerOn => rfl

/-! ### The claims -/

/-- The law of the Claim Table (R146); numbers below 16 that rise are no more than 16. -/
theorem claimLaw_iff {s : State} : s.claimLaw = true ↔ (s.claims.Pairwise fun c d => c.number < d.number) ∧
    (∀ c ∈ s.claims, c.number < 16) ∧ s.claims.Pairwise fun c d => c.overlaps d.station d.pair = false := by
  simp only [State.claimLaw, Bool.and_eq_true, rising_iff, noTwo_iff, List.pairwise_map, decide_eq_true_eq,
    List.all_eq_true]
  refine ⟨fun ⟨⟨⟨_, sorted⟩, below⟩, apart⟩ => ⟨sorted, below, apart⟩, fun ⟨sorted, below, apart⟩ =>
    ⟨⟨⟨?_, sorted⟩, below⟩, apart⟩⟩
  simpa using length_le_of_rising (l := s.claims.map (·.number)) (n := 16)
    ((rising_iff _).mpr (List.pairwise_map.mpr sorted)) (by simpa using below)

theorem claimLaw_of_eq {s t : State} (claims : t.claims = s.claims) (hs : s.claimLaw = true) : t.claimLaw = true := by
  rwa [State.claimLaw, claims, ← State.claimLaw]

theorem ClaimPair.overlaps_comm (a b : ClaimPair) : a.overlaps b = b.overlaps a := by
  cases a <;> cases b <;> simp [ClaimPair.overlaps, BEq.comm]

theorem Claim.overlaps_comm (c d : Claim) : c.overlaps d.station d.pair = d.overlaps c.station c.pair := by
  simp [Claim.overlaps, c.pair.overlaps_comm, BEq.comm (a := c.station)]

/-- A granted number is free, and no claim overlaps the scope (R147, R148). -/
theorem claimAnswer_granted {s : State} {n k : Nat} {sc : ClaimPair} (h : s.claimAnswer n sc = .granted k) :
    freeClaimNumber s.claims = some k ∧ ∀ c ∈ s.claims, c.overlaps n sc = false := by
  unfold State.claimAnswer at h
  split at h
  next => simp at h
  next free =>
    split at h
    next number =>
      cases h
      exact ⟨number, by simpa [State.holder?] using free⟩
    next => simp at h

/-- A granted claim joins a lawful table. -/
theorem claimLaw_addClaim {s : State} {n k : Nat} {sc : ClaimPair} {o : ClaimOwner}
    (granted : s.claimAnswer n sc = .granted k) (hs : s.claimLaw = true) :
    (s.addClaim { number := k, station := n, pair := sc, owner := o }).claimLaw = true := by
  obtain ⟨number, apart⟩ := claimAnswer_granted granted
  obtain ⟨bound, free, -⟩ := freeClaimNumber_some number
  obtain ⟨sorted, below, noOverlap⟩ := claimLaw_iff.mp hs
  rw [claimLaw_iff, State.addClaim, State.setClaims_claims, insertClaim_eq]
  refine ⟨pairwise_orderedInsert (key := Claim.number) sorted free, fun c hc => ?_,
    pairwise_orderedInsert_of_symm (fun {c d} h => by rwa [Claim.overlaps_comm]) noOverlap fun c hc => ?_⟩
  · rcases (List.mem_orderedInsert _).mp hc with rfl | hc
    · exact bound
    · exact below c hc
  · rw [Claim.overlaps_comm]
    exact apart c hc

theorem claimLaw_keepClaims {s : State} {keep : Claim → Bool} (hs : s.claimLaw = true) :
    (s.keepClaims keep).claimLaw = true := by
  obtain ⟨sorted, below, apart⟩ := claimLaw_iff.mp hs
  exact claimLaw_iff.mpr ⟨sorted.filter _, fun c hc => below c (List.mem_of_mem_filter hc), apart.filter _⟩

theorem WorkMove.claimLaw {s t : State} (h : WorkMove s t) (hs : s.claimLaw = true) : t.claimLaw = true := by
  cases h with
  | contexts | occupy | controller | unpresent | present => exact claimLaw_of_eq rfl hs
  | grant k p kind => exact claimLaw_of_eq (only_grantTo s k p kind).claims_eq hs
  | submit p t => exact claimLaw_of_eq (only_submit s p t).claims_eq hs
  | askAuto k n p _ =>
    unfold State.askAuto
    split
    next granted => exact claimLaw_of_eq (s := s.addClaim _) rfl (claimLaw_addClaim granted hs)
    next => exact hs
  | leave o => exact claimLaw_of_eq (only_leaveService s o).claims_eq hs

theorem Move.claimLaw {s t : State} (h : Move s t) (hs : s.claimLaw = true) : t.claimLaw = true := by
  cases h with
  | work m => exact m.claimLaw hs
  | telegram m => exact claimLaw_of_eq m.only.claims_eq hs
  | case m => exact claimLaw_of_eq m.only.claims_eq hs
  | table m => exact claimLaw_of_eq m.only.claims_eq hs
  | survey m => exact claimLaw_of_eq m.only.claims_eq hs
  | pool m => exact claimLaw_of_eq m.only.claims_eq hs
  | claim k n sc o granted => exact claimLaw_addClaim granted hs
  | release keep => exact claimLaw_keepClaims hs
  | stray | port | draw | setline | setpair | retire => exact claimLaw_of_eq rfl hs
  | leave p c v keep => exact claimLaw_of_eq (only_endWork ((s.setSc p c).setPort v) p keep).claims_eq hs
  | restart | powerOn => rfl

/-- Settles O54: every elementary change keeps each of the four laws. -/
theorem stepKeepsSettingsFlagsAndClaims : Obligations.StepKeepsSettingsFlagsAndClaims := by
  intro s t taken
  refine ⟨?settings, ?flags, ?strays, ?claims⟩
  case settings => exact step_keeps (I := fun s => s.settingsLaw = true) (fun _ h => h) Move.settingsLaw taken
  case flags => exact step_keeps (I := fun s => s.flagLaw = true) (fun _ h => h) Move.flagLaw taken
  case strays => exact step_keeps (I := fun s => s.strayLaw = true) (fun _ h => h) Move.strayLaw taken
  case claims => exact step_keeps (I := fun s => s.claimLaw = true) (fun _ h => h) Move.claimLaw taken

end Sys2Proof.Machine
end

section
/-! PROOFS. The station records under every elementary change: O55. A law of the Station Table is kept by every
elementary change once it is kept by the changes of the table, by SETPAIR, by a retirement and by RESTART. -/

namespace Sys2Proof.Machine

/-! ### What an accepted request has passed -/

theorem readEnlist_some {a : EnlistArgs} {kind : StationKind} {g : Segment} (h : readEnlist a = some (kind, g)) :
    a.station ≤ 255 ∧ addressOk a.address = true ∧ delayOk a.delay = true ∧ optOk windowOk a.window = true ∧
    readKind a.kind a.branch = some kind ∧ readSegment a.segment = some g ∧ (kind = .repeater ∨ g = .trunk) := by
  unfold readEnlist at h
  split at h
  next ranges =>
    simp only [Bool.and_eq_true, stationOk_iff] at ranges
    obtain ⟨⟨⟨number, address⟩, delay⟩, window⟩ := ranges
    split at h
    next kindRead segmentRead =>
      cases h
      exact ⟨number, address, delay, window, kindRead, segmentRead, .inl rfl⟩
    next kindRead segmentRead =>
      cases h
      exact ⟨number, address, delay, window, kindRead, segmentRead, .inr rfl⟩
    next => cases h
  next => cases h

/-- A check that refuses, or the checks after it. -/
theorem ite_some_eq_none {α : Type} {c : Prop} [Decidable c] {a : α} {o : Option α} :
    (if c then some a else o) = none ↔ ¬c ∧ o = none := by split <;> simp [*]

theorem enlistRefusal_none {s : State} {a : EnlistArgs} {kind : StationKind} {g : Segment} :
    s.enlistRefusal a kind g = none ↔ s.station? a.station = none ∧ s.byAddress? a.address = none ∧
      s.enlistState kind g = false ∧ s.clearsUnit g a.delay (a.window.getD Config.defaultWindow) = true ∧
      s.overlapsIn g a.station a.delay (a.window.getD Config.defaultWindow) = false := by
  simp [State.enlistRefusal, ite_some_eq_none, and_assoc]

theorem amendRefusal_none {s : State} {r : Station} {a : AmendArgs} :
    s.amendRefusal r a = none ↔ r.amendRanges a = true ∧
      (amendsKeys a && (s.hasOutstanding r.number || s.hasCase r.number (·.inService))) = false ∧
      s.addressTaken r.number a.address = false ∧
      (amendsPlace a = true → s.amendClears r (a.delay.getD r.delay) (a.window.getD r.window) = true ∧
        s.overlapsIn r.segment r.number (a.delay.getD r.delay) (a.window.getD r.window) = false) := by
  simp only [State.amendRefusal, ite_some_eq_none, Bool.not_eq_true, Bool.not_eq_false', Bool.and_eq_false_iff,
    and_true]
  grind

/-! ### Laws of the Station Table -/

/-- What every change of the Station Table keeps, a sequence of them keeps. -/
theorem TableSteps.keeps {I : State → Prop} (step : ∀ {s t}, TableMove s t → I s → I t) {s t : State}
    (h : TableSteps s t) (hs : I s) : I t := by
  induction h with
  | refl => exact hs
  | tail _ move ih => exact step move ih

/-! ### Abandonment in its parts -/

/-- The record's part in the loss of a pair's outstanding telegram (R96). -/
def State.loseOutstanding (s : State) (p : Pair) : State :=
  match (s.tc p).outstanding with
  | some o => s.markUncertain o.telegram.dest p o.telegram.kind
  | none => s

/-- The exchange that an abandonment keeps (R96). -/
def TelegramController.kept (c : TelegramController) (keep : Bool) : Option AbandonedExchange :=
  match keep, c.outstanding with
  | true, some o => some { address := o.address, tag := o.tag, kind := o.telegram.kind }
  | _, _ => none

/-- A controller whose telegrams are abandoned, with the exchange kept (R96). -/
def TelegramController.emptied (c : TelegramController) (a : Option AbandonedExchange) : TelegramController :=
  { c with queue := [], waitLine := [], outstanding := none, abandoned := a }

/-- The telegrams whose operator outcomes an abandonment of the pair ends (R96). -/
def State.abandonedWork (s : State) (p : Pair) : List Telegram := (s.tc p).operatorWork.filter (s.operatorCurrent p)

/-- The state of an abandonment before its attention cause. -/
def State.abandoned (s : State) (p : Pair) (keep : Bool) : State :=
  ((s.loseOutstanding p).setTc p ((s.tc p).emptied ((s.tc p).kept keep))).abandonOutcomes p (s.abandonedWork p)

theorem abandonTelegrams_eq (s : State) (p : Pair) (keep : Bool) : s.abandonTelegrams p keep =
    if (s.abandonedWork p).isEmpty then s.abandoned p keep else (s.abandoned p keep).raise .operatorDone := rfl

theorem tableSteps_loseOutstanding (s : State) (p : Pair) : TableSteps s (s.loseOutstanding p) := by
  unfold State.loseOutstanding
  split
  · exact tableSteps_markUncertain s _ p _
  · exact .refl

theorem tableSteps_abandonOutcomes (s : State) (p : Pair) (l : List Telegram) :
    TableSteps s (s.abandonOutcomes p l) :=
  TableSteps.foldl (fun v t => tableSteps_writeOperator v p t .abandoned) _ s

/-- A law that reads the Station Table, the settings and the cases is kept when a pair's telegrams are abandoned. -/
theorem abandonTelegrams_keeps {I : State → Prop}
    (congr : ∀ {s t : State}, I s → t.table = s.table → t.settings = s.settings → t.arbiter = s.arbiter → I t)
    (table : ∀ {s t}, TableMove s t → I s → I t) {s : State} (hs : I s) (p : Pair) (keep : Bool) :
    I (s.abandonTelegrams p keep) := by
  have emptied (v : TelegramController) : I ((s.loseOutstanding p).setTc p v) :=
    congr ((tableSteps_loseOutstanding s p).keeps table hs) rfl rfl rfl
  have abandoned : I (s.abandoned p keep) := (tableSteps_abandonOutcomes _ p _).keeps table (emptied _)
  rw [abandonTelegrams_eq]
  split
  · exact abandoned
  · exact congr abandoned rfl rfl rfl

/-- A law that reads the Station Table and the settings is kept by every elementary change when it is kept by the
changes of the table, by SETPAIR, by a retirement and by RESTART, and holds right after power-on reset. -/
theorem Move.keepsTable {I : State → Prop}
    (congr : ∀ {s t : State}, I s → t.table = s.table → t.settings = s.settings → I t)
    (table : ∀ {s t}, TableMove s t → I s → I t)
    (setpair : ∀ s p a, I s → I (s.setpair p a))
    (remove : ∀ s r, s.station? r.number = some r → s.retireState r = false → I s → I (s.removeStation r))
    (restart : ∀ s, I s → I s.restart) (powerOn : ∀ s, I (State.powerOn s)) {s t : State} (h : Move s t) (hs : I s) :
    I t := by
  cases h with
  | work m => exact congr hs m.only.table_eq m.only.settings_eq
  | telegram m => exact congr hs m.only.table_eq m.only.settings_eq
  | table m => exact table m hs
  | survey m => exact congr hs m.only.table_eq m.only.settings_eq
  | pool m => exact congr hs m.only.table_eq m.only.settings_eq
  | claim | release | stray | port | draw | setline => exact congr hs rfl rfl
  | setpair p a _ => exact setpair s p a hs
  | restart => exact restart s hs
  | powerOn => exact powerOn s
  | retire r found _ unused => exact congr (remove s r found unused hs) rfl rfl
  | leave p c v keep =>
    have halted : I (((s.setSc p c).setPort v).haltSurvey p) := congr hs rfl rfl
    have aborted := congr halted (only_abortRounds _ p).table_eq (only_abortRounds _ p).settings_eq
    have abandoned := abandonTelegrams_keeps (fun h table settings _ => congr h table settings) table aborted p keep
    exact congr abandoned (only_interruptCases _ p).table_eq (only_interruptCases _ p).settings_eq
  | case m =>
    cases m with
    | merge c f => exact congr hs (only_mergeCase s c f).table_eq (only_mergeCase s c f).settings_eq
    | opens n p f round =>
      obtain ⟨v, opened⟩ : ∃ v, s.openCase n p f round = ((s.setArbiter v).refreshHealth n p).raise .caseNew :=
        ⟨_, rfl⟩
      rw [opened]
      exact congr (table (TableMove.refresh (s.setArbiter v) n p) (congr hs rfl rfl)) rfl rfl
    | action | policy => exact congr hs rfl rfl
    | push k => exact congr hs (only_pushCase s k).table_eq (only_pushCase s k).settings_eq
    | close c =>
      exact table (TableMove.refresh _ _ _) ((tableSteps_updatePart
        (s := s.setArbiter _) (f := fun q => { q with confirm := 0 }) fun _ => ⟨rfl, rfl, Nat.zero_le _⟩).keeps
        table (congr hs rfl rfl))

/-! ### The keys -/

/-- The law of the keys (R1); station numbers below 256 that rise are no more than 256. -/
theorem keyLaw_iff {s : State} : s.keyLaw = true ↔ (s.table.stations.Pairwise fun r q => r.number < q.number) ∧
    (∀ r ∈ s.table.stations, r.number < 256) ∧ s.table.stations.Pairwise fun r q => r.address ≠ q.address := by
  simp only [State.keyLaw, Bool.and_eq_true, rising_iff, noTwo_iff, List.pairwise_map, decide_eq_true_eq,
    List.all_eq_true, beq_eq_false_iff_ne]
  refine ⟨fun ⟨⟨⟨_, sorted⟩, below⟩, apart⟩ => ⟨sorted, below, apart⟩, fun ⟨sorted, below, apart⟩ =>
    ⟨⟨⟨?_, sorted⟩, below⟩, apart⟩⟩
  simpa using length_le_of_rising (l := s.table.stations.map (·.number)) (n := 256)
    ((rising_iff _).mpr (List.pairwise_map.mpr sorted)) (by simpa using below)

/-- A number names one record. -/
theorem eq_of_number_eq {s : State} (h : s.keyLaw = true) {r q : Station} (hr : r ∈ s.table.stations)
    (hq : q ∈ s.table.stations) (e : r.number = q.number) : r = q := by
  have found := station?_of_mem h hr
  rw [e, station?_of_mem h hq] at found
  exact (Option.some.inj found).symm

/-- Records changed one by one keep the law when each keeps its number and none takes another's address. -/
theorem keyLaw_map {s t : State} {g : Station → Station} (stations : t.table.stations = s.table.stations.map g)
    (number : ∀ r ∈ s.table.stations, (g r).number = r.number)
    (address : ∀ r ∈ s.table.stations, ∀ q ∈ s.table.stations, r.number ≠ q.number → r.address ≠ q.address →
      (g r).address ≠ (g q).address) (hs : s.keyLaw = true) : t.keyLaw = true := by
  obtain ⟨sorted, below, apart⟩ := keyLaw_iff.mp hs
  rw [keyLaw_iff, stations, List.pairwise_map, List.pairwise_map]
  refine ⟨sorted.imp_of_mem fun hr hq lt => by rwa [number _ hr, number _ hq], ?_, ?_⟩
  · simp only [List.mem_map, forall_exists_index, and_imp, forall_apply_eq_imp_iff₂]
    exact fun r hr => number r hr ▸ below r hr
  · exact (sorted.and apart).imp_of_mem fun hr hq ⟨lt, ne⟩ => address _ hr _ hq (Nat.ne_of_lt lt) ne

/-- Records changed one by one with their keys kept. -/
theorem keyLaw_of_keys {s t : State} {g : Station → Station} (stations : t.table.stations = s.table.stations.map g)
    (keys : ∀ r ∈ s.table.stations, (g r).number = r.number ∧ (g r).address = r.address) (hs : s.keyLaw = true) :
    t.keyLaw = true :=
  keyLaw_map stations (fun r hr => (keys r hr).1)
    (fun r hr q hq _ ne => by rwa [(keys r hr).2, (keys q hq).2]) hs

theorem keyLaw_of_stations {s t : State} (stations : t.table.stations = s.table.stations) (hs : s.keyLaw = true) :
    t.keyLaw = true := keyLaw_of_keys (g := id) (by simpa using stations) (fun _ _ => ⟨rfl, rfl⟩) hs

theorem keyLaw_updateStation {s : State} {n : Nat} {f : Station → Station}
    (same : ∀ q ∈ s.table.stations, q.number = n → (f q).number = q.number ∧ (f q).address = q.address)
    (hs : s.keyLaw = true) : (s.updateStation n f).keyLaw = true := by
  refine keyLaw_of_keys (g := fun r => if r.number == n then f r else r) rfl (fun r hr => ?_) hs
  split
  next e => exact same r hr (by simpa using e)
  next => exact ⟨rfl, rfl⟩

theorem keyLaw_updatePart {s : State} {n : Nat} {p : Pair} {f : PairPart → PairPart} (hs : s.keyLaw = true) :
    (s.updatePart n p f).keyLaw = true := keyLaw_updateStation (fun _ _ _ => ⟨rfl, rfl⟩) hs

theorem addressTaken_false {s : State} {n : Nat} {o : Option Nat} (h : s.addressTaken n o = false) {x : Nat}
    (hx : o = some x) : ∀ q ∈ s.table.stations, q.number ≠ n → q.address ≠ x := by
  subst hx
  intro q hq ne e
  simp only [State.addressTaken, List.any_eq_false, Bool.and_eq_true, beq_iff_eq, bne_iff_ne] at h
  exact h q hq ⟨e, ne⟩

/-- What AMEND makes of the record itself (R16 to R18, R20). -/
def Station.amended (r : Station) (a : AmendArgs) : Station := (r.amendGeometry a).amendWatch a

@[simp] theorem Station.amended_number (r : Station) (a : AmendArgs) : (r.amended a).number = r.number := by
  unfold Station.amended Station.amendWatch
  split <;> rfl

@[simp] theorem Station.amended_kind (r : Station) (a : AmendArgs) : (r.amended a).kind = r.kind := by
  unfold Station.amended Station.amendWatch
  split <;> rfl

@[simp] theorem Station.amended_segment (r : Station) (a : AmendArgs) : (r.amended a).segment = r.segment := by
  unfold Station.amended Station.amendWatch
  split <;> rfl

@[simp] theorem Station.amended_address (r : Station) (a : AmendArgs) :
    (r.amended a).address = a.address.getD r.address := by
  unfold Station.amended Station.amendWatch
  split <;> rfl

@[simp] theorem Station.amended_delay (r : Station) (a : AmendArgs) : (r.amended a).delay = a.delay.getD r.delay := by
  unfold Station.amended Station.amendWatch
  split <;> rfl

@[simp] theorem Station.amended_window (r : Station) (a : AmendArgs) :
    (r.amended a).window = a.window.getD r.window := by
  unfold Station.amended Station.amendWatch
  split <;> rfl

@[simp] theorem Station.amended_parts (r : Station) (a : AmendArgs) : (r.amended a).parts = r.parts := by
  unfold Station.amended Station.amendWatch
  split <;> rfl

/-- The state after AMEND has written the record and its place in the Delay Index. -/
def State.amendPlace (s : State) (r : Station) (a : AmendArgs) : State :=
  let t := s.updateStation r.number (·.amended a)
  if amendsPlace a then t.amendIndex r (a.delay.getD r.delay) else t

theorem amendPlace_stations (s : State) (r : Station) (a : AmendArgs) : (s.amendPlace r a).table.stations =
    s.table.stations.map fun q => if q.number == r.number then q.amended a else q := by
  unfold State.amendPlace
  dsimp only
  split <;> rfl

theorem keyLaw_amend {s : State} {r : Station} {a : AmendArgs} (legal : s.amendRefusal r a = none)
    (hs : s.keyLaw = true) : (s.amendPlace r a).keyLaw = true := by
  obtain ⟨-, -, taken, -⟩ := amendRefusal_none.mp legal
  have new : ∀ q ∈ s.table.stations, ∀ z ∈ s.table.stations, q.number = r.number → z.number ≠ r.number →
      q.address ≠ z.address → (q.amended a).address ≠ z.address := by
    intro q _ z hz _ other ne
    rw [Station.amended_address]
    cases e : a.address with
    | none => exact ne
    | some x => exact (addressTaken_false taken e z hz other).symm
  refine keyLaw_map (amendPlace_stations s r a) (fun q _ => ?_) (fun q hq z hz apart ne => ?_) hs
  · split <;> simp
  · by_cases hqn : q.number = r.number <;> by_cases hzn : z.number = r.number
    · exact absurd (hqn.trans hzn.symm) apart
    · simpa [hqn, hzn] using new q hq z hz hqn hzn ne
    · simpa [hqn, hzn] using (new z hz q hq hzn hqn ne.symm).symm
    · simpa [hqn, hzn] using ne

theorem placeStation_stations (s : State) (r : Station) :
    (s.placeStation r).table.stations = s.table.stations.orderedInsert (fun a b => a.number < b.number) r :=
  insertStation_eq r _

theorem mem_placeStation {s : State} {r q : Station} :
    q ∈ (s.placeStation r).table.stations ↔ q = r ∨ q ∈ s.table.stations := by
  rw [placeStation_stations, List.mem_orderedInsert]

theorem keyLaw_place {s : State} {a : EnlistArgs} {kind : StationKind} {g : Segment}
    (read : readEnlist a = some (kind, g)) (legal : s.enlistRefusal a kind g = none) (hs : s.keyLaw = true) :
    (s.placeStation (s.newStation a kind g)).keyLaw = true := by
  obtain ⟨bound, -⟩ := readEnlist_some read
  obtain ⟨number, address, -⟩ := enlistRefusal_none.mp legal
  obtain ⟨sorted, below, apart⟩ := keyLaw_iff.mp hs
  rw [keyLaw_iff, placeStation_stations]
  refine ⟨pairwise_orderedInsert (key := Station.number) sorted (station?_none.mp number), fun r hr => ?_,
    pairwise_orderedInsert_of_symm Ne.symm apart fun q hq => (byAddress?_none.mp address q hq).symm⟩
  rcases (List.mem_orderedInsert _).mp hr with rfl | hr
  · exact Nat.lt_succ_of_le bound
  · exact below r hr

/-- Generations alone change when segments are marked changed. -/
theorem bumpGenerations_stations : ∀ (l : List Segment) (s : State),
    (l.foldl State.bumpGeneration s).table.stations = s.table.stations ∧
      (l.foldl State.bumpGeneration s).table.index = s.table.index
  | [], _ => ⟨rfl, rfl⟩
  | g :: l, s => bumpGenerations_stations l (s.bumpGeneration g)

theorem shift_stations (s : State) (g : Segment) (d : Nat) (x : Int) : (s.shift g d x).table.stations =
    s.table.stations.map fun r => { r with delay := (s.shiftedDelay g d x r).toNat } :=
  (bumpGenerations_stations _ _).1

theorem shift_index (s : State) (g : Segment) (d : Nat) (x : Int) : (s.shift g d x).table.index = s.table.index :=
  (bumpGenerations_stations _ _).2

theorem TableMove.keyLaw {s t : State} (h : TableMove s t) (hs : s.keyLaw = true) : t.keyLaw = true := by
  cases h with
  | station n f same =>
    refine keyLaw_updateStation (fun q hq hn => ?_) hs
    obtain ⟨r, hr, rn, number, -, -, address, -⟩ := same q hq hn
    rw [eq_of_number_eq hs hq hr (hn.trans rn.symm)] at number address ⊢
    exact ⟨number, address⟩
  | part n p f _ => exact keyLaw_updatePart hs
  | refresh n p => exact keyLaw_updatePart hs
  | place a kind g read legal => exact keyLaw_place read legal hs
  | amend r a found legal => exact keyLaw_amend legal hs
  | rebase st scope => exact keyLaw_of_keys (g := _) rfl (fun _ _ => ⟨rfl, rfl⟩) hs
  | shift g d x _ =>
    exact keyLaw_of_keys (shift_stations s g d x) (fun _ _ => ⟨rfl, rfl⟩) hs

theorem removeStation_stations (s : State) (r : Station) : (s.removeStation r).table.stations =
    s.table.stations.filter fun q => q.number != r.number := rfl

theorem clampConfirm_stations (s : State) (p : Pair) (a : SetpairArgs) : (s.setpair p a).table.stations =
    s.table.stations.map fun r => r.updatePart p fun q =>
      { q with confirm := min q.confirm (((s.settings.get p).setpair a).confirmRounds) } := by
  simp [State.setpair, State.clampConfirm]

theorem restart_stations (s : State) : s.restart.table.stations = s.table.stations.map Station.restarted := rfl

theorem Move.keyLaw {s t : State} (h : Move s t) (hs : s.keyLaw = true) : t.keyLaw = true := by
  refine h.keepsTable (I := fun s => s.keyLaw = true) (fun hs table _ => ?_) TableMove.keyLaw
    (fun s p a hs => ?_) (fun s r _ _ hs => ?_) (fun s hs => ?_) (fun s => rfl) hs
  · exact keyLaw_of_stations (congrArg StationTable.stations table) hs
  · exact keyLaw_of_keys (clampConfirm_stations s p a) (fun _ _ => ⟨rfl, rfl⟩) hs
  · obtain ⟨sorted, below, apart⟩ := keyLaw_iff.mp hs
    rw [keyLaw_iff, removeStation_stations]
    exact ⟨sorted.filter _, fun q hq => below q (List.mem_of_mem_filter hq), apart.filter _⟩
  · exact keyLaw_of_keys (restart_stations s) (fun _ _ => ⟨rfl, rfl⟩) hs

/-! ### The pairs of a record -/

/-- The pairs of the record's parts, in order. -/
def Station.partPairs (r : Station) : List Pair := r.parts.map (·.pair)

theorem partsLaw_iff {s : State} :
    s.partsLaw = true ↔ ∀ r ∈ s.table.stations, (r.partPairs.map (·.val)).Pairwise (· < ·) := by
  simp [State.partsLaw, rising_iff, Station.partPairs, Function.comp_def]

/-- Every record of the second state has the part pairs of one of the first. -/
theorem partsLaw_of_pairs {s t : State}
    (h : ∀ r ∈ t.table.stations, ∃ q ∈ s.table.stations, r.partPairs = q.partPairs) (hs : s.partsLaw = true) :
    t.partsLaw = true :=
  partsLaw_iff.mpr fun r hr => by
    obtain ⟨q, hq, pairs⟩ := h r hr
    exact pairs ▸ partsLaw_iff.mp hs q hq

/-- Records changed one by one with their part pairs kept. -/
theorem partsLaw_map {s t : State} {g : Station → Station} (stations : t.table.stations = s.table.stations.map g)
    (pairs : ∀ r ∈ s.table.stations, (g r).partPairs = r.partPairs) (hs : s.partsLaw = true) : t.partsLaw = true := by
  refine partsLaw_of_pairs (fun r hr => ?_) hs
  rw [stations] at hr
  obtain ⟨q, hq, rfl⟩ := List.mem_map.mp hr
  exact ⟨q, hq, pairs q hq⟩

theorem Station.updatePart_partPairs (r : Station) {p : Pair} {f : PairPart → PairPart}
    (h : ∀ q ∈ r.parts, q.pair = p → (f q).pair = p) : (r.updatePart p f).partPairs = r.partPairs := by
  simp only [Station.partPairs, Station.updatePart, List.map_map]
  refine List.map_congr_left fun q hq => ?_
  by_cases e : q.pair = p <;> simp [e, h q hq]

theorem partsLaw_updatePart {s : State} {n : Nat} {p : Pair} {f : PairPart → PairPart}
    (h : ∀ q, s.hasPart n p q → (f q).pair = p) (hs : s.partsLaw = true) : (s.updatePart n p f).partsLaw = true := by
  refine partsLaw_map (g := fun r => if r.number == n then r.updatePart p f else r) rfl (fun r hr => ?_) hs
  split
  next e => exact r.updatePart_partPairs fun q hq hp => h q ⟨r, hr, by simpa using e, hq, hp⟩
  next => rfl

theorem newStation_partPairs (s : State) (a : EnlistArgs) (kind : StationKind) (g : Segment) :
    (s.newStation a kind g).partPairs = allPairs.filter (s.line.pairsOf g).has := by
  rw [Station.partPairs, State.newStation, List.map_map]
  exact List.map_id _

theorem allPairs_rising : (allPairs.map (·.val)).Pairwise (· < ·) := by decide

theorem TableMove.partsLaw {s t : State} (h : TableMove s t) (hs : s.partsLaw = true) : t.partsLaw = true := by
  cases h with
  | station n f same =>
    refine partsLaw_of_pairs (fun r hr => ?_) hs
    obtain ⟨q, hq, rfl⟩ := List.mem_map.mp hr
    split
    next e =>
      obtain ⟨x, hx, -, -, -, -, -, -, -, parts⟩ := same q hq (by simpa using e)
      exact ⟨x, hx, by rw [Station.partPairs, parts]; rfl⟩
    next => exact ⟨q, hq, rfl⟩
  | part n p f legal => exact partsLaw_updatePart (fun q hq => (legal q hq).1) hs
  | refresh n p => exact partsLaw_updatePart (fun q hq => by obtain ⟨_, _, _, _, hp⟩ := hq; exact hp) hs
  | place a kind g _ _ =>
    refine partsLaw_iff.mpr fun r hr => ?_
    rcases mem_placeStation.mp hr with rfl | hr
    · rw [newStation_partPairs, List.pairwise_map]
      exact (List.pairwise_map.mp allPairs_rising).filter _
    · exact partsLaw_iff.mp hs r hr
  | amend r a _ _ =>
    refine partsLaw_map (amendPlace_stations s r a) (fun q _ => ?_) hs
    split
    · simp [Station.partPairs]
    · rfl
  | rebase st scope =>
    refine partsLaw_map (g := _) rfl (fun r _ => ?_) hs
    simp only [Station.partPairs, List.map_map]
    refine List.map_congr_left fun q _ => ?_
    dsimp only [Function.comp_apply]
    split <;> rfl
  | shift g d x _ => exact partsLaw_map (shift_stations s g d x) (fun _ _ => rfl) hs

theorem Move.partsLaw {s t : State} (h : Move s t) (hs : s.partsLaw = true) : t.partsLaw = true := by
  refine h.keepsTable (I := fun s => s.partsLaw = true) (fun hs table _ => ?_) TableMove.partsLaw
    (fun s p a hs => ?_) (fun s r _ _ hs => ?_) (fun s hs => ?_) (fun s => rfl) hs
  · exact partsLaw_map (g := id) (by simp [table]) (fun _ _ => rfl) hs
  · exact partsLaw_map (clampConfirm_stations s p a) (fun r _ => r.updatePart_partPairs fun _ _ => id) hs
  · exact partsLaw_of_pairs (fun q hq => ⟨q, List.mem_of_mem_filter hq, rfl⟩) hs
  · refine partsLaw_map (restart_stations s) (fun r _ => ?_) hs
    simp [Station.partPairs, Station.restarted, Function.comp_def, PairPart.restarted]

/-! ### The confirm counts -/

/-- The confirm count of the part is within its pair's setting (R71). -/
def PairPart.bounded (s : State) (q : PairPart) : Prop := q.confirm ≤ (s.settings.get q.pair).confirmRounds

theorem confirmLaw_iff {s : State} :
    s.confirmLaw = true ↔ ∀ r ∈ s.table.stations, ∀ q ∈ r.parts, q.bounded s := by
  simp [State.confirmLaw, PairPart.bounded]

/-- Records changed one by one, every part bounded. -/
theorem confirmLaw_map {s t : State} {g : Station → Station} (stations : t.table.stations = s.table.stations.map g)
    (bound : ∀ r ∈ s.table.stations, ∀ q ∈ (g r).parts, q.bounded t) : t.confirmLaw = true := by
  refine confirmLaw_iff.mpr fun r hr => ?_
  rw [stations] at hr
  obtain ⟨q, hq, rfl⟩ := List.mem_map.mp hr
  exact bound q hq

theorem State.hasPart.bounded {s : State} (hs : s.confirmLaw = true) {n : Nat} {p : Pair} {q : PairPart}
    (h : s.hasPart n p q) : q.confirm ≤ (s.settings.get p).confirmRounds := by
  obtain ⟨r, hr, -, hq, rfl⟩ := h
  exact confirmLaw_iff.mp hs r hr q hq

theorem confirmLaw_updatePart {s : State} {n : Nat} {p : Pair} {f : PairPart → PairPart}
    (h : ∀ q, s.hasPart n p q → (f q).bounded s) (hs : s.confirmLaw = true) :
    (s.updatePart n p f).confirmLaw = true := by
  refine confirmLaw_map (g := fun r => if r.number == n then r.updatePart p f else r) rfl fun r hr q hq => ?_
  split at hq
  next e =>
    obtain ⟨z, hz, rfl⟩ := List.mem_map.mp hq
    split
    next onPair => exact h z ⟨r, hr, by simpa using e, hz, by simpa using onPair⟩
    next => exact confirmLaw_iff.mp hs r hr z hz
  next => exact confirmLaw_iff.mp hs r hr q hq

theorem TableMove.confirmLaw {s t : State} (h : TableMove s t) (hs : s.confirmLaw = true) : t.confirmLaw = true := by
  cases h with
  | station n f same =>
    refine confirmLaw_map (g := fun r => if r.number == n then f r else r) rfl fun r hr q hq => ?_
    split at hq
    next e =>
      obtain ⟨x, hx, -, -, -, -, -, -, -, parts⟩ := same r hr (by simpa using e)
      exact confirmLaw_iff.mp hs x hx q (parts ▸ hq)
    next => exact confirmLaw_iff.mp hs r hr q hq
  | part n p f legal =>
    refine confirmLaw_updatePart (fun q hq => ?_) hs
    obtain ⟨pair, -, le⟩ := legal q hq
    rw [PairPart.bounded, pair]
    rcases le with ⟨y, hy, le⟩ | le
    · exact le.trans (hy.bounded hs)
    · exact le
  | refresh n p =>
    refine confirmLaw_updatePart (fun q hq => ?_) hs
    obtain ⟨r, hr, -, hq, -⟩ := hq
    exact confirmLaw_iff.mp hs r hr q hq
  | place a kind g _ _ =>
    refine confirmLaw_iff.mpr fun r hr q hq => ?_
    rcases mem_placeStation.mp hr with rfl | hr
    · obtain ⟨p, -, rfl⟩ := List.mem_map.mp hq
      exact Nat.zero_le _
    · exact confirmLaw_iff.mp hs r hr q hq
  | amend r a _ _ =>
    refine confirmLaw_map (amendPlace_stations s r a) fun x hx q hq => ?_
    have settings : ((s.amendPlace r a).settings) = s.settings := by
      unfold State.amendPlace
      dsimp only
      split <;> rfl
    have stands : q ∈ x.parts := by
      split at hq
      · simpa using hq
      · exact hq
    have bound := confirmLaw_iff.mp hs x hx q stands
    rwa [PairPart.bounded, ← settings] at bound
  | rebase st scope =>
    refine confirmLaw_map (g := _) rfl fun x hx q hq => ?_
    obtain ⟨z, hz, rfl⟩ := List.mem_map.mp hq
    split
    · exact Nat.zero_le _
    · exact confirmLaw_iff.mp hs x hx z hz
  | shift g d x legal =>
    refine confirmLaw_map (shift_stations s g d x) fun r hr q hq => ?_
    have bound := confirmLaw_iff.mp hs r hr q hq
    rwa [PairPart.bounded, ← (only_shift s g d x).settings_eq] at bound

theorem Move.confirmLaw {s t : State} (h : Move s t) (hs : s.confirmLaw = true) : t.confirmLaw = true := by
  refine h.keepsTable (I := fun s => s.confirmLaw = true) (fun hs table settings => ?_) TableMove.confirmLaw
    (fun s p a hs => ?_) (fun s r _ _ hs => ?_) (fun s hs => ?_) (fun s => rfl) hs
  · rwa [State.confirmLaw, table, settings, ← State.confirmLaw]
  · refine confirmLaw_map (clampConfirm_stations s p a) fun r hr q hq => ?_
    obtain ⟨z, hz, rfl⟩ := List.mem_map.mp hq
    have bound := confirmLaw_iff.mp hs r hr z hz
    have settings : (s.setpair p a).settings = s.settings.set p ((s.settings.get p).setpair a) := rfl
    rw [PairPart.bounded, settings]
    by_cases onPair : z.pair = p
    · simp [onPair]
    · simpa [onPair, Oct.get_set_ne, PairPart.bounded] using bound
  · exact confirmLaw_iff.mpr fun q hq => confirmLaw_iff.mp hs q (List.mem_of_mem_filter hq)
  · refine confirmLaw_map (restart_stations s) fun r _ q hq => ?_
    obtain ⟨z, -, rfl⟩ := List.mem_map.mp hq
    exact Nat.zero_le _

/-- Settles O55: every elementary change keeps each of the three laws. -/
theorem stepKeepsRecords : Obligations.StepKeepsRecords := by
  intro s t taken
  refine ⟨?keys, ?parts, ?counts⟩
  case keys => exact step_keeps (I := fun s => s.keyLaw = true) (fun _ h => h) Move.keyLaw taken
  case parts => exact step_keeps (I := fun s => s.partsLaw = true) (fun _ h => h) Move.partsLaw taken
  case counts => exact step_keeps (I := fun s => s.confirmLaw = true) (fun _ h => h) Move.confirmLaw taken

end Sys2Proof.Machine
end

section
/-! PROOFS. The Delay Indexes and the overlap laws under every elementary change: O56. The geometry is restated by
membership (`Geometry`): then a change of the table is followed record by record, and each Delay Index by the list of
records that it stands for (`Indexes`). -/

namespace Sys2Proof.Machine

/-! ### The geometry by membership -/

/-- The Delay Index of a segment stands for this list: the records of the segment in increasing delay. -/
def State.Indexes (s : State) (g : Segment) (l : List Station) : Prop :=
  s.index g = l.map (·.number) ∧ (∀ r, r ∈ l ↔ r ∈ s.table.stations ∧ r.segment = g) ∧
  l.Pairwise fun r q => r.delay < q.delay

/-- The geometry of the Station Table (R1, R6, R7), by membership. -/
structure State.Geometry (s : State) : Prop where
  keys : s.keyLaw = true
  index : ∀ g, ∃ l, s.Indexes g l
  apart : ∀ r ∈ s.table.stations, ∀ q ∈ s.table.stations, r.number ≠ q.number → r.segment = q.segment →
    overlapping r.delay r.window q.delay q.window = false
  units : ∀ r ∈ s.table.stations, ∀ q ∈ s.table.stations, r.number ≠ q.number → ∀ b, r.kind = .branching b →
    q.kind ≠ .branching b
  trunk : ∀ r ∈ s.table.stations, ∀ b, r.kind = .branching b → r.segment = .trunk
  beyond : ∀ r ∈ s.table.stations, ∀ b, r.segment = .branch b →
    ∃ u ∈ s.table.stations, u.kind = .branching b ∧ clears u.delay u.window r.delay r.window = true

theorem overlapping_comm (d w e v : Nat) : overlapping d w e v = overlapping e v d w := by
  rw [overlapping, overlapping, Bool.and_comm, Nat.add_comm w v]

/-- Windows that do not overlap have different delays. -/
theorem delay_ne_of_not_overlapping {d w e v : Nat} (h : overlapping d w e v = false) : d ≠ e := by
  rintro rfl
  simp [overlapping] at h

theorem Station.isUnit_iff {r : Station} : r.isUnit = true ↔ ∃ b, r.kind = .branching b := by
  unfold Station.isUnit
  split <;> simp_all

/-- A relation that is symmetric holds pairwise in the table when it holds between any two records of different
numbers. -/
theorem stations_pairwise_iff {s : State} (keys : s.keyLaw = true) {R : Station → Station → Prop}
    (symm : ∀ {r q}, R r q → R q r) : s.table.stations.Pairwise R ↔
      ∀ r ∈ s.table.stations, ∀ q ∈ s.table.stations, r.number ≠ q.number → R r q := by
  constructor
  · intro h r hr q hq ne
    rcases pairwise_either h hr hq (fun e => ne (congrArg Station.number e)) with h | h
    · exact h
    · exact symm h
  · intro h
    exact (stations_sorted keys).imp_of_mem fun hr hq lt => h _ hr _ hq (Nat.ne_of_lt lt)

theorem records_map_number {s : State} {l : List Station} (found : ∀ r ∈ l, s.station? r.number = some r) :
    s.records (l.map (·.number)) = l := by
  induction l with
  | nil => rfl
  | cons r l ih =>
    have rest := ih fun q hq => found q (List.mem_cons_of_mem _ hq)
    simp only [State.records, List.map_cons, List.filterMap_cons, found r List.mem_cons_self] at rest ⊢
    rw [rest]

theorem indexLaw_iff {s : State} (keys : s.keyLaw = true) {g : Segment} :
    s.indexLaw g = true ↔ ∃ l, s.Indexes g l := by
  simp only [State.indexLaw, Bool.and_eq_true, beq_iff_eq, rising_iff, List.pairwise_map, List.all_eq_true,
    Bool.or_eq_true, bne_iff_ne, List.contains_iff_mem]
  constructor
  · rintro ⟨⟨⟨numbers, sorted⟩, inSegment⟩, complete⟩
    refine ⟨s.segmentStations g, numbers.symm, fun r => ⟨fun hr => ?_, fun ⟨hr, hg⟩ => ?_⟩, sorted⟩
    · obtain ⟨n, -, found⟩ := List.mem_filterMap.mp hr
      exact ⟨(station?_some found).1, inSegment r hr⟩
    · exact List.mem_filterMap.mpr ⟨r.number, (complete r hr).resolve_left (not_not.mpr hg), station?_of_mem keys hr⟩
  · rintro ⟨l, numbers, mem, sorted⟩
    have records : s.segmentStations g = l := by
      rw [State.segmentStations, numbers]
      exact records_map_number fun r hr => station?_of_mem keys ((mem r).mp hr).1
    rw [records]
    refine ⟨⟨⟨numbers.symm, sorted⟩, fun r hr => ((mem r).mp hr).2⟩, fun r hr => or_iff_not_imp_left.mpr fun hg => ?_⟩
    rw [numbers]
    exact List.mem_map_of_mem ((mem r).mpr ⟨hr, not_not.mp hg⟩)

/-- Two records do not serve one branch. -/
theorem not_sameUnit_iff {r q : Station} : (r.isUnit && r.kind == q.kind) = false ↔
    ∀ b, r.kind = .branching b → q.kind ≠ .branching b := by
  cases hr : r.kind with
  | repeater => simp [Station.isUnit, hr]
  | branching b => simpa [Station.isUnit, hr] using ne_comm

/-- Where no two units serve one branch, a unit of the branch is the one found. -/
theorem unit?_eq_of_units {s : State} (keys : s.keyLaw = true)
    (units : ∀ r ∈ s.table.stations, ∀ q ∈ s.table.stations, r.number ≠ q.number → ∀ b, r.kind = .branching b →
      q.kind ≠ .branching b) {u : Station} {b : Branch} (hu : u ∈ s.table.stations) (hb : u.kind = .branching b) :
    s.unit? b = some u := by
  cases found : s.unit? b with
  | none => exact absurd hb (unit?_none.mp found u hu)
  | some w =>
    obtain ⟨hw, hwb⟩ := unit?_some found
    by_contra other
    exact units w hw u hu (fun e => other (by rw [eq_of_number_eq keys hw hu e])) b hwb hb

theorem overlapLaw_iff {s : State} (keys : s.keyLaw = true) : s.overlapLaw = true ↔
    (∀ r ∈ s.table.stations, ∀ q ∈ s.table.stations, r.number ≠ q.number → r.segment = q.segment →
      overlapping r.delay r.window q.delay q.window = false) ∧
    (∀ r ∈ s.table.stations, ∀ q ∈ s.table.stations, r.number ≠ q.number → ∀ b, r.kind = .branching b →
      q.kind ≠ .branching b) ∧
    (∀ r ∈ s.table.stations, ∀ b, r.kind = .branching b → r.segment = .trunk) ∧
    ∀ r ∈ s.table.stations, ∀ b, r.segment = .branch b →
      ∃ u ∈ s.table.stations, u.kind = .branching b ∧ clears u.delay u.window r.delay r.window = true := by
  simp only [State.overlapLaw, Bool.and_eq_true, noTwo_iff, List.all_eq_true, and_assoc, not_sameUnit_iff]
  rw [stations_pairwise_iff keys fun {r q} h => by rw [overlapping_comm, BEq.comm]; exact h,
    stations_pairwise_iff keys fun {r q} h b hb hb' => h b hb' hb]
  refine and_congr (by simp) (and_congr_right fun units => and_congr ?trunk ?beyond)
  case trunk =>
    refine forall₂_congr fun r _ => ?_
    cases hr : r.kind <;> simp [Station.isUnit, hr]
  case beyond =>
    refine forall₂_congr fun r _ => ?_
    cases hg : r.segment with
    | trunk => simp
    | branch b =>
      simp only [Option.any_eq_true, Segment.branch.injEq, forall_eq']
      constructor
      · rintro ⟨u, found, clear⟩
        obtain ⟨hu, hb⟩ := unit?_some found
        exact ⟨u, hu, hb, clear⟩
      · rintro ⟨u, hu, hb, clear⟩
        exact ⟨u, unit?_eq_of_units keys units hu hb, clear⟩

theorem geometryLaw_iff {s : State} : s.geometryLaw = true ↔ s.Geometry := by
  simp only [State.geometryLaw, Bool.and_eq_true, List.all_eq_true]
  constructor
  · rintro ⟨⟨keys, index⟩, overlap⟩
    obtain ⟨apart, units, trunk, beyond⟩ := (overlapLaw_iff keys).mp overlap
    exact ⟨keys, fun g => (indexLaw_iff keys).mp (index g (mem_allSegments g)), apart, units, trunk, beyond⟩
  · rintro ⟨keys, index, apart, units, trunk, beyond⟩
    exact ⟨⟨keys, fun g _ => (indexLaw_iff keys).mpr (index g)⟩,
      (overlapLaw_iff keys).mpr ⟨apart, units, trunk, beyond⟩⟩

/-! ### Records changed in place -/

/-- The records keep number, kind, segment, delay and window. -/
theorem State.Geometry.map {s t : State} {g : Station → Station} (hs : s.Geometry) (keys : t.keyLaw = true)
    (stations : t.table.stations = s.table.stations.map g) (index : t.table.index = s.table.index)
    (same : ∀ r ∈ s.table.stations, (g r).number = r.number ∧ (g r).kind = r.kind ∧ (g r).segment = r.segment ∧
      (g r).delay = r.delay ∧ (g r).window = r.window) : t.Geometry := by
  have mem {r : Station} : r ∈ t.table.stations ↔ ∃ q ∈ s.table.stations, g q = r := by
    rw [stations, List.mem_map]
  refine ⟨keys, fun h => ?index, ?apart, ?units, ?trunk, ?beyond⟩
  case index =>
    obtain ⟨l, numbers, members, sorted⟩ := hs.index h
    have stands {r : Station} (hr : r ∈ l) := same r ((members r).mp hr).1
    refine ⟨l.map g, ?_, fun r => ?_, ?_⟩
    · rw [State.index, index, ← State.index, numbers, List.map_map]
      exact List.map_congr_left fun r hr => (stands hr).1.symm
    · rw [mem, List.mem_map]
      constructor
      · rintro ⟨q, hq, rfl⟩
        exact ⟨⟨q, ((members q).mp hq).1, rfl⟩, (stands hq).2.2.1.trans ((members q).mp hq).2⟩
      · rintro ⟨⟨q, hq, rfl⟩, hg⟩
        exact ⟨q, (members q).mpr ⟨hq, (same q hq).2.2.1 ▸ hg⟩, rfl⟩
    · rw [List.pairwise_map]
      exact sorted.imp_of_mem fun hr hq lt => by rwa [(stands hr).2.2.2.1, (stands hq).2.2.2.1]
  case apart =>
    intro r hr q hq
    obtain ⟨x, hx, rfl⟩ := mem.mp hr
    obtain ⟨y, hy, rfl⟩ := mem.mp hq
    obtain ⟨xn, -, xg, xd, xw⟩ := same x hx
    obtain ⟨yn, -, yg, yd, yw⟩ := same y hy
    simpa only [xn, xg, xd, xw, yn, yg, yd, yw] using hs.apart x hx y hy
  case units =>
    intro r hr q hq
    obtain ⟨x, hx, rfl⟩ := mem.mp hr
    obtain ⟨y, hy, rfl⟩ := mem.mp hq
    simpa only [(same x hx).1, (same x hx).2.1, (same y hy).1, (same y hy).2.1] using hs.units x hx y hy
  case trunk =>
    intro r hr
    obtain ⟨x, hx, rfl⟩ := mem.mp hr
    simpa only [(same x hx).2.1, (same x hx).2.2.1] using hs.trunk x hx
  case beyond =>
    intro r hr b hb
    obtain ⟨x, hx, rfl⟩ := mem.mp hr
    obtain ⟨-, -, xg, xd, xw⟩ := same x hx
    obtain ⟨u, hu, kind, clear⟩ := hs.beyond x hx b (xg ▸ hb)
    obtain ⟨-, uk, -, ud, uw⟩ := same u hu
    exact ⟨g u, mem.mpr ⟨u, hu, rfl⟩, uk.trans kind, by rwa [ud, uw, xd, xw]⟩

/-! ### A record placed -/

/-- Placing a number in an index by its delay is placing the record in the list that the index stands for. -/
theorem indexInsert_map_number {s : State} (r : Station) {l : List Station}
    (found : ∀ q ∈ l, s.station? q.number = some q) : s.indexInsert r.number r.delay (l.map (·.number)) =
      (l.orderedInsert (fun a b => a.delay < b.delay) r).map (·.number) := by
  induction l with
  | nil => rfl
  | cons q l ih =>
    have rest := ih fun x hx => found x (List.mem_cons_of_mem _ hx)
    simp only [List.map_cons, State.indexInsert, found q List.mem_cons_self, Option.any_some, decide_eq_true_eq,
      List.orderedInsert_cons]
    split
    · rfl
    · rw [rest, List.map_cons]

theorem placeStation_index (s : State) (r : Station) (g : Segment) : (s.placeStation r).index g =
    if g = r.segment then s.indexInsert r.number r.delay (s.index g) else s.index g := by
  have written : (s.placeStation r).index g =
      (s.table.index.set r.segment.number (s.indexInsert r.number r.delay (s.index r.segment))).get g.number := rfl
  rw [written, Quad.get_set]
  by_cases e : g = r.segment
  · simp [e]
  · rw [if_neg e, if_neg fun h => e (segment_number_inj.mp (congrArg Fin.val h))]
    rfl

/-- A record of a list that stands for an index is found by its number. -/
theorem State.Indexes.found {s : State} {g : Segment} {l : List Station} (h : s.Indexes g l) (keys : s.keyLaw = true) :
    ∀ r ∈ l, s.station? r.number = some r := fun r hr => station?_of_mem keys ((h.2.1 r).mp hr).1

theorem overlapsIn_false {s : State} {g : Segment} {n d w : Nat} (h : s.overlapsIn g n d w = false) :
    ∀ r ∈ s.table.stations, r.segment = g → r.number ≠ n → overlapping r.delay r.window d w = false := by
  intro r hr hg hn
  simpa [hg, hn] using List.any_eq_false.mp h r hr

theorem clearsUnit_of_unit {s : State} {b : Branch} {d w : Nat} (h : s.clearsUnit (.branch b) d w = true)
    {u : Station} (found : s.unit? b = some u) : clears u.delay u.window d w = true := by
  simpa [State.clearsUnit, found] using h

theorem State.Geometry.place {s : State} {a : EnlistArgs} {kind : StationKind} {g : Segment}
    (read : readEnlist a = some (kind, g)) (legal : s.enlistRefusal a kind g = none) (hs : s.Geometry) :
    (s.placeStation (s.newStation a kind g)).Geometry := by
  obtain ⟨-, -, -, -, -, -, fits⟩ := readEnlist_some read
  obtain ⟨number, -, branch, clear, free⟩ := enlistRefusal_none.mp legal
  have keys := keyLaw_place read legal hs.keys
  have new := overlapsIn_false free
  have other : ∀ r ∈ s.table.stations, r.number ≠ a.station := station?_none.mp number
  generalize hr : s.newStation a kind g = r at keys ⊢
  have rn : r.number = a.station := by rw [← hr]; rfl
  have rk : r.kind = kind := by rw [← hr]; rfl
  have rg : r.segment = g := by rw [← hr]; rfl
  have rd : r.delay = a.delay := by rw [← hr]; rfl
  have rw' : r.window = a.window.getD Config.defaultWindow := by rw [← hr]; rfl
  rw [← rd, ← rw'] at new clear
  refine ⟨keys, fun h => ?index, ?apart, ?units, ?trunk, ?beyond⟩
  case index =>
    obtain ⟨l, numbers, members, sorted⟩ := hs.index h
    have found := State.Indexes.found ⟨numbers, members, sorted⟩ hs.keys
    by_cases e : h = r.segment
    · refine ⟨l.orderedInsert (fun a b => a.delay < b.delay) r, ?_, fun q => ?_, ?_⟩
      · rw [placeStation_index, if_pos e, numbers, indexInsert_map_number r found]
      · rw [List.mem_orderedInsert, mem_placeStation, members]
        constructor
        · rintro (rfl | ⟨hq, hg⟩)
          · exact ⟨.inl rfl, e.symm⟩
          · exact ⟨.inr hq, hg⟩
        · rintro ⟨rfl | hq, hg⟩
          · exact .inl rfl
          · exact .inr ⟨hq, hg⟩
      · refine pairwise_orderedInsert (key := Station.delay) sorted fun q hq => ?_
        obtain ⟨hq, hg⟩ := (members q).mp hq
        exact delay_ne_of_not_overlapping (new q hq (hg.trans (e.trans rg)) (other q hq))
    · refine ⟨l, ?_, fun q => ?_, sorted⟩
      · rw [placeStation_index, if_neg e, numbers]
      · rw [mem_placeStation, members]
        refine ⟨fun ⟨hq, hg⟩ => ⟨.inr hq, hg⟩, ?_⟩
        rintro ⟨rfl | hq, hg⟩
        · exact absurd hg.symm e
        · exact ⟨hq, hg⟩
  case apart =>
    intro x hx y hy ne same
    rcases mem_placeStation.mp hx with rfl | old <;> rcases mem_placeStation.mp hy with rfl | old'
    · exact absurd rfl ne
    · rw [overlapping_comm]
      exact new y old' (same.symm.trans rg) (other y old')
    · exact new x old (same.trans rg) (other x old)
    · exact hs.apart x old y old' ne same
  case units =>
    have single (b : Branch) (hb : r.kind = .branching b) : ∀ q ∈ s.table.stations, q.kind ≠ .branching b := by
      rw [rk] at hb
      subst hb
      exact unit?_none.mp (by cases g <;> simp_all [State.enlistState])
    intro x hx y hy ne b hb
    rcases mem_placeStation.mp hx with rfl | old <;> rcases mem_placeStation.mp hy with rfl | old'
    · exact absurd rfl ne
    · exact single b hb y old'
    · exact fun hb' => single b hb' x old hb
    · exact hs.units x old y old' ne b hb
  case trunk =>
    intro x hx b hb
    rcases mem_placeStation.mp hx with rfl | hx
    · rcases fits with repeater | trunk
      · rw [rk, repeater] at hb
        cases hb
      · exact rg.trans trunk
    · exact hs.trunk x hx b hb
  case beyond =>
    intro x hx b hb
    rcases mem_placeStation.mp hx with rfl | hx
    · have gb : g = .branch b := rg.symm.trans hb
      subst gb
      have repeater : kind = .repeater := fits.resolve_right (by simp)
      subst repeater
      obtain ⟨u, found⟩ : ∃ u, s.unit? b = some u := by
        simp only [State.enlistState, Bool.or_eq_false_iff, Option.isNone_eq_false_iff, Option.isSome_iff_exists]
          at branch
        exact branch.2
      obtain ⟨hu, kind⟩ := unit?_some found
      exact ⟨u, mem_placeStation.mpr (.inr hu), kind, clearsUnit_of_unit clear found⟩
    · obtain ⟨u, hu, kind, clear⟩ := hs.beyond x hx b hb
      exact ⟨u, mem_placeStation.mpr (.inr hu), kind, clear⟩

/-! ### A record amended -/

theorem amendIndex_index (s : State) (r : Station) (d : Nat) (g : Segment) : (s.amendIndex r d).index g =
    if g = r.segment then s.indexInsert r.number d ((s.index g).filter (· != r.number)) else s.index g := by
  have written : (s.amendIndex r d).index g = (s.table.index.set r.segment.number
      (s.indexInsert r.number d ((s.index r.segment).filter (· != r.number)))).get g.number := rfl
  rw [written, Quad.get_set]
  by_cases e : g = r.segment
  · simp [e]
  · rw [if_neg e, if_neg fun h => e (segment_number_inj.mp (congrArg Fin.val h))]
    rfl

theorem filter_map_number (l : List Station) (n : Nat) :
    (l.map (·.number)).filter (· != n) = (l.filter fun q => q.number != n).map (·.number) := by
  rw [List.filter_map]
  rfl

/-- The records after AMEND: the one amended, and the others. -/
theorem mem_amendPlace {s : State} (keys : s.keyLaw = true) {r q : Station} {a : AmendArgs}
    (hr : r ∈ s.table.stations) : q ∈ (s.amendPlace r a).table.stations ↔
      q = r.amended a ∨ (q ∈ s.table.stations ∧ q.number ≠ r.number) := by
  rw [amendPlace_stations, List.mem_map]
  constructor
  · rintro ⟨x, hx, rfl⟩
    by_cases e : x.number = r.number
    · exact .inl (by simp [eq_of_number_eq keys hx hr e])
    · exact .inr (by simp [e, hx])
  · rintro (rfl | ⟨hq, ne⟩)
    · exact ⟨r, hr, by simp⟩
    · exact ⟨q, hq, by simp [ne]⟩

theorem State.Geometry.amend {s : State} {r : Station} {a : AmendArgs} (found : s.station? r.number = some r)
    (legal : s.amendRefusal r a = none) (hs : s.Geometry) : (s.amendPlace r a).Geometry := by
  have keys := keyLaw_amend legal hs.keys
  have hr := (station?_some found).1
  obtain ⟨-, -, -, moved⟩ := amendRefusal_none.mp legal
  by_cases place : amendsPlace a = true
  case neg =>
    refine hs.map keys (amendPlace_stations s r a) (by simp [State.amendPlace, place]; rfl) fun q _ => ?_
    obtain ⟨delay, window⟩ : a.delay = none ∧ a.window = none := by simpa [amendsPlace] using place
    split <;> simp [delay, window]
  obtain ⟨clear, free⟩ := moved place
  have new := overlapsIn_false free
  rw [← Station.amended_delay, ← Station.amended_window] at new
  have mem (q : Station) := mem_amendPlace (q := q) (a := a) hs.keys hr
  have placed : s.amendPlace r a = (s.updateStation r.number (·.amended a)).amendIndex r (r.amended a).delay := by
    simp [State.amendPlace, place]
  refine ⟨keys, fun h => ?index, ?apart, ?units, ?trunk, ?beyond⟩
  case index =>
    obtain ⟨l, numbers, members, sorted⟩ := hs.index h
    have stands : (s.updateStation r.number (·.amended a)).index h = l.map (·.number) := numbers
    have others (q : Station) : q ∈ l.filter (fun q => q.number != r.number) ↔
        (q ∈ s.table.stations ∧ q.segment = h) ∧ q.number ≠ r.number := by simp [members]
    by_cases e : h = r.segment
    · refine ⟨(l.filter fun q => q.number != r.number).orderedInsert (fun a b => a.delay < b.delay) (r.amended a), ?_,
        fun q => ?_, ?_⟩
      · have keysWritten : (s.updateStation r.number (·.amended a)).keyLaw = true := keyLaw_of_stations
          (s := s.amendPlace r a) (amendPlace_stations s r a).symm keys
        rw [placed, amendIndex_index, if_pos e, stands, filter_map_number]
        have := indexInsert_map_number (s := s.updateStation r.number (·.amended a)) (r.amended a)
          (l := l.filter fun q => q.number != r.number) fun q hq => station?_of_mem keysWritten ?_
        · rwa [Station.amended_number] at this
        · obtain ⟨⟨hq, -⟩, ne⟩ := (others q).mp hq
          exact List.mem_map.mpr ⟨q, hq, by simp [ne]⟩
      · rw [List.mem_orderedInsert, mem, others]
        constructor
        · rintro (rfl | ⟨⟨hq, hg⟩, ne⟩)
          · exact ⟨.inl rfl, by simp [e]⟩
          · exact ⟨.inr ⟨hq, ne⟩, hg⟩
        · rintro ⟨rfl | ⟨hq, ne⟩, hg⟩
          · exact .inl rfl
          · exact .inr ⟨⟨hq, hg⟩, ne⟩
      · refine pairwise_orderedInsert (key := Station.delay) (sorted.filter _) fun q hq => ?_
        obtain ⟨⟨hq, hg⟩, ne⟩ := (others q).mp hq
        exact delay_ne_of_not_overlapping (new q hq (hg.trans e) ne)
    · refine ⟨l, ?_, fun q => ?_, sorted⟩
      · rw [placed, amendIndex_index, if_neg e, stands]
      · rw [mem, members]
        constructor
        · rintro ⟨hq, hg⟩
          refine ⟨.inr ⟨hq, fun same => e ?_⟩, hg⟩
          rw [← hg, eq_of_number_eq hs.keys hq hr same]
        · rintro ⟨rfl | ⟨hq, -⟩, hg⟩
          · exact absurd (hg.symm.trans (r.amended_segment a)) e
          · exact ⟨hq, hg⟩
  case apart =>
    intro x hx y hy ne same
    rcases (mem x).mp hx with rfl | ⟨hx, xn⟩ <;> rcases (mem y).mp hy with rfl | ⟨hy, yn⟩
    · exact absurd rfl ne
    · rw [overlapping_comm]
      exact new y hy (same.symm.trans (r.amended_segment a)) yn
    · exact new x hx (same.trans (r.amended_segment a)) xn
    · exact hs.apart x hx y hy ne same
  case units =>
    intro x hx y hy ne b hb
    rcases (mem x).mp hx with rfl | ⟨hx, xn⟩ <;> rcases (mem y).mp hy with rfl | ⟨hy, yn⟩
    · exact absurd rfl ne
    · exact hs.units r hr y hy (Ne.symm yn) b (by simpa using hb)
    · simpa using hs.units x hx r hr xn b hb
    · exact hs.units x hx y hy ne b hb
  case trunk =>
    intro x hx b hb
    rcases (mem x).mp hx with rfl | ⟨hx, -⟩
    · simpa using hs.trunk r hr b (by simpa using hb)
    · exact hs.trunk x hx b hb
  case beyond =>
    have unitsNotBranch {u : Station} {b c : Branch} (hu : u ∈ s.table.stations) (kind : u.kind = .branching b)
        (hc : u.segment = .branch c) : False := by simp [hs.trunk u hu b kind] at hc
    simp only [State.amendClears, Bool.and_eq_true] at clear
    obtain ⟨clearUnit, clearBranch⟩ := clear
    intro x hx b hb
    rcases (mem x).mp hx with rfl | ⟨old, xn⟩
    · rw [Station.amended_segment] at hb
      obtain ⟨u, hu, kind, -⟩ := hs.beyond r hr b hb
      have ne : u.number ≠ r.number := fun e =>
        unitsNotBranch hu kind ((congrArg Station.segment (eq_of_number_eq hs.keys hu hr e)).trans hb)
      rw [hb] at clearUnit
      refine ⟨u, (mem u).mpr (.inr ⟨hu, ne⟩), kind, ?_⟩
      rw [Station.amended_delay, Station.amended_window]
      exact clearsUnit_of_unit clearUnit (unit?_eq_of_units hs.keys hs.units hu kind)
    · obtain ⟨u, hu, kind, clear⟩ := hs.beyond x old b hb
      by_cases e : u.number = r.number
      · obtain rfl := eq_of_number_eq hs.keys hu hr e
        refine ⟨u.amended a, (mem _).mpr (.inl rfl), by simpa using kind, ?_⟩
        rw [kind] at clearBranch
        rw [Station.amended_delay, Station.amended_window]
        exact List.all_eq_true.mp clearBranch x ((mem_segmentStations (geometryLaw_iff.mpr hs)).mpr ⟨old, hb⟩)
      · exact ⟨u, (mem u).mpr (.inr ⟨hu, e⟩), kind, clear⟩

/-! ### A record removed -/

theorem removeStation_index (s : State) (r : Station) (g : Segment) : (s.removeStation r).index g =
    if g = r.segment then (s.index g).filter (· != r.number) else s.index g := by
  have written : (s.removeStation r).index g =
      (s.table.index.set r.segment.number ((s.index r.segment).filter (· != r.number))).get g.number := rfl
  rw [written, Quad.get_set]
  by_cases e : g = r.segment
  · simp [e]
  · rw [if_neg e, if_neg fun h => e (segment_number_inj.mp (congrArg Fin.val h))]
    rfl

theorem mem_removeStation {s : State} {r q : Station} :
    q ∈ (s.removeStation r).table.stations ↔ q ∈ s.table.stations ∧ q.number ≠ r.number := by
  simp [removeStation_stations]

theorem State.Geometry.remove {s : State} {r : Station} (found : s.station? r.number = some r)
    (unused : s.retireState r = false) (hs : s.Geometry) : (s.removeStation r).Geometry := by
  have hr := (station?_some found).1
  have noBranch : ∀ b, r.kind = .branching b → ∀ q ∈ s.table.stations, q.segment ≠ .branch b := by
    intro b hb q hq hg
    have inUse := (retireState_iff (geometryLaw_iff.mpr hs)).mpr (.inr (.inl ⟨b, hb, q, hq, hg⟩))
    rw [unused] at inUse
    cases inUse
  refine ⟨?keys, fun h => ?index, fun x hx y hy => ?apart, fun x hx y hy => ?units, fun x hx => ?trunk,
    fun x hx b hb => ?beyond⟩
  case keys =>
    obtain ⟨sorted, below, apart⟩ := keyLaw_iff.mp hs.keys
    rw [keyLaw_iff, removeStation_stations]
    exact ⟨sorted.filter _, fun q hq => below q (List.mem_of_mem_filter hq), apart.filter _⟩
  case index =>
    obtain ⟨l, numbers, members, sorted⟩ := hs.index h
    by_cases e : h = r.segment
    · refine ⟨l.filter fun q => q.number != r.number, ?_, fun q => ?_, sorted.filter _⟩
      · rw [removeStation_index, if_pos e, numbers, filter_map_number]
      · rw [mem_removeStation, List.mem_filter, members, bne_iff_ne, and_right_comm]
    · refine ⟨l, ?_, fun q => ?_, sorted⟩
      · rw [removeStation_index, if_neg e, numbers]
      · rw [mem_removeStation, members, and_right_comm]
        refine ⟨fun h => ⟨h, fun same => e ?_⟩, And.left⟩
        rw [← h.2, eq_of_number_eq hs.keys h.1 hr same]
  case apart => exact hs.apart x (mem_removeStation.mp hx).1 y (mem_removeStation.mp hy).1
  case units => exact hs.units x (mem_removeStation.mp hx).1 y (mem_removeStation.mp hy).1
  case trunk => exact hs.trunk x (mem_removeStation.mp hx).1
  case beyond =>
    have mem := (mem_removeStation.mp hx).1
    obtain ⟨u, hu, kind, clear⟩ := hs.beyond x mem b hb
    refine ⟨u, mem_removeStation.mpr ⟨hu, fun same => ?_⟩, kind, clear⟩
    exact noBranch b (eq_of_number_eq hs.keys hu hr same ▸ kind) x mem hb

/-! ### Records shifted -/

theorem shiftRefusal_none {s : State} {g : Segment} {d : Nat} {x : Int} (h : s.shiftRefusal g d x = none) :
    (∀ r ∈ s.table.stations, s.shiftRange g d x r = true) ∧
    ∀ r ∈ s.table.stations, ∀ q ∈ s.table.stations, s.shiftClash g d x r q = false := by
  simp only [State.shiftRefusal, ite_some_eq_none, and_true] at h
  obtain ⟨-, ranges, clash⟩ := h
  exact ⟨by simpa using ranges, by simpa using clash⟩

theorem shifted_nonneg {s : State} {g : Segment} {d : Nat} {x : Int} {r : Station} (range : s.shiftRange g d x r = true) :
    ((s.shiftedDelay g d x r).toNat : Int) = s.shiftedDelay g d x r := by
  refine Int.toNat_of_nonneg ?_
  by_cases moved : s.shifts g d r = true
  · simp only [State.shiftRange, moved, Bool.not_true, Bool.false_or, Bool.and_eq_true, inRangeInt,
      decide_eq_true_eq, Config.minDelay] at range
    exact (Int.natCast_nonneg 10).trans (of_decide_eq_true range.1.1)
  · simp [State.shiftedDelay, moved]

/-- Two stations fall out after the move (R25, check 4). -/
theorem shiftClash_iff {s : State} {g : Segment} {d : Nat} {x : Int} {r q : Station} :
    s.shiftClash g d x r q = true ↔ r.segment = q.segment ∧ r.number ≠ q.number ∧
      ((s.shiftedDelay g d x r - s.shiftedDelay g d x q).natAbs ≤ r.window + q.window ∨
        (s.shifts g d r = true ∧ s.shifts g d q = false ∧
          ¬(r.delay < q.delay ↔ s.shiftedDelay g d x r < s.shiftedDelay g d x q))) := by
  simp [State.shiftClash, and_assoc]

theorem shiftedDelay_moved {s : State} {g : Segment} {d : Nat} {x : Int} {r : Station} (h : s.shifts g d r = true) :
    s.shiftedDelay g d x r = r.delay + x := if_pos h

theorem shiftedDelay_still {s : State} {g : Segment} {d : Nat} {x : Int} {r : Station} (h : s.shifts g d r = false) :
    s.shiftedDelay g d x r = r.delay := if_neg (Bool.eq_false_iff.mp h)

/-- Two records of a segment of which neither clashes with the other keep their order. -/
theorem shifted_order {s : State} {g : Segment} {d : Nat} {x : Int} {r q : Station} (seg : r.segment = q.segment)
    (ne : r.number ≠ q.number) (clash : s.shiftClash g d x r q = false) (clash' : s.shiftClash g d x q r = false)
    (lt : r.delay < q.delay) : s.shiftedDelay g d x r < s.shiftedDelay g d x q := by
  rw [← Bool.not_eq_true, shiftClash_iff] at clash clash'
  simp only [seg, ne, ne.symm, ne_eq, not_false_eq_true, true_and, not_or, not_and, not_not] at clash clash'
  obtain ⟨apart, order⟩ := clash
  obtain ⟨-, order'⟩ := clash'
  cases mr : s.shifts g d r <;> cases mq : s.shifts g d q
  · rw [shiftedDelay_still mr, shiftedDelay_still mq]
    omega
  · have := order' mq mr
    omega
  · exact (order mr mq).mp lt
  · rw [shiftedDelay_moved mr, shiftedDelay_moved mq]
    omega

/-- The unit of a branch of which some station stays where it is stays too (R24). -/
theorem unit_still {s : State} (hs : s.Geometry) {g : Segment} {d : Nat} {r u : Station} {b : Branch}
    (hu : u ∈ s.table.stations) (kind : u.kind = .branching b) (hb : r.segment = .branch b)
    (still : s.shifts g d r = false) : s.shifts g d u = false := by
  have trunk := hs.trunk u hu b kind
  cases g with
  | trunk =>
    have found := unit?_eq_of_units hs.keys hs.units hu kind
    simpa [State.shifts, hb, found, trunk] using still
  | branch c => simp [State.shifts, trunk]

/-- A moved branch station stays beyond its unit (R25, check 3). -/
theorem shiftRange_unit {s : State} {g : Segment} {d : Nat} {x : Int} {r u : Station} {b : Branch}
    (range : s.shiftRange g d x r = true) (moved : s.shifts g d r = true) (hb : r.segment = .branch b)
    (found : s.unit? b = some u) :
    s.shiftedDelay g d x u + ((u.window + r.window : Nat) : Int) < s.shiftedDelay g d x r := by
  simp only [State.shiftRange, moved, Bool.not_true, Bool.false_or, Bool.and_eq_true, hb, found,
    decide_eq_true_eq] at range
  exact range.2

theorem State.Geometry.shift {s : State} {g : Segment} {d : Nat} {x : Int} (legal : s.shiftRefusal g d x = none)
    (hs : s.Geometry) : (s.shift g d x).Geometry := by
  obtain ⟨ranges, clash⟩ := shiftRefusal_none legal
  have value {r : Station} (hr : r ∈ s.table.stations) := shifted_nonneg (ranges r hr)
  have keys : (s.shift g d x).keyLaw = true :=
    keyLaw_of_keys (shift_stations s g d x) (fun _ _ => ⟨rfl, rfl⟩) hs.keys
  have mem {r : Station} : r ∈ (s.shift g d x).table.stations ↔
      ∃ q ∈ s.table.stations, { q with delay := (s.shiftedDelay g d x q).toNat } = r := by
    rw [shift_stations, List.mem_map]
  refine ⟨keys, fun h => ?index, fun r hr q hq ne same => ?apart, fun r hr q hq => ?units, fun r hr => ?trunk,
    fun r hr b hb => ?beyond⟩
  case index =>
    obtain ⟨l, numbers, members, sorted⟩ := hs.index h
    refine ⟨l.map fun r => { r with delay := (s.shiftedDelay g d x r).toNat }, ?_, fun r => ?_, ?_⟩
    · rw [State.index, shift_index, ← State.index, numbers, List.map_map]
      rfl
    · rw [mem, List.mem_map]
      constructor
      · rintro ⟨q, hq, rfl⟩
        obtain ⟨hq, hg⟩ := (members q).mp hq
        exact ⟨⟨q, hq, rfl⟩, hg⟩
      · rintro ⟨⟨q, hq, rfl⟩, hg⟩
        exact ⟨q, (members q).mpr ⟨hq, hg⟩, rfl⟩
    · rw [List.pairwise_map]
      refine sorted.imp_of_mem fun {r q} hr hq lt => ?_
      obtain ⟨hr, rg⟩ := (members r).mp hr
      obtain ⟨hq, qg⟩ := (members q).mp hq
      have ne : r.number ≠ q.number := fun e => by
        rw [eq_of_number_eq hs.keys hr hq e] at lt
        exact Nat.lt_irrefl _ lt
      have order := shifted_order (rg.trans qg.symm) ne (clash r hr q hq) (clash q hq r hr) lt
      have := value hr
      have := value hq
      dsimp only
      omega
  case apart =>
    obtain ⟨a, ha, rfl⟩ := mem.mp hr
    obtain ⟨c, hc, rfl⟩ := mem.mp hq
    have apart := clash a ha c hc
    rw [← Bool.not_eq_true, shiftClash_iff] at apart
    simp only [not_and, not_or] at apart
    have far := (apart same ne).1
    have := value ha
    have := value hc
    simp only [overlapping, Bool.and_eq_false_iff, decide_eq_false_iff_not]
    omega
  case units =>
    obtain ⟨a, ha, rfl⟩ := mem.mp hr
    obtain ⟨c, hc, rfl⟩ := mem.mp hq
    exact hs.units a ha c hc
  case trunk =>
    obtain ⟨a, ha, rfl⟩ := mem.mp hr
    exact hs.trunk a ha
  case beyond =>
    obtain ⟨a, ha, rfl⟩ := mem.mp hr
    obtain ⟨u, hu, kind, clear⟩ := hs.beyond a ha b hb
    refine ⟨_, mem.mpr ⟨u, hu, rfl⟩, kind, ?_⟩
    have := value ha
    have := value hu
    simp only [clears, decide_eq_true_eq] at clear ⊢
    cases moved : s.shifts g d a with
    | true =>
      have := shiftRange_unit (ranges a ha) moved hb (unit?_eq_of_units hs.keys hs.units hu kind)
      omega
    | false =>
      rw [shiftedDelay_still (unit_still (r := a) hs hu kind hb moved), shiftedDelay_still moved]
      omega

/-! ### Every change -/

theorem geometry_updatePart {s : State} {n : Nat} {p : Pair} {f : PairPart → PairPart} (hs : s.Geometry) :
    (s.updatePart n p f).Geometry := by
  refine hs.map (keyLaw_updatePart hs.keys) (g := fun r => if r.number == n then r.updatePart p f else r) rfl rfl
    fun r _ => ?_
  split <;> exact ⟨rfl, rfl, rfl, rfl, rfl⟩

theorem TableMove.geometry {s t : State} (h : TableMove s t) (hs : s.Geometry) : t.Geometry := by
  have keys := h.keyLaw hs.keys
  cases h with
  | station n f same =>
    refine hs.map keys (g := fun r => if r.number == n then f r else r) rfl rfl fun q hq => ?_
    split
    next e =>
      have hn : q.number = n := by simpa using e
      obtain ⟨r, hr, rn, number, kind, segment, -, delay, window, -⟩ := same q hq hn
      rw [eq_of_number_eq hs.keys hq hr (hn.trans rn.symm)] at number kind segment delay window ⊢
      exact ⟨number, kind, segment, delay, window⟩
    next => exact ⟨rfl, rfl, rfl, rfl, rfl⟩
  | part n p f _ => exact geometry_updatePart hs
  | refresh n p => exact geometry_updatePart hs
  | place a kind g read legal => exact hs.place read legal
  | amend r a found legal => exact hs.amend found legal
  | rebase st scope => exact hs.map keys (g := _) rfl rfl fun _ _ => ⟨rfl, rfl, rfl, rfl, rfl⟩
  | shift g d x legal => exact hs.shift legal

theorem Move.geometry {s t : State} (h : Move s t) (hs : s.Geometry) : t.Geometry := by
  refine h.keepsTable (I := State.Geometry) (fun {s t} hs table _ => ?_) TableMove.geometry
    (fun s p a hs => ?_) (fun s r found unused hs => ?_) (fun s hs => ?_) (fun s => ?_) hs
  · have stations : t.table.stations = s.table.stations := congrArg StationTable.stations table
    exact hs.map (g := id) (keyLaw_of_stations stations hs.keys) (by simp [stations])
      (congrArg StationTable.index table) fun _ _ => ⟨rfl, rfl, rfl, rfl, rfl⟩
  · exact hs.map (keyLaw_of_keys (clampConfirm_stations s p a) (fun _ _ => ⟨rfl, rfl⟩) hs.keys)
      (clampConfirm_stations s p a) rfl fun _ _ => ⟨rfl, rfl, rfl, rfl, rfl⟩
  · exact hs.remove found unused
  · exact hs.map (keyLaw_of_keys (restart_stations s) (fun _ _ => ⟨rfl, rfl⟩) hs.keys) (restart_stations s) rfl
      fun _ _ => ⟨rfl, rfl, rfl, rfl, rfl⟩
  · exact geometryLaw_iff.mp rfl

/-- Settles O56: every elementary change keeps the geometry. -/
theorem stepKeepsGeometry : Obligations.StepKeepsGeometry := by
  intro s t law taken
  exact geometryLaw_iff.mpr
    (step_keeps (fun l h => geometryLaw_iff.mp (geometryLaw_iff.mpr h :)) Move.geometry taken (geometryLaw_iff.mp law))

end Sys2Proof.Machine
end

section
/-! PROOFS. The survey and the Correlator Pool of a pair that does not drive, under every elementary change: O57. -/

namespace Sys2Proof.Machine

/-! ### The law, pair by pair -/

/-- The pool has no request, no result and no correlator for the pair. -/
structure CorrelatorPool.Without (c : CorrelatorPool) (p : Pair) : Prop where
  presented : ∀ e ∈ c.presented, e.1 ≠ p
  queue : ∀ r ∈ c.queue, r.pair ≠ p
  serves : ∀ k, (c.correlators.get k).serves p = false

theorem free_iff {c : CorrelatorPool} {p : Pair} : c.free p = true ↔ c.Without p := by
  simp only [CorrelatorPool.free, Bool.and_eq_true, Bool.not_eq_true', List.any_eq_false, beq_iff_eq,
    List.all_eq_true, mem_allCorrelators, true_implies]
  exact ⟨fun ⟨⟨a, b⟩, c⟩ => ⟨a, b, c⟩, fun ⟨a, b, c⟩ => ⟨⟨a, b⟩, c⟩⟩

/-- The pair drives, or its survey and the pool hold nothing of it. -/
def State.surveyed (s : State) (p : Pair) : Prop :=
  s.driving p = true ∨ ((s.sc p).quiet = true ∧ s.pool.Without p)

theorem surveyLaw_iff {s : State} : s.surveyLaw = true ↔ ∀ p, s.surveyed p := by
  simp [State.surveyLaw, State.surveyed, mem_allPairs, free_iff]

/-- A pair of which the controller or the pool holds something drives. -/
theorem State.surveyed.driving {s : State} {p : Pair} (h : s.surveyed p)
    (holds : ¬((s.sc p).quiet = true ∧ s.pool.Without p)) : s.driving p = true := h.resolve_right holds

theorem State.surveyed.of_engaged {s : State} {p : Pair} (h : s.surveyed p) (engaged : s.engaged p) :
    s.driving p = true := engaged.elim id fun loud => h.driving fun ⟨quiet, _⟩ => by simp [quiet] at loud

/-- The pair's role and what makes its controller quiet stand, and the pool gains nothing for it. -/
theorem State.surveyed.of {s t : State} {p : Pair} (h : s.surveyed p) (driving : t.driving p = s.driving p)
    (quiet : (s.sc p).quiet = true → (t.sc p).quiet = true) (pool : s.pool.Without p → t.pool.Without p) :
    t.surveyed p := by
  rcases h with drives | ⟨q, w⟩
  · exact .inl (driving.trans drives)
  · exact .inr ⟨quiet q, pool w⟩

theorem State.surveyed.of_eq {s t : State} {p : Pair} (h : s.surveyed p) (survey : t.survey = s.survey)
    (pool : t.pool = s.pool) : t.surveyed p :=
  h.of (by rw [State.driving, State.sc, survey]; rfl) (by simp only [State.sc, survey]; exact id) (pool ▸ id)

theorem surveyLaw_of_eq {s t : State} (survey : t.survey = s.survey) (pool : t.pool = s.pool)
    (hs : ∀ p, s.surveyed p) : ∀ p, t.surveyed p := fun p => (hs p).of_eq survey pool

theorem driving_setSc_self {s : State} {p : Pair} {c : SurveyController} (role : c.role = (s.sc p).role) :
    (s.setSc p c).driving p = s.driving p := by simp [State.driving, role]

theorem driving_setSc_ne {s : State} {p q : Pair} {c : SurveyController} (ne : q ≠ p) :
    (s.setSc p c).driving q = s.driving q := by simp [State.driving, State.sc_setSc_ne _ _ ne]

/-- A controller of a DRIVING pair written. -/
theorem surveyed_setSc_driving {s : State} {p : Pair} {c : SurveyController} (drives : s.driving p = true)
    (role : c.role = (s.sc p).role) (hs : ∀ q, s.surveyed q) (q : Pair) : (s.setSc p c).surveyed q := by
  by_cases e : q = p
  · subst e
    exact .inl ((driving_setSc_self role).trans drives)
  · exact (hs q).of (driving_setSc_ne e) (by rw [State.sc_setSc_ne _ _ e]; exact id) id

/-- A controller written with its role and what makes it quiet. -/
theorem surveyed_setSc_quiet {s : State} {p : Pair} {c : SurveyController} (role : c.role = (s.sc p).role)
    (quiet : c.quiet = (s.sc p).quiet) (hs : ∀ q, s.surveyed q) (q : Pair) : (s.setSc p c).surveyed q := by
  by_cases e : q = p
  · subst e
    exact (hs q).of (driving_setSc_self role) (by simp [quiet]) id
  · exact (hs q).of (driving_setSc_ne e) (by rw [State.sc_setSc_ne _ _ e]; exact id) id

/-! ### The pool -/

/-- A correlator written serves a pair only when its new content does. -/
theorem CorrelatorPool.Without.setCorrelator {c : CorrelatorPool} {p : Pair} (h : c.Without p) (k : CorrelatorNo)
    {v : Correlator} (serves : v.serves p = false) :
    ({ c with correlators := c.correlators.set k v } : CorrelatorPool).Without p := by
  refine ⟨h.presented, h.queue, fun j => ?_⟩
  show ((c.correlators.set k v).get j).serves p = false
  rw [Quad.get_set]
  split
  · exact serves
  · exact h.serves j

theorem mem_insertRequest {p : Pair} {k : RoundKind} {e : Pair × RoundKind} : ∀ {l : List (Pair × RoundKind)},
    e ∈ insertRequest p k l → e = (p, k) ∨ e ∈ l
  | [], h => .inl (by simpa [insertRequest] using h)
  | d :: l, h => by
    unfold insertRequest at h
    split at h
    · simpa using h
    · split at h
      · exact (List.mem_cons.mp h).imp_right (List.mem_cons_of_mem _)
      · rcases List.mem_cons.mp h with rfl | h
        · exact .inr (List.mem_cons_self ..)
        · exact (mem_insertRequest h).imp_right (List.mem_cons_of_mem _)

theorem surveyed_grantTo {s : State} {k : CorrelatorNo} {p : Pair} {kind : RoundKind}
    (asked : (p, kind) ∈ s.pool.presented) (hs : ∀ q, s.surveyed q) (q : Pair) :
    (s.grantTo k p kind).surveyed q := by
  have drives : s.driving p = true := (hs p).driving fun ⟨_, w⟩ => w.presented _ asked rfl
  have agrees := agrees_grantTo s k p kind q
  have pool : (s.grantTo k p kind).pool = { s.pool with
      correlators := s.pool.correlators.set k (.running ⟨s.roundDefinition p, s.snapshotOf (s.roundDefinition p).view, []⟩
        0 s.line.terminal),
      presented := s.pool.presented.filter fun e => e.1 != p,
      lastGranted := if kind == .regular then p else s.pool.lastGranted } := by
    unfold State.grantTo
    dsimp only
    split <;> rfl
  have driving : (s.grantTo k p kind).driving q = s.driving q := by rw [State.driving, agrees.1]; rfl
  by_cases e : q = p
  · subst e
    exact .inl (driving.trans drives)
  · refine (hs q).of driving ?_ fun w => ?_
    · have stands : (s.grantTo k p kind).sc q = s.sc q := by
        unfold State.grantTo
        dsimp only
        split <;> exact State.sc_setSc_ne _ _ e
      rw [stands]
      exact id
    · rw [pool]
      have served := w.setCorrelator k (v := .running ⟨s.roundDefinition p,
        s.snapshotOf (s.roundDefinition p).view, []⟩ 0 s.line.terminal) (beq_eq_false_iff_ne.mpr (Ne.symm e))
      exact ⟨fun r hr => w.presented r (List.mem_of_mem_filter hr), w.queue, served.serves⟩

/-! ### Every change -/

theorem WorkMove.surveyed {s t : State} (h : WorkMove s t) (hs : ∀ p, s.surveyed p) (q : Pair) : t.surveyed q := by
  cases h with
  | contexts | occupy => exact (hs q).of_eq rfl rfl
  | controller p c engaged same => exact surveyed_setSc_driving ((hs p).of_engaged engaged) same.1 hs q
  | unpresent p =>
    exact (hs q).of rfl id fun w => ⟨fun e he => w.presented e (List.mem_of_mem_filter he), w.queue, w.serves⟩
  | present p k engaged =>
    by_cases e : q = p
    · subst e
      exact .inl ((hs q).of_engaged engaged)
    · refine (hs q).of rfl id fun w => ⟨fun r hr => ?_, w.queue, w.serves⟩
      rcases mem_insertRequest hr with rfl | hr
      · exact Ne.symm e
      · exact w.presented r hr
  | grant k p kind _ asked => exact surveyed_grantTo asked hs q
  | submit p t => exact (hs q).of_eq (only_submit s p t).survey_eq (only_submit s p t).pool_eq
  | askAuto k n p => exact (hs q).of_eq (only_askAuto s k n p).survey_eq (only_askAuto s k n p).pool_eq
  | leave o => exact (hs q).of_eq (only_leaveService s o).survey_eq (only_leaveService s o).pool_eq

theorem WorkSteps.surveyed {s t : State} (h : WorkSteps s t) (hs : ∀ p, s.surveyed p) : ∀ p, t.surveyed p :=
  h.lift (R := fun s t => (∀ p, s.surveyed p) → ∀ p, t.surveyed p) (fun _ h => h) (fun f g h => g (f h))
    (fun move h => move.surveyed h) hs

theorem SurveyMove.surveyed {s t : State} (h : SurveyMove s t) (hs : ∀ p, s.surveyed p) (q : Pair) : t.surveyed q := by
  cases h with
  | steering v same =>
    have stands : (s.setSurvey v).sc q = { s.sc q with steering := (v.get q).steering } := same q
    exact (hs q).of (by rw [State.driving, stands]; rfl) (by rw [stands]; exact id) id
  | count r => exact surveyed_setSc_quiet (by exact rfl) (by exact rfl) hs q
  | putBack p f held =>
    obtain ⟨r, hr, rp⟩ := held
    exact surveyed_setSc_driving ((hs p).driving fun ⟨_, w⟩ => w.queue r hr rp) (by exact rfl) hs q
  | flags p contention read _ => exact surveyed_setSc_quiet (by exact rfl) (by exact rfl) hs q
  | role p r idle =>
    by_cases e : q = p
    · subst e
      have nothing := (hs q).resolve_left (by simpa [State.driving] using idle)
      exact .inr ⟨by simpa [State.setRole, SurveyController.quiet] using nothing.1, nothing.2⟩
    · exact (hs q).of (driving_setSc_ne e) (by rw [State.setRole, State.sc_setSc_ne _ _ e]; exact id) id

theorem completeRound_eq (s : State) (k : CorrelatorNo) (r : RoundInCorrelator) : s.completeRound k r =
    (s.setPool { s.pool with correlators := s.pool.correlators.set k (.ready r),
                             queue := s.pool.queue ++ [r.result k] }).setSc r.definition.pair
      { s.sc r.definition.pair with state := .result } := rfl

theorem PoolMove.surveyed {s t : State} (h : PoolMove s t) (hs : ∀ p, s.surveyed p) (q : Pair) : t.surveyed q := by
  cases h with
  | burst k r c n m _ e running same =>
    refine (hs q).of rfl id fun w => w.setCorrelator k ?_
    have serves := w.serves k
    rw [running] at serves
    simpa only [Correlator.serves, same] using serves
  | complete k r c n _ running same =>
    have drives : s.driving c.definition.pair = true := (hs _).driving fun ⟨_, w⟩ => by
      have serves := w.serves k
      simp [running, Correlator.serves, same] at serves
    rw [completeRound_eq]
    refine surveyed_setSc_driving ?drives ?role (fun q => ?_) q
    case drives => exact drives
    case role => rfl
    by_cases e : q = c.definition.pair
    · subst e
      exact .inl drives
    · refine (hs q).of rfl id fun w => ?_
      have served := w.setCorrelator k (v := .ready c) (by simpa [Correlator.serves] using Ne.symm e)
      refine ⟨w.presented, fun r hr => ?_, served.serves⟩
      rcases List.mem_append.mp hr with hr | hr
      · exact w.queue r hr
      · rw [List.mem_singleton.mp hr]
        exact Ne.symm e
  | release r =>
    refine (hs q).of rfl id fun w => ?_
    have freed := w.setCorrelator r.correlator (v := .free) rfl
    exact ⟨w.presented, fun e he => w.queue e (List.mem_of_mem_filter he), freed.serves⟩

/-- A correlator serves one pair. -/
theorem Correlator.serves_ne {c : Correlator} {p q : Pair} (h : c.serves p = true) (ne : q ≠ p) :
    c.serves q = false := by
  cases c with
  | free => rfl
  | running r _ _ =>
    rw [Correlator.serves, beq_iff_eq] at h
    exact beq_eq_false_iff_ne.mpr (h ▸ ne.symm)
  | ready r =>
    rw [Correlator.serves, beq_iff_eq] at h
    exact beq_eq_false_iff_ne.mpr (h ▸ ne.symm)

theorem Correlator.freeIf_serves_self (c : Correlator) (p : Pair) : (c.freeIf p).serves p = false := by
  unfold Correlator.freeIf
  split
  · rfl
  next h => simpa using h

theorem Correlator.freeIf_serves_of {c : Correlator} {p q : Pair} (h : c.serves q = false) :
    (c.freeIf p).serves q = false := by
  unfold Correlator.freeIf
  split
  · rfl
  · exact h

/-- The correlators with those that serve a pair freed. -/
def CorrelatorPool.abort (c : CorrelatorPool) (p : Pair) : CorrelatorPool :=
  { c with
    correlators := ⟨c.correlators.q0.freeIf p, c.correlators.q1.freeIf p, c.correlators.q2.freeIf p,
      c.correlators.q3.freeIf p⟩,
    queue := c.queue.filter fun r => r.pair != p,
    presented := c.presented.filter fun e => e.1 != p }

theorem abortRounds_eq (s : State) (p : Pair) : s.abortRounds p = (s.setPool (s.pool.abort p)).grantAll := rfl

theorem abort_correlator (c : CorrelatorPool) (p : Pair) (k : CorrelatorNo) :
    (c.abort p).correlators.get k = (c.correlators.get k).freeIf p := by
  fin_cases k <;> rfl

theorem CorrelatorPool.without_abort (c : CorrelatorPool) (p : Pair) : (c.abort p).Without p := by
  refine ⟨fun e he => ?_, fun r hr => ?_, fun k => ?_⟩
  · simpa using (List.mem_filter.mp he).2
  · simpa using (List.mem_filter.mp hr).2
  · rw [abort_correlator]
    exact Correlator.freeIf_serves_self _ p

theorem CorrelatorPool.Without.abort {c : CorrelatorPool} {q : Pair} (h : c.Without q) (p : Pair) :
    (c.abort p).Without q := by
  refine ⟨fun e he => h.presented e (List.mem_of_mem_filter he), fun r hr => h.queue r (List.mem_of_mem_filter hr),
    fun k => ?_⟩
  rw [abort_correlator]
  exact Correlator.freeIf_serves_of (h.serves k)

/-- The end of a pair's work, with the pair out of DRIVING, leaves nothing of it at the survey and the pool. -/
theorem surveyed_endWork {s : State} {p : Pair} (keep : Bool) (hs : ∀ q, q ≠ p → s.surveyed q) :
    ∀ q, (s.endWork p keep).surveyed q := by
  have aborted (q : Pair) : ((s.haltSurvey p).setPool ((s.haltSurvey p).pool.abort p)).surveyed q := by
    by_cases e : q = p
    · subst e
      exact .inr ⟨by simp [State.haltSurvey, SurveyController.quiet, State.setSc, State.sc],
        CorrelatorPool.without_abort _ q⟩
    · refine (hs q e).of ?_ ?_ fun w => w.abort p
      · exact driving_setSc_ne (s := s) e
      · show (s.sc q).quiet = true → ((s.haltSurvey p).sc q).quiet = true
        rw [State.haltSurvey, State.sc_setSc_ne _ _ e]
        exact id
  have granted : ∀ q, ((s.haltSurvey p).abortRounds p).surveyed q := (planSteps_grantAll _).work.surveyed aborted
  exact surveyLaw_of_eq ((only_interruptCases _ p).survey_eq.trans (only_abandonTelegrams _ p keep).survey_eq)
    ((only_interruptCases _ p).pool_eq.trans (only_abandonTelegrams _ p keep).pool_eq) granted

theorem Move.surveyed {s t : State} (h : Move s t) (hs : ∀ p, s.surveyed p) : ∀ p, t.surveyed p := by
  cases h with
  | work m => exact m.surveyed hs
  | telegram m => exact surveyLaw_of_eq m.only.survey_eq m.only.pool_eq hs
  | case m => exact surveyLaw_of_eq m.only.survey_eq m.only.pool_eq hs
  | table m => exact surveyLaw_of_eq m.only.survey_eq m.only.pool_eq hs
  | survey m => exact m.surveyed hs
  | pool m => exact m.surveyed hs
  | claim | release | stray | port | draw | setline | setpair => exact surveyLaw_of_eq rfl rfl hs
  | retire r =>
    intro q
    have stands : (s.unlist r).sc q = { s.sc q with
        steering := (s.sc q).steering.filter fun e => e.1 != r.number } := by
      rw [State.sc, unlist_survey, Oct.get_map]
      rfl
    exact (hs q).of (by rw [State.driving, stands]; rfl) (by rw [stands]; exact id) id
  | leave p c v keep =>
    refine surveyed_endWork keep fun q ne => ?_
    exact (hs q).of (driving_setSc_ne (s := s) ne)
      (by show _ → ((s.setSc p c).sc q).quiet = true; rw [State.sc_setSc_ne _ _ ne]; exact id) id
  | restart =>
    refine fun q => .inr ⟨?_, (free_iff.mp (by revert q; decide) : CorrelatorPool.fresh.Without q)⟩
    rw [State.sc, State.restart, Oct.get_make]
    rfl
  | powerOn => exact surveyLaw_iff.mp rfl

/-- Settles O57: every elementary change keeps a pair that does not drive out of the survey and the pool. -/
theorem stepKeepsIdlePairsUnsurveyed : Obligations.StepKeepsIdlePairsUnsurveyed := by
  intro s t law taken
  exact surveyLaw_iff.mpr
    (step_keeps (I := fun s => ∀ p, s.surveyed p) (fun _ h => h) Move.surveyed taken (surveyLaw_iff.mp law))

end Sys2Proof.Machine
end

section
/-! PROOFS. The telegram queues under every elementary change: O58. -/

namespace Sys2Proof.Machine

/-! ### Queues in class order -/

/-- Telegrams in class order, the most urgent class first (R86). -/
def Classed (l : List Telegram) : Prop := l.Pairwise fun t u => t.rank ≤ u.rank

/-- How many of the telegrams are POLLs. -/
def polls (l : List Telegram) : Nat := l.countP (·.isPoll)

theorem classOrdered_iff : ∀ {l : List Telegram}, classOrdered l = true ↔ Classed l
  | [] => by simp [classOrdered, Classed]
  | t :: l => by
    have ih := classOrdered_iff (l := l)
    unfold Classed at ih ⊢
    simp [classOrdered, List.pairwise_cons, ih]

theorem enqueue_perm (t : Telegram) : ∀ l : List Telegram, (enqueue t l).Perm (t :: l)
  | [] => .refl _
  | u :: l => by
    unfold enqueue
    split
    · exact ((enqueue_perm t l).cons u).trans (.swap t u l)
    · exact .refl _

theorem mem_enqueue {t u : Telegram} {l : List Telegram} : u ∈ enqueue t l ↔ u = t ∨ u ∈ l := by
  rw [(enqueue_perm t l).mem_iff, List.mem_cons]

theorem length_enqueue (t : Telegram) (l : List Telegram) : (enqueue t l).length = l.length + 1 := by
  rw [(enqueue_perm t l).length_eq, List.length_cons]

theorem polls_enqueue (t : Telegram) (l : List Telegram) : polls (enqueue t l) = polls l + if t.isPoll then 1 else 0 := by
  rw [polls, (enqueue_perm t l).countP_eq, List.countP_cons, ← polls]

/-- A telegram takes its place without disturbing the order of the classes. -/
theorem Classed.enqueue {t : Telegram} : ∀ {l : List Telegram}, Classed l → Classed (Machine.enqueue t l)
  | [], _ => List.pairwise_singleton _ _
  | u :: l, h => by
    obtain ⟨first, rest⟩ := List.pairwise_cons.mp h
    unfold Machine.enqueue
    split
    next le =>
      refine List.pairwise_cons.mpr ⟨fun w hw => ?_, Classed.enqueue rest⟩
      rcases mem_enqueue.mp hw with rfl | hw
      · exact le
      · exact first w hw
    next lt =>
      refine List.pairwise_cons.mpr ⟨fun w hw => ?_, h⟩
      rcases List.mem_cons.mp hw with rfl | hw
      · omega
      · exact (Nat.le_of_not_le lt).trans (first w hw)

theorem polls_sublist {l m : List Telegram} (h : l.Sublist m) : polls l ≤ polls m := h.countP_le

theorem polls_eq_zero {l : List Telegram} : polls l = 0 ↔ ∀ t ∈ l, t.isPoll = false := by
  simp [polls, List.countP_eq_zero]

/-! ### Controllers -/

/-- What a well formed controller's fields meet (R84, R86, R87). -/
structure TelegramController.Formed (c : TelegramController) : Prop where
  room : c.queue.length ≤ 8
  queue : Classed c.queue
  onePoll : polls c.queue ≤ 1
  waiting : Classed c.waitLine
  noPollWaits : ∀ t ∈ c.waitLine, t.isPoll = false
  tag : c.tagCounter < 16

theorem TelegramController.wf_iff {c : TelegramController} : c.wf = true ↔ c.Formed := by
  simp only [TelegramController.wf, Bool.and_eq_true, decide_eq_true_eq, classOrdered_iff, Bool.not_eq_true',
    List.any_eq_false, Bool.not_eq_true, ← List.countP_eq_length_filter]
  exact ⟨fun ⟨⟨⟨⟨⟨a, b⟩, c⟩, d⟩, e⟩, f⟩ => ⟨a, b, c, d, e, f⟩, fun ⟨a, b, c, d, e, f⟩ => ⟨⟨⟨⟨⟨a, b⟩, c⟩, d⟩, e⟩, f⟩⟩

theorem TelegramController.idle_iff {c : TelegramController} :
    c.idle = true ↔ c.queue = [] ∧ c.waitLine = [] ∧ c.outstanding = none := by
  simp [TelegramController.idle, and_assoc]

theorem TelegramController.Formed.submit {c : TelegramController} (h : c.Formed) {t : Telegram}
    (notPoll : t.isPoll = false) : (c.submit t).Formed := by
  unfold TelegramController.submit
  split
  next room =>
    refine ⟨?_, h.queue.enqueue, ?_, h.waiting, h.noPollWaits, h.tag⟩
    · rw [length_enqueue]
      exact room
    · simpa [polls_enqueue, notPoll] using h.onePoll
  · split
    next poll =>
      have gone : polls (c.queue.filter fun u => !u.isPoll) = 0 :=
        polls_eq_zero.mpr fun u hu => by simpa using (List.mem_filter.mp hu).2
      have shorter : (c.queue.filter fun u => !u.isPoll).length < c.queue.length := by
        obtain ⟨u, hu, isPoll⟩ := List.any_eq_true.mp poll
        exact List.length_filter_lt_length_iff_exists.mpr ⟨u, hu, by simpa using isPoll⟩
      refine ⟨?_, Classed.enqueue (h.queue.filter _), ?_, h.waiting, h.noPollWaits, h.tag⟩
      · rw [length_enqueue]
        exact shorter.trans_le h.room
      · simp [polls_enqueue, notPoll, gone]
    next =>
      refine ⟨h.room, h.queue, h.onePoll, h.waiting.enqueue, fun u hu => ?_, h.tag⟩
      rcases mem_enqueue.mp hu with rfl | hu
      · exact notPoll
      · exact h.noPollWaits u hu

/-- Filling a queue keeps it in order and within its room, takes no POLL in, and leaves the end of the wait line. -/
theorem fillQueue_spec : ∀ {w q : List Telegram}, (∀ t ∈ w, t.isPoll = false) → Classed q → q.length ≤ 8 →
    Classed (fillQueue w q).1 ∧ (fillQueue w q).1.length ≤ 8 ∧ polls (fillQueue w q).1 = polls q ∧
      (fillQueue w q).2.Sublist w
  | [], _, _, order, room => ⟨order, room, rfl, .slnil⟩
  | t :: w, q, noPoll, order, room => by
    unfold fillQueue
    split
    next free =>
      obtain ⟨order, room, same, rest⟩ := fillQueue_spec (q := enqueue t q)
        (fun u hu => noPoll u (List.mem_cons_of_mem _ hu)) order.enqueue (by rw [length_enqueue]; exact free)
      refine ⟨order, room, ?_, rest.cons t⟩
      rw [same, polls_enqueue, noPoll t List.mem_cons_self]
      rfl
    next => exact ⟨order, room, rfl, .refl _⟩

theorem TelegramController.Formed.fill {c : TelegramController} (h : c.Formed) : c.fill.Formed := by
  obtain ⟨order, room, same, rest⟩ := fillQueue_spec h.noPollWaits h.queue h.room
  exact ⟨room, order, same.trans_le h.onePoll, h.waiting.sublist rest, fun t ht => h.noPollWaits t (rest.subset ht),
    h.tag⟩

theorem TelegramController.idle_fill {c : TelegramController} (h : c.idle = true) : c.fill.idle = true := by
  obtain ⟨queue, waiting, out⟩ := idle_iff.mp h
  simp [TelegramController.fill, queue, waiting, fillQueue, idle_iff, out]

/-! ### The law, pair by pair -/

/-- The pair's controller is well formed, and idle unless the pair drives. -/
def State.queued (s : State) (p : Pair) : Prop := (s.tc p).Formed ∧ (s.driving p = true ∨ (s.tc p).idle = true)

theorem telegramLaw_iff {s : State} : s.telegramLaw = true ↔ ∀ p, s.queued p := by
  simp [State.telegramLaw, State.queued, mem_allPairs, TelegramController.wf_iff]

theorem queued_of_eq {s t : State} (hs : ∀ p, s.queued p) (telegrams : t.telegrams = s.telegrams)
    (driving : ∀ p, t.driving p = s.driving p) (p : Pair) : t.queued p := by
  rw [State.queued, State.tc, telegrams, driving]
  exact hs p

theorem driving_of_survey {s t : State} (survey : t.survey = s.survey) (p : Pair) : t.driving p = s.driving p := by
  rw [State.driving, State.sc, survey]
  rfl

/-- The pair's own controller written. -/
theorem queued_setTc {s : State} {p : Pair} {c : TelegramController} (formed : (s.tc p).Formed → c.Formed)
    (idle : s.driving p = true ∨ ((s.tc p).idle = true → c.idle = true)) (hs : ∀ q, s.queued q) (q : Pair) :
    (s.setTc p c).queued q := by
  by_cases e : q = p
  · subst e
    obtain ⟨wf, rest⟩ := hs q
    rw [State.queued, State.tc_setTc_self]
    refine ⟨formed wf, ?_⟩
    rcases idle with drives | idle
    · exact .inl drives
    · exact rest.imp id idle
  · rw [State.queued, State.tc_setTc_ne _ _ e]
    exact hs q

theorem queued_launch {s : State} {p : Pair} {t : Telegram} {r : Station} {n : Nat} (drives : s.driving p = true)
    (hs : ∀ q, s.queued q) : ∀ q, (s.launch p t r n).queued q :=
  queued_setTc (fun h => ⟨h.room, h.queue, h.onePoll, h.waiting, h.noPollWaits, Nat.mod_lt _ (by decide)⟩)
    (.inl drives) hs

theorem WorkMove.queued {s t : State} (h : WorkMove s t) (hs : ∀ p, s.queued p) : ∀ p, t.queued p := by
  have driving (p : Pair) : t.driving p = s.driving p := by rw [State.driving, (h.agrees p).1]; rfl
  cases h with
  | contexts | occupy | controller | unpresent | present => exact queued_of_eq hs rfl driving
  | grant k p kind => exact queued_of_eq hs (only_grantTo s k p kind).telegrams_eq driving
  | submit p t notPoll =>
    unfold State.submit
    split
    next drives => exact queued_setTc (fun h => h.submit notPoll) (.inl drives) hs
    next => exact hs
  | askAuto k n p => exact queued_of_eq hs (only_askAuto s k n p).telegrams_eq driving
  | leave o => exact queued_of_eq hs (only_leaveService s o).telegrams_eq driving

theorem queued_sendHead {s : State} (p : Pair) (hs : ∀ q, s.queued q) : ∀ q, (s.sendHead p).queued q := by
  unfold State.sendHead
  dsimp only
  split
  next head rest drives _ queue =>
    have tail : rest.Sublist (s.tc p).queue := queue ▸ List.sublist_cons_self head rest
    have sent : ∀ q, (s.setTc p { s.tc p with queue := rest }).queued q :=
      queued_setTc (fun h => ⟨tail.length_le.trans h.room, h.queue.sublist tail, (polls_sublist tail).trans h.onePoll,
        h.waiting, h.noPollWaits, h.tag⟩) (.inl drives) hs
    split
    · exact queued_launch drives sent
    · exact sent
  next => exact hs

theorem queued_advanceCursor {s : State} (p : Pair) (hs : ∀ q, s.queued q) : ∀ q, (s.advanceCursor p).queued q := by
  unfold State.advanceCursor
  split
  next free =>
    simp only [State.cursorFree, Bool.and_eq_true, Bool.not_eq_true', List.any_eq_false, decide_eq_true_eq] at free
    obtain ⟨⟨⟨⟨-, drives⟩, noPoll⟩, room⟩, -⟩ := free
    split
    · show ∀ q, (s.setTc p _).queued q
      refine queued_setTc (fun h => ⟨?_, h.queue.enqueue, ?_, h.waiting, h.noPollWaits, h.tag⟩) (.inl drives) hs
      · rw [length_enqueue]
        exact room
      · rw [polls_enqueue, polls_eq_zero.mpr fun t ht => by simpa using noPoll t ht]
        split <;> decide
    · exact queued_of_eq hs rfl fun _ => rfl
  next => exact hs

theorem TelegramMove.queued {s t : State} (h : TelegramMove s t) (hs : ∀ p, s.queued p) : ∀ p, t.queued p := by
  cases h with
  | fill p => exact queued_setTc TelegramController.Formed.fill (.inr TelegramController.idle_fill) hs
  | send p => exact queued_sendHead p hs
  | advance p => exact queued_advanceCursor p hs
  | sweeper v _ => exact queued_of_eq hs rfl fun _ => rfl
  | retry p t o out =>
    have drives : s.driving p = true := (hs p).2.resolve_right fun idle => by
      simp [TelegramController.idle_iff, out] at idle
    unfold State.retry
    split
    · exact queued_launch drives hs
    · exact hs
  | endExchange p =>
    exact queued_setTc (fun h => ⟨h.room, h.queue, h.onePoll, h.waiting, h.noPollWaits, h.tag⟩)
      (.inr fun idle => by simp_all [TelegramController.idle_iff]) hs
  | listen p l a =>
    exact queued_setTc (fun h => ⟨h.room, h.queue, h.onePoll, h.waiting, h.noPollWaits, h.tag⟩) (.inr id) hs

theorem SurveyMove.queued {s t : State} (h : SurveyMove s t) (hs : ∀ p, s.queued p) : ∀ p, t.queued p := by
  have same {p : Pair} {c : SurveyController} (role : c.role = (s.sc p).role) : ∀ q, (s.setSc p c).queued q :=
    queued_of_eq hs rfl fun q => by
      by_cases e : q = p
      · subst e
        exact driving_setSc_self role
      · exact driving_setSc_ne e
  cases h with
  | steering v steered =>
    refine queued_of_eq hs rfl fun q => ?_
    have stands : (s.setSurvey v).sc q = { s.sc q with steering := (v.get q).steering } := steered q
    rw [State.driving, stands, ← State.driving]
  | count r => exact same rfl
  | putBack p f _ => exact same rfl
  | flags p _ _ _ => exact same rfl
  | role p r idle =>
    intro q
    by_cases e : q = p
    · subst e
      exact ⟨(hs q).1, .inr ((hs q).2.resolve_left (by simpa [State.driving] using idle))⟩
    · exact ⟨(hs q).1, by rw [State.setRole, driving_setSc_ne e]; exact (hs q).2⟩

theorem PoolMove.driving {s t : State} (h : PoolMove s t) (q : Pair) : t.driving q = s.driving q := by
  cases h with
  | burst | release => rfl
  | complete k _ r =>
    rw [completeRound_eq]
    by_cases e : q = r.definition.pair
    · subst e
      exact driving_setSc_self rfl
    · exact driving_setSc_ne e

theorem TelegramController.Formed.forget {c : TelegramController} (h : c.Formed) (n : Nat) : (c.forget n).Formed :=
  have less : (c.forget n).queue.Sublist c.queue := List.filter_sublist
  ⟨less.length_le.trans h.room, h.queue.sublist less, (polls_sublist less).trans h.onePoll, h.waiting, h.noPollWaits,
    h.tag⟩

theorem TelegramController.idle_forget {c : TelegramController} (h : c.idle = true) (n : Nat) :
    (c.forget n).idle = true := by
  obtain ⟨queue, waiting, out⟩ := idle_iff.mp h
  simp [TelegramController.forget, queue, waiting, idle_iff, out]

theorem unlist_tc (s : State) (r : Station) (p : Pair) : (s.unlist r).tc p = (s.tc p).forget r.number :=
  Oct.get_map _ _ p

theorem unlist_driving (s : State) (r : Station) (p : Pair) : (s.unlist r).driving p = s.driving p := by
  rw [State.driving, State.sc, unlist_survey, Oct.get_map]
  rfl

/-- Abandonment empties the pair's controller, and leaves those of other pairs alone. -/
theorem abandonTelegrams_telegrams (s : State) (p : Pair) (keep : Bool) :
    (s.abandonTelegrams p keep).telegrams = s.telegrams.set p ((s.tc p).emptied ((s.tc p).kept keep)) := by
  have lost : (s.loseOutstanding p).telegrams = s.telegrams := by
    unfold State.loseOutstanding
    split
    · exact (only_markUncertain s _ p _).telegrams_eq
    · rfl
  have abandoned : (s.abandoned p keep).telegrams = s.telegrams.set p ((s.tc p).emptied ((s.tc p).kept keep)) := by
    rw [State.abandoned, (only_abandonOutcomes _ p _).telegrams_eq, State.setTc, State.setTelegrams_telegrams, lost]
  rw [abandonTelegrams_eq]
  split <;> exact abandoned

theorem endWork_driving (s : State) (p : Pair) (keep : Bool) (q : Pair) :
    (s.endWork p keep).driving q = s.driving q := by
  have survey : (s.endWork p keep).survey = ((s.haltSurvey p).abortRounds p).survey :=
    (only_interruptCases _ p).survey_eq.trans (only_abandonTelegrams _ p keep).survey_eq
  have granted := (planSteps_grantAll ((s.haltSurvey p).setPool ((s.haltSurvey p).pool.abort p))).work.driving q
  have halted : (s.haltSurvey p).driving q = s.driving q := by
    by_cases e : q = p
    · subst e
      exact driving_setSc_self rfl
    · exact driving_setSc_ne e
  exact (driving_of_survey survey q).trans (granted.trans halted)

theorem endWork_telegrams (s : State) (p : Pair) (keep : Bool) :
    (s.endWork p keep).telegrams = s.telegrams.set p ((s.tc p).emptied ((s.tc p).kept keep)) := by
  have stands : ((s.haltSurvey p).abortRounds p).telegrams = s.telegrams := (only_abortRounds _ p).telegrams_eq
  have emptied := abandonTelegrams_telegrams ((s.haltSurvey p).abortRounds p) p keep
  rw [State.tc, stands, ← State.tc] at emptied
  exact (only_interruptCases _ p).telegrams_eq.trans emptied

theorem TelegramController.Formed.emptied {c : TelegramController} (h : c.Formed) (a : Option AbandonedExchange) :
    (c.emptied a).Formed := ⟨Nat.zero_le _, .nil, Nat.zero_le _, .nil, by simp [TelegramController.emptied], h.tag⟩

theorem queued_endWork {s : State} {p : Pair} {keep : Bool} (formed : (s.tc p).Formed)
    (hs : ∀ q, q ≠ p → s.queued q) (q : Pair) : (s.endWork p keep).queued q := by
  rw [State.queued, State.tc, endWork_telegrams, endWork_driving, Oct.get_set]
  split
  next e => exact ⟨formed.emptied _, .inr rfl⟩
  next e => exact hs q e

theorem Move.queued {s t : State} (h : Move s t) (hs : ∀ p, s.queued p) : ∀ p, t.queued p := by
  cases h with
  | work m => exact m.queued hs
  | telegram m => exact m.queued hs
  | case m => exact queued_of_eq hs m.only.telegrams_eq (driving_of_survey m.only.survey_eq)
  | table m => exact queued_of_eq hs m.only.telegrams_eq (driving_of_survey m.only.survey_eq)
  | survey m => exact m.queued hs
  | pool m => exact queued_of_eq hs m.only.telegrams_eq m.driving
  | claim | release | stray | port | draw | setline | setpair => exact queued_of_eq hs rfl fun _ => rfl
  | retire r =>
    intro p
    rw [State.queued, unlist_tc, unlist_driving]
    exact ⟨(hs p).1.forget r.number, (hs p).2.imp id fun idle => TelegramController.idle_forget idle r.number⟩
  | leave p c v keep =>
    refine queued_endWork (hs p).1 fun q ne => ⟨(hs q).1, ?_⟩
    show (s.setSc p c).driving q = true ∨ _
    rw [driving_setSc_ne ne]
    exact (hs q).2
  | restart =>
    intro p
    have fresh : s.restart.tc p = TelegramController.fresh (s.tc p).tagCounter := Oct.get_map _ _ p
    rw [State.queued, fresh]
    exact ⟨⟨Nat.zero_le _, .nil, Nat.zero_le _, .nil, by simp [TelegramController.fresh], (hs p).1.tag⟩, .inr rfl⟩
  | powerOn => exact telegramLaw_iff.mp rfl

/-- Settles O58: every elementary change keeps the queues bounded and ordered, and idle unless the pair drives. -/
theorem stepKeepsTelegramQueues : Obligations.StepKeepsTelegramQueues := by
  intro s t law taken
  exact telegramLaw_iff.mpr
    (step_keeps (I := fun s => ∀ p, s.queued p) (fun _ h => h) Move.queued taken (telegramLaw_iff.mp law))

end Sys2Proof.Machine
end

section
/-! PROOFS. The Case List and the in-service stack under every elementary change: O59. The stack is followed as the
list of its cases (`Listed`); its states are then a matter of that list alone (`Served`). -/

namespace Sys2Proof.Machine

/-! ### The Case List -/

/-- The law of the Case List (R126), by membership. -/
structure State.CasesLawful (s : State) : Prop where
  count : s.arbiter.cases.length ≤ 32
  sorted : s.arbiter.cases.Pairwise fun c d => c.number < d.number
  range : ∀ c ∈ s.arbiter.cases, 1 ≤ c.number ∧ c.number ≤ 255
  places : s.arbiter.cases.Pairwise fun c d => ¬(c.station = d.station ∧ c.pair = d.pair)
  caused : ∀ c ∈ s.arbiter.cases, c.evidence.some? = true

theorem caseLaw_iff {s : State} : s.caseLaw = true ↔ s.CasesLawful := by
  simp only [State.caseLaw, Bool.and_eq_true, decide_eq_true_eq, rising_iff, List.pairwise_map, List.all_eq_true,
    inRange, noTwo_iff, Bool.and_eq_false_iff, beq_eq_false_iff_ne, ← not_and_or, ne_eq]
  exact ⟨fun ⟨⟨⟨⟨a, b⟩, c⟩, d⟩, e⟩ => ⟨a, b, c, d, e⟩, fun ⟨a, b, c, d, e⟩ => ⟨⟨⟨⟨a, b⟩, c⟩, d⟩, e⟩⟩

/-- A number names one case. -/
theorem State.CasesLawful.eq_of_number {s : State} (h : s.CasesLawful) {c d : Case} (hc : c ∈ s.arbiter.cases)
    (hd : d ∈ s.arbiter.cases) (e : c.number = d.number) : c = d := by
  have found := case?_of_mem (caseLaw_iff.mpr h) hc
  rw [e, case?_of_mem (caseLaw_iff.mpr h) hd] at found
  exact (Option.some.inj found).symm

/-- The two cases are one in what a case keeps while it is open. -/
def Case.sameCase (c d : Case) : Prop := d.number = c.number ∧ d.station = c.station ∧ d.pair = c.pair

/-- Cases changed one by one, each still caused. -/
theorem State.CasesLawful.map {s t : State} (h : s.CasesLawful) {g : Case → Case}
    (cases : t.arbiter.cases = s.arbiter.cases.map g)
    (same : ∀ c ∈ s.arbiter.cases, c.sameCase (g c) ∧ (c.evidence.some? = true → (g c).evidence.some? = true)) :
    t.CasesLawful := by
  refine ⟨?count, ?sorted, ?range, ?places, ?caused⟩
  case count => simpa [cases] using h.count
  case sorted =>
    rw [cases, List.pairwise_map]
    exact h.sorted.imp_of_mem fun hc hd lt => by rwa [(same _ hc).1.1, (same _ hd).1.1]
  case range =>
    simp only [cases, List.mem_map, forall_exists_index, and_imp, forall_apply_eq_imp_iff₂]
    exact fun c hc => (same c hc).1.1 ▸ h.range c hc
  case places =>
    rw [cases, List.pairwise_map]
    refine h.places.imp_of_mem fun {c d} hc hd apart => ?_
    obtain ⟨⟨-, cs, cp⟩, -⟩ := same c hc
    obtain ⟨⟨-, ds, dp⟩, -⟩ := same d hd
    rwa [cs, cp, ds, dp]
  case caused =>
    simp only [cases, List.mem_map, forall_exists_index, and_imp, forall_apply_eq_imp_iff₂]
    exact fun c hc => (same c hc).2 (h.caused c hc)

theorem State.CasesLawful.of_eq {s t : State} (h : s.CasesLawful) (cases : t.arbiter.cases = s.arbiter.cases) :
    t.CasesLawful := h.map (g := id) (by simpa using cases) fun _ _ => ⟨⟨rfl, rfl, rfl⟩, id⟩

theorem State.CasesLawful.filter {s t : State} (h : s.CasesLawful) {f : Case → Bool}
    (cases : t.arbiter.cases = s.arbiter.cases.filter f) : t.CasesLawful := by
  have mem {c : Case} (hc : c ∈ t.arbiter.cases) : c ∈ s.arbiter.cases := List.mem_of_mem_filter (cases ▸ hc)
  exact ⟨cases ▸ (List.length_filter_le _ _).trans h.count, cases ▸ h.sorted.filter _, fun c hc => h.range c (mem hc),
    cases ▸ h.places.filter _, fun c hc => h.caused c (mem hc)⟩

/-- A case of a number changed. -/
def Case.on (k : Nat) (f : Case → Case) (c : Case) : Case := if c.number == k then f c else c

theorem Case.on_self {k : Nat} {f : Case → Case} {c : Case} (h : c.number = k) : c.on k f = f c := by
  simp [Case.on, h]

theorem Case.on_other {k : Nat} {f : Case → Case} {c : Case} (h : c.number ≠ k) : c.on k f = c := by
  simp [Case.on, h]

theorem updateCase_cases (s : State) (k : Nat) (f : Case → Case) :
    (s.updateCase k f).arbiter.cases = s.arbiter.cases.map (·.on k f) := rfl

theorem updateCase_stack (s : State) (k : Nat) (f : Case → Case) :
    (s.updateCase k f).arbiter.stack = s.arbiter.stack := rfl

theorem setCaseState_cases (s : State) (k : Nat) (st : CaseState) :
    (s.setCaseState k st).arbiter.cases = s.arbiter.cases.map (·.on k fun c => { c with state := st }) := rfl

theorem Case.on_state_number (c : Case) (k : Nat) (st : CaseState) :
    (c.on k fun c => { c with state := st }).number = c.number := by
  unfold Case.on
  split <;> rfl

theorem State.CasesLawful.setCaseState {s : State} (h : s.CasesLawful) (k : Nat) (st : CaseState) :
    (s.setCaseState k st).CasesLawful := by
  refine h.map (setCaseState_cases s k st) fun c _ => ?_
  unfold Case.on
  split <;> exact ⟨⟨rfl, rfl, rfl⟩, id⟩

/-! ### The stack -/

/-- The in-service stack is that of these open cases, top first, with priority rising toward the top; no other case
is in service (R136). -/
structure State.Listed (s : State) (l : List Case) : Prop where
  stack : s.arbiter.stack = l.map (·.number)
  mem : ∀ c ∈ l, c ∈ s.arbiter.cases
  levels : l.Pairwise fun c d => c.level < d.level
  complete : ∀ c ∈ s.arbiter.cases, c.inService = true → c ∈ l

/-- The top is ACTIVE, the others are SUSPENDED (R136). -/
def Served : List Case → Prop
  | [] => True
  | c :: rest => c.state = .active ∧ ∀ d ∈ rest, d.state = .suspended

/-- Every case of the stack but its top is SUSPENDED. -/
def Waiting (l : List Case) : Prop := ∀ d ∈ l.tail, d.state = .suspended

theorem Served.waiting {l : List Case} (h : Served l) : Waiting l := by
  cases l with
  | nil => exact fun _ hd => by simp at hd
  | cons c rest => exact h.2

/-- A case in a served stack is in service. -/
theorem Served.inService {l : List Case} (h : Served l) : ∀ c ∈ l, c.inService = true := by
  intro c hc
  cases l with
  | nil => simp at hc
  | cons d rest =>
    rw [Case.inService_iff]
    rcases List.mem_cons.mp hc with rfl | hc
    · exact .inl h.1
    · exact .inr (h.2 c hc)

/-- No two cases of the stack have one number: they have different levels. -/
theorem State.Listed.numbers {s : State} {l : List Case} (h : s.Listed l) (lawful : s.CasesLawful) :
    l.Pairwise fun c d => c.number ≠ d.number :=
  h.levels.imp_of_mem fun hc hd lt e => by
    rw [lawful.eq_of_number (h.mem _ hc) (h.mem _ hd) e] at lt
    exact lt_irrefl _ lt

theorem State.Listed.stackCases {s : State} {l : List Case} (h : s.Listed l) (lawful : s.CasesLawful) :
    s.stackCases = l := by
  have found : ∀ {m : List Case}, (∀ c ∈ m, c ∈ s.arbiter.cases) → (m.map (·.number)).filterMap s.case? = m := by
    intro m
    induction m with
    | nil => exact fun _ => rfl
    | cons c m ih =>
      intro mem
      rw [List.map_cons, List.filterMap_cons, case?_of_mem (caseLaw_iff.mpr lawful) (mem c (by simp)),
        ih fun d hd => mem d (List.mem_cons_of_mem _ hd)]
  rw [State.stackCases, h.stack]
  exact found h.mem

/-- A look-up that finds every number of a list finds the cases of these numbers. -/
theorem filterMap_map_number {f : Nat → Option Case} (number : ∀ {k c}, f k = some c → c.number = k) :
    ∀ {l : List Nat}, (l.filterMap f).length = l.length → (l.filterMap f).map (·.number) = l
  | [], _ => rfl
  | k :: l, h => by
    cases found : f k with
    | none =>
      rw [List.filterMap_cons_none found, List.length_cons] at h
      have := List.length_filterMap_le f l
      omega
    | some c =>
      rw [List.filterMap_cons_some found, List.length_cons, List.length_cons] at h
      rw [List.filterMap_cons_some found, List.map_cons, number found,
        filterMap_map_number number (Nat.succ.inj h)]

theorem served_iff {l : List Case} : (match l with
    | [] => true
    | c :: rest => c.state == .active && rest.all (·.state == .suspended)) = true ↔ Served l := by
  cases l <;> simp [Served]

theorem stackLaw_iff {s : State} (lawful : s.CasesLawful) : s.stackLaw = true ↔ ∃ l, s.Listed l ∧ Served l := by
  simp only [State.stackLaw, Bool.and_eq_true, decide_eq_true_eq, rising_iff, List.pairwise_map, List.all_eq_true,
    Bool.or_eq_true, Bool.not_eq_true', List.contains_iff_mem]
  constructor
  · rintro ⟨⟨⟨length, levels⟩, states⟩, complete⟩
    have stack := filterMap_map_number (f := s.case?) (fun h => (case?_some h).2) length
    refine ⟨s.stackCases, ⟨stack.symm, fun c hc => ?_, levels, fun c hc served => ?_⟩, served_iff.mp states⟩
    · obtain ⟨k, -, found⟩ := List.mem_filterMap.mp hc
      exact (case?_some found).1
    · exact List.mem_filterMap.mpr ⟨c.number, (complete c hc).resolve_left (by simp [served]),
        case?_of_mem (caseLaw_iff.mpr lawful) hc⟩
  · rintro ⟨l, listed, served⟩
    rw [listed.stackCases lawful]
    refine ⟨⟨⟨by simp [listed.stack], listed.levels⟩, served_iff.mpr served⟩, fun c hc => ?_⟩
    cases e : c.inService with
    | false => exact .inl rfl
    | true => exact .inr (listed.stack ▸ List.mem_map_of_mem (listed.complete c hc e))

/-! ### The stack under changes of its cases -/

/-- Cases changed one by one; a case in service keeps its level and state, another stays out of service. -/
theorem State.Listed.map {s t : State} {l : List Case} (h : s.Listed l) {g : Case → Case}
    (cases : t.arbiter.cases = s.arbiter.cases.map g) (stack : t.arbiter.stack = s.arbiter.stack)
    (number : ∀ c ∈ s.arbiter.cases, (g c).number = c.number)
    (level : ∀ c ∈ l, (g c).level = c.level)
    (out : ∀ c ∈ s.arbiter.cases, c ∉ l → (g c).inService = false) : t.Listed (l.map g) := by
  refine ⟨?stack, ?mem, ?levels, ?complete⟩
  case stack =>
    rw [stack, h.stack, List.map_map]
    exact List.map_congr_left fun c hc => (number c (h.mem c hc)).symm
  case mem =>
    rw [cases]
    intro c hc
    obtain ⟨d, hd, rfl⟩ := List.mem_map.mp hc
    exact List.mem_map_of_mem (h.mem d hd)
  case levels =>
    rw [List.pairwise_map]
    exact h.levels.imp_of_mem fun hc hd lt => by rwa [level _ hc, level _ hd]
  case complete =>
    rw [cases]
    intro c hc served
    obtain ⟨d, hd, rfl⟩ := List.mem_map.mp hc
    by_contra absent
    have outside := out d hd fun hl => absent (List.mem_map_of_mem hl)
    rw [served] at outside
    cases outside

theorem Served.map {l : List Case} (h : Served l) {g : Case → Case} (state : ∀ c ∈ l, (g c).state = c.state) :
    Served (l.map g) := by
  cases l with
  | nil => trivial
  | cons c rest =>
    refine ⟨(state c List.mem_cons_self).trans h.1, fun d hd => ?_⟩
    obtain ⟨e, he, rfl⟩ := List.mem_map.mp hd
    exact (state e (List.mem_cons_of_mem _ he)).trans (h.2 e he)

theorem inService_congr {c d : Case} (h : d.state = c.state) : d.inService = c.inService := by
  simp [Case.inService, h]

/-- The whole law of the Case List and the stack, with the stack's cases. -/
structure State.Attended (s : State) (l : List Case) : Prop where
  lawful : s.CasesLawful
  listed : s.Listed l
  served : Served l

/-- Cases changed one by one, none in number, level or state while it is in service, and none into service. -/
theorem State.Attended.map {s t : State} {l : List Case} (h : s.Attended l) {g : Case → Case}
    (cases : t.arbiter.cases = s.arbiter.cases.map g) (stack : t.arbiter.stack = s.arbiter.stack)
    (same : ∀ c ∈ s.arbiter.cases, c.sameCase (g c) ∧ (c.evidence.some? = true → (g c).evidence.some? = true))
    (serving : ∀ c ∈ s.arbiter.cases, c.inService = true → (g c).level = c.level ∧ (g c).state = c.state)
    (out : ∀ c ∈ s.arbiter.cases, c.inService = false → (g c).inService = false) : t.Attended (l.map g) := by
  have inService (c : Case) (hc : c ∈ l) := serving c (h.listed.mem c hc) (h.served.inService c hc)
  refine ⟨h.lawful.map cases same, h.listed.map cases stack (fun c hc => (same c hc).1.1)
    (fun c hc => (inService c hc).1) (fun c hc absent => out c hc ?_), h.served.map fun c hc => (inService c hc).2⟩
  by_contra served
  exact absent (h.listed.complete c hc (by simpa using served))

/-- Cases changed in what the stack does not read. -/
theorem State.Attended.map_same {s t : State} {l : List Case} (h : s.Attended l) {g : Case → Case}
    (cases : t.arbiter.cases = s.arbiter.cases.map g) (stack : t.arbiter.stack = s.arbiter.stack)
    (same : ∀ c ∈ s.arbiter.cases, c.sameCase (g c) ∧ (g c).evidence = c.evidence ∧ (g c).level = c.level ∧
      (g c).state = c.state) : t.Attended (l.map g) := by
  refine h.map cases stack (fun c hc => ?_) (fun c hc _ => (same c hc).2.2) fun c hc out => ?_
  · obtain ⟨key, evidence, -, -⟩ := same c hc
    exact ⟨key, evidence ▸ id⟩
  · exact (inService_congr (same c hc).2.2.2).trans out

theorem State.Attended.of_eq {s t : State} {l : List Case} (h : s.Attended l)
    (cases : t.arbiter.cases = s.arbiter.cases) (stack : t.arbiter.stack = s.arbiter.stack) : t.Attended l := by
  have same := h.map_same (g := id) (by simpa using cases) stack fun _ _ => ⟨⟨rfl, rfl, rfl⟩, rfl, rfl, rfl⟩
  rwa [List.map_id] at same

/-- Cases out of service taken off the list. -/
theorem State.Attended.filter {s t : State} {l : List Case} (h : s.Attended l) {f : Case → Bool}
    (cases : t.arbiter.cases = s.arbiter.cases.filter f) (stack : t.arbiter.stack = s.arbiter.stack)
    (serving : ∀ c ∈ s.arbiter.cases, c.inService = true → f c = true) : t.Attended l := by
  refine ⟨h.lawful.filter cases, ⟨stack.trans h.listed.stack, fun c hc => ?_, h.listed.levels, fun c hc => ?_⟩,
    h.served⟩
  · rw [cases]
    exact List.mem_filter.mpr ⟨h.listed.mem c hc, serving c (h.listed.mem c hc) (h.served.inService c hc)⟩
  · exact h.listed.complete c (List.mem_of_mem_filter (cases ▸ hc))

/-- The case on top, if any, made ACTIVE: then the stack is served. -/
theorem attended_activateTop {s : State} {l : List Case} (lawful : s.CasesLawful) (listed : s.Listed l)
    (waiting : Waiting l) : ∃ m, s.activateTop.Attended m ∧ m.map (·.pair) = l.map (·.pair) := by
  unfold State.activateTop
  cases l with
  | nil =>
    have stack : s.arbiter.stack = [] := listed.stack
    simp only [stack]
    exact ⟨[], ⟨lawful, listed, trivial⟩, rfl⟩
  | cons c rest =>
    have stack : s.arbiter.stack = c.number :: rest.map (·.number) := listed.stack
    obtain ⟨first, -⟩ := List.pairwise_cons.mp (listed.numbers lawful)
    simp only [stack]
    refine ⟨(c :: rest).map (·.on c.number fun c => { c with state := .active }),
      ⟨lawful.setCaseState _ _, listed.map (setCaseState_cases s _ _) rfl
        (fun d _ => d.on_state_number _ _) (fun d _ => ?level) fun d hd absent => ?out, ?top, fun d hd => ?others⟩, ?_⟩
    case level =>
      unfold Case.on
      split <;> rfl
    case out =>
      have other : d.number ≠ c.number := fun e => absent
        (lawful.eq_of_number hd (listed.mem c List.mem_cons_self) e ▸ List.mem_cons_self)
      rw [Case.on_other other]
      by_contra served
      exact absent (listed.complete d hd (by simpa using served))
    case top =>
      dsimp only
      rw [Case.on_self rfl]
    case others =>
      obtain ⟨e, he, rfl⟩ := List.mem_map.mp hd
      rw [Case.on_other (first e he).symm]
      exact waiting e he
    · rw [List.map_map]
      refine List.map_congr_left fun d _ => ?_
      dsimp only [Function.comp_apply, Case.on]
      split <;> rfl

/-! ### Merges and openings -/

theorem Evidence.some?_iff {e : Evidence} : e.some? = true ↔ ∃ c, e.has c = true := by
  simp only [Evidence.some?, List.any_eq_true]
  refine ⟨fun ⟨c, _, h⟩ => ⟨c, h⟩, fun ⟨c, h⟩ => ⟨c, ?_, h⟩⟩
  cases c <;> decide

theorem Evidence.has_add_self (e : Evidence) (f : CauseFound) : (e.add f).has f.cause = true := by
  cases f <;> rfl

theorem Evidence.some?_add (e : Evidence) (f : CauseFound) : (e.add f).some? = true :=
  Evidence.some?_iff.mpr ⟨f.cause, e.has_add_self f⟩

@[simp] theorem Case.merge_evidence (m : PerCause Level) (f : CauseFound) (c : Case) :
    (c.merge m f).evidence = c.evidence.add f := by
  unfold Case.merge
  dsimp only
  split <;> (try split) <;> rfl

theorem Case.merge_sameCase (m : PerCause Level) (f : CauseFound) (c : Case) : c.sameCase (c.merge m f) := by
  unfold Case.merge
  dsimp only
  split <;> (try split) <;> exact ⟨rfl, rfl, rfl⟩

/-- A merge keeps the level and the state of a case in service (R134). -/
theorem Case.merge_inService {m : PerCause Level} {f : CauseFound} {c : Case} (h : c.inService = true) :
    (c.merge m f).level = c.level ∧ (c.merge m f).state = c.state := by
  rcases Case.inService_iff.mp h with state | state <;> simp [Case.merge, state]

/-- A merge puts no case into service (R133, R135). -/
theorem Case.merge_out {m : PerCause Level} {f : CauseFound} {c : Case} (h : c.inService = false) :
    (c.merge m f).inService = false := by
  cases state : c.state with
  | pending => simp [Case.merge, state, Case.inService]
  | active => simp [Case.inService, state] at h
  | suspended => simp [Case.inService, state] at h
  | held o =>
    simp only [Case.merge, state]
    split <;> simp [Case.inService]

theorem attended_updateMerge {s : State} {l : List Case} (h : s.Attended l) (k : Nat) (f : CauseFound) :
    (s.updateCase k (Case.merge s.arbiter.policy.levelMap f)).Attended
      (l.map (·.on k (Case.merge s.arbiter.policy.levelMap f))) := by
  refine h.map (updateCase_cases _ _ _) rfl (fun c _ => ?_) (fun c _ serves => ?_) fun c _ out => ?_
  · unfold Case.on
    split
    · exact ⟨c.merge_sameCase _ f, fun _ => by rw [Case.merge_evidence]; exact Evidence.some?_add _ f⟩
    · exact ⟨⟨rfl, rfl, rfl⟩, id⟩
  · unfold Case.on
    split
    · exact Case.merge_inService serves
    · exact ⟨rfl, rfl⟩
  · unfold Case.on
    split
    · exact Case.merge_out out
    · exact out

/-- The next case number is in range and free while fewer than 255 cases are open (R128). -/
theorem nextCaseNumber_free {l : List Case} {last : Nat} (room : l.length < 255) :
    (1 ≤ nextCaseNumber l last ∧ nextCaseNumber l last ≤ 255) ∧ ∀ c ∈ l, c.number ≠ nextCaseNumber l last := by
  unfold nextCaseNumber
  split
  next i found =>
    have free := List.find?_some found
    simp only [Bool.not_eq_true', List.any_eq_false, beq_iff_eq] at free
    exact ⟨by omega, free⟩
  next full =>
    have used : (List.range 255).map (fun i => (last + i) % 255 + 1) ⊆ l.map (·.number) := by
      intro n hn
      obtain ⟨i, hi, rfl⟩ := List.mem_map.mp hn
      simpa using List.find?_eq_none.mp full i hi
    have nodup : ((List.range 255).map fun i => (last + i) % 255 + 1).Nodup := by
      refine (List.nodup_map_iff_inj_on List.nodup_range).mpr fun i hi j hj e => ?_
      have := List.mem_range.mp hi
      have := List.mem_range.mp hj
      omega
    have := (List.subperm_of_subset nodup used).length_le
    simp only [List.length_map, List.length_range] at this
    omega

theorem Evidence.has_none (c : Cause) : Evidence.none.has c = false := by cases c <;> rfl

/-- The case that an opening makes (R131). -/
def State.newCase (s : State) (n : Nat) (p : Pair) (f : CauseFound) (round : Nat) : Case :=
  { number := nextCaseNumber s.arbiter.cases s.arbiter.counter, station := n, pair := p,
    evidence := Evidence.none.add f, level := levelOf s.arbiter.policy.levelMap (Evidence.none.add f),
    state := .pending, openedRound := round, actionTaken := none, claim := none }

theorem openCase_arbiter (s : State) (n : Nat) (p : Pair) (f : CauseFound) (round : Nat) :
    (s.openCase n p f round).arbiter = { s.arbiter with
      cases := insertCase (s.newCase n p f round) s.arbiter.cases,
      counter := nextCaseNumber s.arbiter.cases s.arbiter.counter } := rfl

theorem mem_openCase {s : State} {n : Nat} {p : Pair} {f : CauseFound} {round : Nat} {c : Case} :
    c ∈ (s.openCase n p f round).arbiter.cases ↔ c = s.newCase n p f round ∨ c ∈ s.arbiter.cases := by
  rw [openCase_arbiter, insertCase_eq, List.mem_orderedInsert]

/-- An opening within the list's room (R126, R131). -/
theorem lawful_openCase {s : State} {n : Nat} {p : Pair} {f : CauseFound} {round : Nat} (h : s.CasesLawful)
    (absent : s.caseAt? n p = none) (room : s.arbiter.cases.length < Config.maxCases) :
    (s.openCase n p f round).CasesLawful := by
  have fewer : s.arbiter.cases.length < 32 := room
  obtain ⟨range, free⟩ := nextCaseNumber_free (l := s.arbiter.cases) (last := s.arbiter.counter) (by omega)
  have cases : (s.openCase n p f round).arbiter.cases =
      s.arbiter.cases.orderedInsert (fun a b => a.number < b.number) (s.newCase n p f round) := insertCase_eq _ _
  refine ⟨?count, ?sorted, fun c hc => ?range, ?places, fun c hc => ?caused⟩
  case count =>
    rw [cases, List.orderedInsert_length]
    exact fewer
  case sorted =>
    rw [cases]
    exact pairwise_orderedInsert (key := Case.number) h.sorted free
  case range =>
    rcases mem_openCase.mp hc with rfl | hc
    · exact range
    · exact h.range c hc
  case places =>
    rw [cases]
    exact pairwise_orderedInsert_of_symm (fun {c d} apart => by rwa [eq_comm (a := d.station), eq_comm (a := d.pair)])
      h.places fun c hc same => caseAt?_none.mp absent c hc ⟨same.1.symm, same.2.symm⟩
  case caused =>
    rcases mem_openCase.mp hc with rfl | hc
    · exact Evidence.some?_add _ f
    · exact h.caused c hc

theorem attended_openCase {s : State} {n : Nat} {p : Pair} {f : CauseFound} {round : Nat} {l : List Case}
    (h : s.Attended l) (absent : s.caseAt? n p = none) (room : s.arbiter.cases.length < Config.maxCases) :
    (s.openCase n p f round).Attended l := by
  refine ⟨lawful_openCase h.lawful absent room, ⟨h.listed.stack, fun c hc => mem_openCase.mpr (.inr (h.listed.mem c hc)),
    h.listed.levels, fun c hc served => ?_⟩, h.served⟩
  rcases mem_openCase.mp hc with rfl | hc
  · simp [State.newCase, Case.inService] at served
  · exact h.listed.complete c hc served

/-! ### Entering service -/

/-- The case that a grant serves is PENDING, on a DRIVING pair, and of a higher level than the top (R137, R138). -/
theorem grantDue_some {s : State} {k : Case} (h : s.grantDue = some k) :
    k ∈ s.arbiter.cases ∧ k.state = .pending ∧ s.driving k.pair = true ∧
    ∀ c, s.topCase? = some c → k.level < c.level := by
  unfold State.grantDue at h
  split at h
  next => cases h
  next c chosen =>
    have chosen := bestCase_mem chosen
    simp only [List.mem_filter, State.eligible, Bool.and_eq_true, beq_iff_eq] at chosen
    obtain ⟨hc, ⟨pending, -⟩, driving⟩ := chosen
    split at h
    next none =>
      cases h
      exact ⟨hc, pending, driving, fun d hd => by rw [none] at hd; cases hd⟩
    next top found =>
      split at h
      next lt =>
        cases h
        refine ⟨hc, pending, driving, fun d hd => ?_⟩
        rw [found] at hd
        cases hd
        exact lt
      next => cases h

/-- The cases of the stack, SUSPENDED all. -/
theorem listed_suspendTop {s : State} {l : List Case} (h : s.Attended l) : ∃ m, s.suspendTop.CasesLawful ∧
    s.suspendTop.Listed m ∧ (∀ c ∈ m, c.state = .suspended) ∧ m.map (·.pair) = l.map (·.pair) ∧
    m.map (·.level) = l.map (·.level) ∧
    ∀ c ∈ s.arbiter.cases, c.inService = false → c ∈ s.suspendTop.arbiter.cases := by
  obtain ⟨lawful, listed, served⟩ := h
  unfold State.suspendTop
  cases l with
  | nil =>
    have stack : s.arbiter.stack = [] := listed.stack
    simp only [stack]
    exact ⟨[], lawful, listed, by simp, rfl, rfl, fun c hc _ => hc⟩
  | cons c rest =>
    have stack : s.arbiter.stack = c.number :: rest.map (·.number) := listed.stack
    obtain ⟨first, -⟩ := List.pairwise_cons.mp (listed.numbers lawful)
    have pair (d : Case) : (d.on c.number fun c => { c with state := .suspended }).pair = d.pair := by
      unfold Case.on
      split <;> rfl
    have level (d : Case) : (d.on c.number fun c => { c with state := .suspended }).level = d.level := by
      unfold Case.on
      split <;> rfl
    have outside {d : Case} (hd : d ∈ s.arbiter.cases) (out : d.inService = false) :
        (d.on c.number fun c => { c with state := .suspended }) = d := by
      refine Case.on_other fun e => ?_
      rw [lawful.eq_of_number hd (listed.mem c List.mem_cons_self) e,
        served.inService c List.mem_cons_self] at out
      cases out
    simp only [stack]
    refine ⟨(c :: rest).map (·.on c.number fun c => { c with state := .suspended }), lawful.setCaseState _ _,
      listed.map (setCaseState_cases s _ _) rfl (fun d _ => d.on_state_number _ _) (fun d _ => level d)
        (fun d hd absent => ?out), fun d hd => ?state, ?_, ?_, fun d hd out => ?stays⟩
    case out =>
      have out : d.inService = false := by
        by_contra serves
        exact absent (listed.complete d hd (by simpa using serves))
      rwa [outside hd out]
    case state =>
      obtain ⟨e, he, rfl⟩ := List.mem_map.mp hd
      rcases List.mem_cons.mp he with rfl | he
      · rw [Case.on_self rfl]
      · rw [Case.on_other (first e he).symm]
        exact served.2 e he
    · rw [List.map_map]
      exact List.map_congr_left fun d _ => pair d
    · rw [List.map_map]
      exact List.map_congr_left fun d _ => level d
    case stays =>
      rw [setCaseState_cases]
      exact List.mem_map.mpr ⟨d, hd, outside hd out⟩

/-- A case out of service put on top of a stack whose cases are SUSPENDED (R140). -/
theorem attended_push {s : State} {l : List Case} {k : Case} (h : s.Attended l) (due : s.grantDue = some k) :
    ∃ m, (s.pushCase k).Attended ({ k with state := .active } :: m) ∧ m.map (·.pair) = l.map (·.pair) := by
  obtain ⟨hk, pending, -, above⟩ := grantDue_some due
  have out : k.inService = false := by simp [Case.inService, pending]
  obtain ⟨m, lawful, listed, suspended, pairs, levels, stays⟩ := listed_suspendTop h
  have kept := stays k hk out
  have absent : ∀ c ∈ m, c.number ≠ k.number := fun c hc e => by
    have state := suspended c hc
    rw [lawful.eq_of_number (listed.mem c hc) kept e, pending] at state
    cases state
  have higher : ∀ c ∈ l, k.level < c.level := by
    intro c hc
    cases l with
    | nil => simp at hc
    | cons d rest =>
      have top : s.topCase? = some d := by
        have stack : s.arbiter.stack = d.number :: rest.map (·.number) := h.listed.stack
        rw [State.topCase?, stack]
        exact case?_of_mem (caseLaw_iff.mpr h.lawful) (h.listed.mem d List.mem_cons_self)
      rcases List.mem_cons.mp hc with rfl | hc
      · exact above c top
      · exact (above d top).trans ((List.pairwise_cons.mp h.listed.levels).1 c hc)
  have cases : (s.pushCase k).arbiter.cases =
      s.suspendTop.arbiter.cases.map (·.on k.number fun c => { c with state := .active }) := rfl
  have stack : (s.pushCase k).arbiter.stack = k.number :: s.suspendTop.arbiter.stack := rfl
  refine ⟨m, ⟨(lawful.setCaseState k.number .active).of_eq rfl, ⟨?stack, fun c hc => ?mem, ?levels, fun c hc serves => ?complete⟩,
      rfl, suspended⟩, pairs⟩
  case stack => rw [stack, listed.stack, List.map_cons]
  case mem =>
    rw [cases]
    rcases List.mem_cons.mp hc with rfl | hc
    · exact List.mem_map.mpr ⟨k, kept, Case.on_self rfl⟩
    · exact List.mem_map.mpr ⟨c, listed.mem c hc, Case.on_other (absent c hc)⟩
  case levels =>
    refine List.pairwise_cons.mpr ⟨fun c hc => ?_, listed.levels⟩
    have hl : c.level ∈ l.map (·.level) := levels ▸ List.mem_map_of_mem hc
    obtain ⟨d, hd, e⟩ := List.mem_map.mp hl
    exact e ▸ higher d hd
  case complete =>
    rw [cases] at hc
    obtain ⟨d, hd, rfl⟩ := List.mem_map.mp hc
    by_cases e : d.number = k.number
    · rw [lawful.eq_of_number hd kept e, Case.on_self rfl]
      exact List.mem_cons_self
    · rw [Case.on_other e] at serves ⊢
      exact List.mem_cons_of_mem _ (listed.complete d hd serves)

/-! ### Leaving service -/

theorem State.Attended.topCase? {s : State} {c : Case} {rest : List Case} (h : s.Attended (c :: rest)) :
    s.topCase? = some c := by
  have stack : s.arbiter.stack = c.number :: rest.map (·.number) := h.listed.stack
  rw [State.topCase?, stack]
  exact case?_of_mem (caseLaw_iff.mpr h.lawful) (h.listed.mem c List.mem_cons_self)

theorem State.Attended.topCase?_nil {s : State} (h : s.Attended []) : s.topCase? = none := by
  have stack : s.arbiter.stack = [] := h.listed.stack
  rw [State.topCase?, stack]

/-- A state whose Case Arbiter has the top case HELD and off the stack. -/
theorem listed_leave {s t : State} {c : Case} {rest : List Case} {o : Outcome} (h : s.Attended (c :: rest))
    (cases : t.arbiter.cases = (s.setCaseState c.number (.held o)).arbiter.cases)
    (stack : t.arbiter.stack = s.arbiter.stack.tail) : t.CasesLawful ∧ t.Listed rest := by
  obtain ⟨lawful, listed, served⟩ := h
  obtain ⟨first, -⟩ := List.pairwise_cons.mp (listed.numbers lawful)
  refine ⟨(lawful.setCaseState _ _).of_eq cases, ?stack, fun d hd => ?mem, (List.pairwise_cons.mp listed.levels).2,
    fun d hd serves => ?complete⟩
  case stack => rw [stack, listed.stack, List.map_cons, List.tail_cons]
  case mem =>
    rw [cases, setCaseState_cases]
    exact List.mem_map.mpr ⟨d, listed.mem d (List.mem_cons_of_mem _ hd), Case.on_other (first d hd).symm⟩
  case complete =>
    rw [cases, setCaseState_cases] at hd
    obtain ⟨e, he, rfl⟩ := List.mem_map.mp hd
    by_cases number : e.number = c.number
    · rw [Case.on_self number] at serves
      simp [Case.inService] at serves
    · rw [Case.on_other number] at serves ⊢
      rcases List.mem_cons.mp (listed.complete e he serves) with rfl | rest
      · exact absurd rfl number
      · exact rest

theorem attended_leaveService {s : State} {l : List Case} (h : s.Attended l) (o : Outcome) :
    ∃ m, (s.leaveService o).Attended m ∧ m.map (·.pair) = (l.map (·.pair)).tail := by
  unfold State.leaveService
  cases l with
  | nil =>
    rw [h.topCase?_nil]
    exact ⟨[], h, rfl⟩
  | cons c rest =>
    rw [h.topCase?]
    obtain ⟨lawful, listed⟩ := listed_leave (o := o) h
      (t := (((s.setCaseState c.number (.held o)).setContext c.level none).setArbiter
        { (s.setCaseState c.number (.held o)).arbiter with stack := s.arbiter.stack.tail }).raise .caseHeld) rfl rfl
    exact attended_activateTop lawful listed fun d hd => h.served.2 d (List.mem_of_mem_tail hd)

/-- The numbers of a pair's cases in service. -/
def State.struckNumbers (s : State) (p : Pair) : List Nat := (s.arbiter.cases.filter (s.interrupts p)).map (·.number)

/-- The state in which a pair's cases in service have ended, before a new top becomes ACTIVE (R142). -/
def State.struck (s : State) (p : Pair) : State :=
  ((s.setArbiter { s.arbiter with
    cases := s.arbiter.cases.map fun c =>
      if (s.struckNumbers p).contains c.number then { c with state := .held .interrupted } else c,
    stack := s.arbiter.stack.filter fun k => !(s.struckNumbers p).contains k }).setContexts
      (Oct.make fun l => if ((s.arbiter.cases.filter (s.interrupts p)).map (·.level)).contains l then none
        else s.context l)).raise .caseHeld

theorem interruptCases_eq (s : State) (p : Pair) : s.interruptCases p =
    if (s.arbiter.cases.filter (s.interrupts p)).isEmpty then s else (s.struck p).activateTop := rfl

theorem State.Attended.interrupts_iff {s : State} {l : List Case} (h : s.Attended l) {p : Pair} {c : Case}
    (hc : c ∈ s.arbiter.cases) : s.interrupts p c = true ↔ c.pair = p ∧ c ∈ l := by
  simp only [State.interrupts, Bool.and_eq_true, beq_iff_eq, List.contains_iff_mem, h.listed.stack, List.mem_map]
  refine and_congr_right fun _ => ⟨fun ⟨d, hd, e⟩ => ?_, fun hl => ⟨c, hl, rfl⟩⟩
  exact h.lawful.eq_of_number (h.listed.mem d hd) hc e ▸ hd

theorem State.Attended.struckNumbers_iff {s : State} {l : List Case} (h : s.Attended l) {p : Pair} {c : Case}
    (hc : c ∈ s.arbiter.cases) : (s.struckNumbers p).contains c.number = true ↔ c.pair = p ∧ c ∈ l := by
  rw [List.contains_iff_mem, State.struckNumbers, ← h.interrupts_iff hc, List.mem_map]
  refine ⟨fun ⟨d, hd, e⟩ => ?_, fun hit => ⟨c, List.mem_filter.mpr ⟨hc, hit⟩, rfl⟩⟩
  obtain ⟨hd, hit⟩ := List.mem_filter.mp hd
  exact h.lawful.eq_of_number hd hc e ▸ hit

/-- The Case List and the stack of other pairs' cases, after a pair's cases in service have ended. -/
theorem listed_struck {s : State} {l : List Case} (h : s.Attended l) (p : Pair) :
    (s.struck p).CasesLawful ∧ (s.struck p).Listed (l.filter fun c => c.pair != p) := by
  have hits {c : Case} (hc : c ∈ s.arbiter.cases) := h.struckNumbers_iff (p := p) hc
  obtain ⟨lawful, listed, served⟩ := h
  refine ⟨?lawful, ?stack, fun c hc => ?mem, listed.levels.filter _, fun c hc serves => ?complete⟩
  case lawful =>
    refine lawful.map (g := fun c => if (s.struckNumbers p).contains c.number then { c with state := .held .interrupted }
      else c) rfl fun c _ => ?_
    split <;> exact ⟨⟨rfl, rfl, rfl⟩, id⟩
  case stack =>
    show s.arbiter.stack.filter (fun k => !(s.struckNumbers p).contains k) = _
    rw [listed.stack, List.filter_map]
    refine congrArg _ (List.filter_congr fun c hc => ?_)
    have hit := hits (listed.mem c hc)
    by_cases onPair : c.pair = p <;> simp_all
  case mem =>
    obtain ⟨hl, other⟩ := List.mem_filter.mp hc
    refine List.mem_map.mpr ⟨c, listed.mem c hl, if_neg ?_⟩
    rw [hits (listed.mem c hl)]
    exact fun onPair => by simp [onPair.1] at other
  case complete =>
    obtain ⟨d, hd, rfl⟩ := List.mem_map.mp hc
    split at serves
    · simp [Case.inService] at serves
    next stays =>
      have hl := listed.complete d hd serves
      rw [hits hd] at stays
      rw [if_neg (by rwa [hits hd])]
      exact List.mem_filter.mpr ⟨hl, by simpa using fun onPair => stays ⟨onPair, hl⟩⟩

/-- A pair's cases in service leave the stack (R142). -/
theorem attended_interruptCases {s : State} {l : List Case} (h : s.Attended l) (p : Pair) :
    ∃ m, (s.interruptCases p).Attended m ∧ m.map (·.pair) = (l.filter fun c => c.pair != p).map (·.pair) := by
  rw [interruptCases_eq]
  split
  next none =>
    refine ⟨l, h, congrArg _ (List.filter_eq_self.mpr fun c hc => ?_).symm⟩
    rw [List.isEmpty_iff, List.filter_eq_nil_iff] at none
    have stays := none c (h.listed.mem c hc)
    rw [h.interrupts_iff (h.listed.mem c hc)] at stays
    simpa using fun onPair => stays ⟨onPair, hc⟩
  next =>
    obtain ⟨lawful, listed⟩ := listed_struck h p
    refine attended_activateTop lawful listed fun d hd => ?_
    cases l with
    | nil => simp at hd
    | cons c rest =>
      refine h.served.2 d ?_
      rw [List.filter_cons] at hd
      split at hd
      · exact List.mem_of_mem_filter hd
      · exact List.mem_of_mem_filter (List.mem_of_mem_tail hd)

/-! ### Every change -/

/-- The Case List and the stack are lawful, with the cases of the stack on DRIVING pairs. -/
def State.InOrder (s : State) : Prop := ∃ l, s.Attended l ∧ ∀ p ∈ l.map (·.pair), s.driving p = true

theorem inOrder_iff {s : State} :
    (s.caseLaw = true ∧ s.stackLaw = true ∧ s.serviceLaw = true) ↔ s.InOrder := by
  simp only [State.InOrder, State.serviceLaw, List.all_eq_true, Bool.or_eq_true, Bool.not_eq_true', List.mem_map,
    forall_exists_index, and_imp, forall_apply_eq_imp_iff₂]
  constructor
  · rintro ⟨cases, stack, service⟩
    have lawful := caseLaw_iff.mp cases
    obtain ⟨l, listed, served⟩ := (stackLaw_iff lawful).mp stack
    refine ⟨l, ⟨lawful, listed, served⟩, fun c hc => (service c (listed.mem c hc)).resolve_left ?_⟩
    simp [served.inService c hc]
  · rintro ⟨l, ⟨lawful, listed, served⟩, driving⟩
    refine ⟨caseLaw_iff.mpr lawful, (stackLaw_iff lawful).mpr ⟨l, listed, served⟩, fun c hc => ?_⟩
    cases serves : c.inService with
    | false => exact .inl rfl
    | true => exact .inr (driving c (listed.complete c hc serves))

theorem State.InOrder.of_eq {s t : State} (h : s.InOrder) (arbiter : t.arbiter = s.arbiter)
    (driving : ∀ p, s.driving p = true → t.driving p = true) : t.InOrder := by
  obtain ⟨l, attended, drives⟩ := h
  exact ⟨l, attended.of_eq (by rw [arbiter]) (by rw [arbiter]), fun p hp => driving p (drives p hp)⟩

theorem State.InOrder.of_only {l : List Part} {s t : State} (h : s.InOrder) (only : Only l s t)
    (arbiter : Part.arbiter ∉ l := by decide) (survey : Part.survey ∉ l := by decide) : t.InOrder :=
  h.of_eq (only.arbiter_eq arbiter) fun p drives => (driving_of_survey (only.survey_eq survey) p).trans drives

/-- The stack's cases are replaced by some on pairs among theirs. -/
theorem State.InOrder.of_attended {s t : State} {l m : List Case} (attended : t.Attended m)
    (drives : ∀ p ∈ l.map (·.pair), s.driving p = true) (driving : ∀ p, t.driving p = s.driving p)
    (pairs : ∀ p ∈ m.map (·.pair), p ∈ l.map (·.pair)) : t.InOrder :=
  ⟨m, attended, fun p hp => (driving p).trans (drives p (pairs p hp))⟩

/-- A change of one case that the stack does not read. -/
theorem inOrder_updateCase {s : State} {k : Nat} {f : Case → Case}
    (same : ∀ c : Case, c.sameCase (f c) ∧ (f c).evidence = c.evidence ∧ (f c).level = c.level ∧
      (f c).state = c.state) (h : s.InOrder) : (s.updateCase k f).InOrder := by
  obtain ⟨l, attended, drives⟩ := h
  have same' (c : Case) : c.sameCase (c.on k f) ∧ (c.on k f).evidence = c.evidence ∧ (c.on k f).level = c.level ∧
      (c.on k f).state = c.state := by
    unfold Case.on
    split
    · exact same c
    · exact ⟨⟨rfl, rfl, rfl⟩, rfl, rfl, rfl⟩
  refine State.InOrder.of_attended (attended.map_same (updateCase_cases s k f) rfl fun c _ => same' c) drives
    (fun _ => rfl) fun p hp => ?_
  rw [List.map_map] at hp
  obtain ⟨c, hc, rfl⟩ := List.mem_map.mp hp
  exact List.mem_map.mpr ⟨c, hc, (same' c).1.2.2.symm⟩

theorem WorkMove.inOrder {s t : State} (h : WorkMove s t) (hs : s.InOrder) : t.InOrder := by
  have driving (p : Pair) (drives : s.driving p = true) : t.driving p = true := by
    rw [State.driving, (h.agrees p).1]
    exact drives
  cases h with
  | contexts | occupy | controller | unpresent | present => exact hs.of_eq rfl driving
  | grant k p kind => exact hs.of_eq (only_grantTo s k p kind).arbiter_eq driving
  | submit p t => exact hs.of_eq (only_submit s p t).arbiter_eq driving
  | askAuto k n p =>
    unfold State.askAuto
    split
    · exact inOrder_updateCase (fun _ => ⟨⟨rfl, rfl, rfl⟩, rfl, rfl, rfl⟩) (hs.of_eq (t := s.addClaim _) rfl fun _ => id)
    · exact hs
  | leave o =>
    obtain ⟨l, attended, drives⟩ := hs
    obtain ⟨m, left, pairs⟩ := attended_leaveService attended o
    exact .of_attended left drives (driving_of_survey (only_leaveService s o).survey_eq)
      fun p hp => List.mem_of_mem_tail (pairs ▸ hp)

theorem CaseMove.inOrder {s t : State} (h : CaseMove s t) (hs : s.InOrder) : t.InOrder := by
  have driving := driving_of_survey h.only.survey_eq
  cases h with
  | merge c f =>
    obtain ⟨l, attended, drives⟩ := hs
    have merged := attended_updateMerge attended c.number f
    have state : (s.mergeCase c f).Attended (l.map (·.on c.number (Case.merge s.arbiter.policy.levelMap f))) := by
      unfold State.mergeCase
      dsimp only
      split
      · exact merged.of_eq rfl rfl
      · exact merged
    refine .of_attended state drives driving fun p hp => ?_
    rw [List.map_map] at hp
    obtain ⟨d, hd, rfl⟩ := List.mem_map.mp hp
    refine List.mem_map.mpr ⟨d, hd, ?_⟩
    dsimp only [Function.comp_apply, Case.on]
    split
    · exact (d.merge_sameCase _ f).2.2.symm
    · rfl
  | opens n p f round _ absent room =>
    obtain ⟨l, attended, drives⟩ := hs
    exact ⟨l, attended_openCase attended absent room, fun p hp => (driving p).trans (drives p hp)⟩
  | action k cmd => exact inOrder_updateCase (fun _ => ⟨⟨rfl, rfl, rfl⟩, rfl, rfl, rfl⟩) hs
  | push k due =>
    obtain ⟨l, attended, drives⟩ := hs
    obtain ⟨m, pushed, pairs⟩ := attended_push attended due
    refine ⟨_, pushed, fun p hp => (driving p).trans ?_⟩
    rw [List.map_cons, pairs] at hp
    rcases List.mem_cons.mp hp with rfl | hp
    · exact (grantDue_some due).2.2.1
    · exact drives p hp
  | close c found idle =>
    obtain ⟨l, attended, drives⟩ := hs
    refine ⟨l, attended.filter (f := fun d => d.number != c.number) rfl rfl fun d hd serves => ?_,
      fun p hp => (driving p).trans (drives p hp)⟩
    by_contra same
    rw [attended.lawful.eq_of_number hd (case?_some found).1 (by simpa using same), idle] at serves
    cases serves
  | policy v =>
    obtain ⟨l, attended, drives⟩ := hs
    exact ⟨l, attended.of_eq rfl rfl, drives⟩

theorem SurveyMove.drives {s t : State} (h : SurveyMove s t) (q : Pair) (drives : s.driving q = true) :
    t.driving q = true := by
  have same {p : Pair} {c : SurveyController} (role : c.role = (s.sc p).role) : (s.setSc p c).driving q = true := by
    by_cases e : q = p
    · subst e
      exact (driving_setSc_self role).trans drives
    · exact (driving_setSc_ne e).trans drives
  cases h with
  | steering v steered =>
    have stands : (s.setSurvey v).sc q = { s.sc q with steering := (v.get q).steering } := steered q
    rw [State.driving, stands]
    exact drives
  | count r => exact same rfl
  | putBack p f _ => exact same rfl
  | flags p _ _ _ => exact same rfl
  | role p r idle =>
    have e : q ≠ p := fun e => idle (by simpa [State.driving, e] using drives)
    exact (driving_setSc_ne e).trans drives

/-- The end of a pair's work leaves no case of the pair in service. -/
theorem inOrder_leave {s : State} {p : Pair} {c : SurveyController} {v : RequestPort} {keep : Bool} (hs : s.InOrder) :
    (((s.setSc p c).setPort v).endWork p keep).InOrder := by
  obtain ⟨l, attended, drives⟩ := hs
  have before : (((((s.setSc p c).setPort v).haltSurvey p).abortRounds p).abandonTelegrams p keep).arbiter =
      s.arbiter := (only_abandonTelegrams _ p keep).arbiter_eq.trans (only_abortRounds _ p).arbiter_eq
  obtain ⟨m, interrupted, pairs⟩ := attended_interruptCases
    (attended.of_eq (congrArg CaseArbiter.cases before) (congrArg CaseArbiter.stack before)) p
  refine ⟨m, interrupted, fun q hq => (endWork_driving _ p keep q).trans ?_⟩
  rw [pairs] at hq
  obtain ⟨d, hd, rfl⟩ := List.mem_map.mp hq
  obtain ⟨hd, other⟩ := List.mem_filter.mp hd
  exact (driving_setSc_ne (s := s) (by simpa using other)).trans (drives d.pair (List.mem_map_of_mem hd))

theorem Move.inOrder {s t : State} (h : Move s t) (hs : s.InOrder) : t.InOrder := by
  cases h with
  | work m => exact m.inOrder hs
  | telegram m => exact hs.of_only m.only
  | case m => exact m.inOrder hs
  | table m => exact hs.of_only m.only
  | survey m => exact hs.of_eq m.only.arbiter_eq m.drives
  | pool m => exact hs.of_eq m.only.arbiter_eq fun p drives => (m.driving p).trans drives
  | claim | release | stray | port | draw | setline | setpair => exact hs.of_eq rfl fun _ => id
  | retire r _ idle _ =>
    obtain ⟨l, attended, drives⟩ := hs
    refine ⟨l, attended.filter (f := fun c => c.station != r.number) rfl rfl fun c hc serves => ?_,
      fun p hp => (unlist_driving s r p).trans (drives p hp)⟩
    by_contra same
    have busy := retireBusy_iff.mpr (.inl ⟨c, hc, by simpa using same, Case.inService_iff.mp serves⟩)
    rw [idle] at busy
    cases busy
  | leave p c v keep => exact inOrder_leave hs
  | restart => exact inOrder_iff.mp ⟨rfl, rfl, rfl⟩
  | powerOn => exact inOrder_iff.mp ⟨rfl, rfl, rfl⟩

/-- Settles O59: every elementary change keeps the Case List and the stack in order. -/
theorem stepKeepsCasesAndStack : Obligations.StepKeepsCasesAndStack := by
  intro s t cases stack service taken
  exact inOrder_iff.mpr (step_keeps (I := State.InOrder) (fun _ h => h.of_eq rfl fun _ => id) Move.inOrder taken
    (inOrder_iff.mp ⟨cases, stack, service⟩))

end Sys2Proof.Machine
end

section
/-! PROOFS. Health tied to open cases under every elementary change: O60. -/

namespace Sys2Proof.Machine

/-! ### The places of the cases -/

/-- A case of the station on the pair is open. -/
def State.openAt (s : State) (n : Nat) (p : Pair) : Prop := ∃ c ∈ s.arbiter.cases, c.station = n ∧ c.pair = p

theorem caseAt?_isSome {s : State} {n : Nat} {p : Pair} : (s.caseAt? n p).isSome = true ↔ s.openAt n p := by
  simp [State.caseAt?, State.openAt]

/-- The second state's cases are the first's, changed one by one. -/
def SamePlaces (s t : State) : Prop := ∃ g : Case → Case, t.arbiter.cases = s.arbiter.cases.map g ∧
  ∀ c, c.sameCase (g c) ∧ (c.evidence.some? = true → (g c).evidence.some? = true)

theorem SamePlaces.of_eq {s t : State} (h : t.arbiter.cases = s.arbiter.cases) : SamePlaces s t :=
  ⟨id, by simpa using h, fun _ => ⟨⟨rfl, rfl, rfl⟩, id⟩⟩

theorem SamePlaces.trans {s t u : State} (h : SamePlaces s t) (k : SamePlaces t u) : SamePlaces s u := by
  obtain ⟨f, cases, same⟩ := h
  obtain ⟨g, cases', same'⟩ := k
  refine ⟨g ∘ f, by rw [cases', cases, List.map_map], fun c => ?_⟩
  obtain ⟨⟨n, st, p⟩, e⟩ := same c
  obtain ⟨⟨n', st', p'⟩, e'⟩ := same' (f c)
  exact ⟨⟨n'.trans n, st'.trans st, p'.trans p⟩, fun h => e' (e h)⟩

theorem samePlaces_updateCase {s : State} {k : Nat} {f : Case → Case}
    (same : ∀ c : Case, c.sameCase (f c) ∧ (c.evidence.some? = true → (f c).evidence.some? = true)) :
    SamePlaces s (s.updateCase k f) := by
  refine ⟨(·.on k f), updateCase_cases s k f, fun c => ?_⟩
  dsimp only [Case.on]
  split
  · exact same c
  · exact ⟨⟨rfl, rfl, rfl⟩, id⟩

theorem samePlaces_setCaseState (s : State) (k : Nat) (st : CaseState) : SamePlaces s (s.setCaseState k st) :=
  samePlaces_updateCase fun _ => ⟨⟨rfl, rfl, rfl⟩, id⟩

theorem samePlaces_activateTop (s : State) : SamePlaces s s.activateTop := by
  unfold State.activateTop
  split
  · exact .of_eq rfl
  · exact samePlaces_setCaseState s _ _

theorem samePlaces_suspendTop (s : State) : SamePlaces s s.suspendTop := by
  unfold State.suspendTop
  split
  · exact .of_eq rfl
  · exact samePlaces_setCaseState s _ _

theorem SamePlaces.lawful {s t : State} (h : SamePlaces s t) (hs : s.CasesLawful) : t.CasesLawful := by
  obtain ⟨g, cases, same⟩ := h
  exact hs.map cases fun c _ => same c

theorem SamePlaces.openAt {s t : State} (h : SamePlaces s t) (n : Nat) (p : Pair) : t.openAt n p ↔ s.openAt n p := by
  obtain ⟨g, cases, same⟩ := h
  simp only [State.openAt, cases, List.mem_map, exists_exists_and_eq_and]
  refine exists_congr fun c => and_congr_right fun _ => ?_
  rw [(same c).1.2.1, (same c).1.2.2]

theorem samePlaces_leaveService (s : State) (o : Outcome) : SamePlaces s (s.leaveService o) := by
  unfold State.leaveService
  split
  · exact .of_eq rfl
  next c _ => exact ((samePlaces_setCaseState s c.number (.held o)).trans (.of_eq rfl)).trans (samePlaces_activateTop _)

theorem samePlaces_interruptCases (s : State) (p : Pair) : SamePlaces s (s.interruptCases p) := by
  unfold State.interruptCases
  dsimp only
  split
  · exact .of_eq rfl
  · refine SamePlaces.trans ?_ (samePlaces_activateTop _)
    refine ⟨_, rfl, fun c => ?_⟩
    split <;> exact ⟨⟨rfl, rfl, rfl⟩, id⟩

theorem WorkMove.samePlaces {s t : State} (h : WorkMove s t) : SamePlaces s t := by
  cases h with
  | contexts | occupy | controller | unpresent | present => exact .of_eq rfl
  | grant k p kind => exact .of_eq (by rw [(only_grantTo s k p kind).arbiter_eq])
  | submit p t => exact .of_eq (by rw [(only_submit s p t).arbiter_eq])
  | askAuto k n p =>
    unfold State.askAuto
    split
    · exact SamePlaces.trans (.of_eq (t := s.addClaim _) rfl)
        (samePlaces_updateCase fun _ => ⟨⟨rfl, rfl, rfl⟩, id⟩)
    · exact .of_eq rfl
  | leave o => exact samePlaces_leaveService s o

/-- A merge changes no case's place. -/
theorem samePlaces_mergeCase (s : State) (c : Case) (f : CauseFound) : SamePlaces s (s.mergeCase c f) := by
  have merged : SamePlaces s (s.updateCase c.number (Case.merge s.arbiter.policy.levelMap f)) :=
    samePlaces_updateCase fun d => ⟨d.merge_sameCase _ f, fun _ => by
      rw [Case.merge_evidence]
      exact Evidence.some?_add _ f⟩
  unfold State.mergeCase
  dsimp only
  split
  · exact merged.trans (.of_eq rfl)
  · exact merged

theorem samePlaces_pushCase (s : State) (k : Case) : SamePlaces s (s.pushCase k) :=
  ((samePlaces_suspendTop s).trans (samePlaces_setCaseState _ k.number .active)).trans (.of_eq rfl)

/-! ### Health -/

/-- The part is SUSPECT exactly when its station has an open case on its pair (R72). -/
def State.tied (s : State) (r : Station) (q : PairPart) : Prop := q.health = .suspect ↔ s.openAt r.number q.pair

/-- The law of the cases, every case of an enlisted station, and every part tied to its case. -/
structure State.Watched (s : State) : Prop where
  lawful : s.CasesLawful
  enlisted : ∀ c ∈ s.arbiter.cases, ∃ r ∈ s.table.stations, r.number = c.station
  tied : ∀ r ∈ s.table.stations, ∀ q ∈ r.parts, s.tied r q

theorem watched_iff {s : State} : (s.caseLaw = true ∧ s.healthLaw = true) ↔ s.Watched := by
  have health : s.healthLaw = true ↔ (∀ c ∈ s.arbiter.cases, ∃ r ∈ s.table.stations, r.number = c.station) ∧
      ∀ r ∈ s.table.stations, ∀ q ∈ r.parts, s.tied r q := by
    have both (a b : Bool) : (a == b) = true ↔ (a = true ↔ b = true) := beq_iff_eq.trans Bool.eq_iff_iff
    simp only [State.healthLaw, Bool.and_eq_true, List.all_eq_true, station?_isSome_iff, List.mem_map, both,
      caseAt?_isSome]
    simp only [beq_iff_eq, State.tied]
  rw [caseLaw_iff, health]
  exact ⟨fun ⟨a, b, c⟩ => ⟨a, b, c⟩, fun ⟨a, b, c⟩ => ⟨a, b, c⟩⟩

theorem State.Watched.of_samePlaces {s t : State} (h : s.Watched) (table : t.table = s.table)
    (places : SamePlaces s t) : t.Watched := by
  refine ⟨places.lawful h.lawful, fun c hc => ?_, fun r hr q hq => ?_⟩
  · obtain ⟨g, cases, same⟩ := places
    rw [cases] at hc
    obtain ⟨d, hd, rfl⟩ := List.mem_map.mp hc
    rw [table, (same d).1.2.1]
    exact h.enlisted d hd
  · rw [State.tied, places.openAt]
    exact h.tied r (table ▸ hr) q hq

theorem State.Watched.of_eq {s t : State} (h : s.Watched) (table : t.table = s.table) (arbiter : t.arbiter = s.arbiter) :
    t.Watched := h.of_samePlaces table (.of_eq (by rw [arbiter]))

/-- The records change and the cases stand: the enlisted numbers stand, and every part is tied. -/
theorem State.Watched.of_table {s t : State} (h : s.Watched) (arbiter : t.arbiter = s.arbiter)
    (enlisted : ∀ r ∈ s.table.stations, ∃ q ∈ t.table.stations, q.number = r.number)
    (tied : ∀ r ∈ t.table.stations, ∀ q ∈ r.parts, s.tied r q) : t.Watched := by
  refine ⟨h.lawful.of_eq (by rw [arbiter]), fun c hc => ?_, fun r hr q hq => ?_⟩
  · obtain ⟨r, hr, number⟩ := h.enlisted c (arbiter ▸ hc)
    obtain ⟨q, hq, same⟩ := enlisted r hr
    exact ⟨q, hq, same.trans number⟩
  · rw [State.tied, State.openAt, arbiter]
    exact tied r hr q hq

/-- Records changed one by one, in number not at all. -/
theorem State.Watched.map {s t : State} {g : Station → Station} (h : s.Watched) (arbiter : t.arbiter = s.arbiter)
    (stations : t.table.stations = s.table.stations.map g) (number : ∀ r ∈ s.table.stations, (g r).number = r.number)
    (tied : ∀ r ∈ s.table.stations, ∀ q ∈ (g r).parts, s.tied r q) : t.Watched := by
  refine h.of_table arbiter (fun r hr => ⟨g r, stations ▸ List.mem_map_of_mem hr, number r hr⟩) fun r hr q hq => ?_
  rw [stations] at hr
  obtain ⟨x, hx, rfl⟩ := List.mem_map.mp hr
  rw [State.tied, number x hx]
  exact tied x hx q hq

theorem healthOf_suspect {openCase : Bool} {q : PairPart} : healthOf openCase q = .suspect ↔ openCase = true := by
  unfold healthOf
  repeat' split
  all_goals simp_all

/-- The health set as the fields stand ties the part. -/
theorem tied_refreshed {s : State} {r : Station} {q : PairPart} {n : Nat} {p : Pair} (hn : r.number = n)
    (hp : q.pair = p) : s.tied r { q with health := healthOf (s.caseAt? n p).isSome q } := by
  subst hn hp
  exact healthOf_suspect.trans caseAt?_isSome

/-- The health of a part of a station on a pair set as the fields stand; all others are tied already. -/
theorem watched_refreshHealth {s : State} {n : Nat} {p : Pair} (lawful : s.CasesLawful)
    (enlisted : ∀ c ∈ s.arbiter.cases, ∃ r ∈ s.table.stations, r.number = c.station)
    (tied : ∀ r ∈ s.table.stations, ∀ q ∈ r.parts, ¬(r.number = n ∧ q.pair = p) → s.tied r q) :
    (s.refreshHealth n p).Watched := by
  have mem {r : Station} (hr : r ∈ (s.refreshHealth n p).table.stations) : ∃ x ∈ s.table.stations,
      (if x.number == n then x.updatePart p fun q => { q with health := healthOf (s.caseAt? n p).isSome q } else x) = r :=
    List.mem_map.mp hr
  refine ⟨lawful.of_eq rfl, fun c hc => ?_, fun r hr q hq => ?_⟩
  · obtain ⟨r, hr, number⟩ := enlisted c hc
    refine ⟨_, List.mem_map_of_mem hr, ?_⟩
    split
    · exact number
    · exact number
  · obtain ⟨x, hx, rfl⟩ := mem hr
    split at hq
    next onStation =>
      have hn : x.number = n := by simpa using onStation
      obtain ⟨z, hz, rfl⟩ := List.mem_map.mp hq
      rw [if_pos onStation]
      by_cases hp : z.pair = p
      · rw [if_pos (by simpa using hp)]
        exact tied_refreshed hn hp
      · rw [if_neg (by simpa using hp)]
        exact tied x hx z hz fun both => hp both.2
    next other =>
      rw [if_neg other]
      exact tied x hx q hq fun both => other (by simpa using both.1)

theorem watched_updatePart {s : State} {n : Nat} {p : Pair} {f : PairPart → PairPart} (h : s.Watched)
    (legal : ∀ q, s.hasPart n p q → (f q).pair = p ∧ ∃ y, s.hasPart n p y ∧ (f q).health = y.health) :
    (s.updatePart n p f).Watched := by
  refine h.map rfl (g := fun r => if r.number == n then r.updatePart p f else r) rfl (fun r _ => ?_) fun r hr q hq => ?_
  · split <;> rfl
  · split at hq
    next onStation =>
      have hn : r.number = n := by simpa using onStation
      obtain ⟨z, hz, rfl⟩ := List.mem_map.mp hq
      by_cases hp : z.pair = p
      · obtain ⟨pair, y, ⟨x, hx, xn, hy, yp⟩, health⟩ := legal z ⟨r, hr, hn, hz, hp⟩
        have tie := h.tied x hx y hy
        rw [State.tied, xn, yp] at tie
        rw [if_pos (by simpa using hp), State.tied, health, pair, hn]
        exact tie
      · rw [if_neg (by simpa using hp)]
        exact h.tied r hr z hz
    next => exact h.tied r hr q hq

theorem TableMove.watched {s t : State} (h : TableMove s t) (hs : s.Watched) : t.Watched := by
  have arbiter := h.only.arbiter_eq
  cases h with
  | station n f same =>
    refine hs.of_table arbiter (fun r hr => ?_) fun r hr q hq => ?_
    · refine ⟨_, List.mem_map_of_mem hr, ?_⟩
      split
      next e =>
        have hn : r.number = n := by simpa using e
        obtain ⟨x, -, xn, number, -⟩ := same r hr hn
        exact number.trans (xn.trans hn.symm)
      next => rfl
    · obtain ⟨y, hy, rfl⟩ := List.mem_map.mp hr
      split at hq
      next e =>
        have hn : y.number = n := by simpa using e
        obtain ⟨x, hx, xn, number, -, -, -, -, -, parts⟩ := same y hy hn
        rw [if_pos e, State.tied, number]
        exact hs.tied x hx q (parts ▸ hq)
      next e =>
        rw [if_neg e]
        exact hs.tied y hy q hq
  | part n p f legal => exact watched_updatePart hs fun q hq => ⟨(legal q hq).1, (legal q hq).2.1⟩
  | refresh n p => exact watched_refreshHealth hs.lawful hs.enlisted fun r hr q hq _ => hs.tied r hr q hq
  | place a kind g _ legal =>
    obtain ⟨number, -⟩ := enlistRefusal_none.mp legal
    refine hs.of_table arbiter (fun r hr => ⟨r, mem_placeStation.mpr (.inr hr), rfl⟩) fun r hr q hq => ?_
    rcases mem_placeStation.mp hr with rfl | hr
    · obtain ⟨p, -, rfl⟩ := List.mem_map.mp hq
      refine ⟨fun suspect => (by cases suspect), ?_⟩
      rintro ⟨c, hc, station, -⟩
      obtain ⟨x, hx, xn⟩ := hs.enlisted c hc
      exact absurd (xn.trans station) (station?_none.mp number x hx)
    · exact hs.tied r hr q hq
  | amend r a _ _ =>
    refine hs.map arbiter (amendPlace_stations s r a) (fun x _ => ?_) fun x hx q hq => ?_
    · split <;> simp
    · refine hs.tied x hx q ?_
      split at hq
      · simpa using hq
      · exact hq
  | rebase st scope =>
    refine hs.map arbiter (g := _) rfl (fun _ _ => rfl) fun x hx q hq => ?_
    obtain ⟨z, hz, rfl⟩ := List.mem_map.mp hq
    split
    · exact tied_refreshed (q := { z with baseline := z.latest.map (·.gain), confirm := 0 }) rfl rfl
    · exact hs.tied x hx z hz
  | shift g d x _ => exact hs.map arbiter (shift_stations s g d x) (fun _ _ => rfl) fun x hx q hq => hs.tied x hx q hq

theorem CaseMove.watched {s t : State} (h : CaseMove s t) (hs : s.Watched) : t.Watched := by
  cases h with
  | merge c f => exact hs.of_samePlaces (only_mergeCase s c f).table_eq (samePlaces_mergeCase s c f)
  | action k cmd => exact hs.of_samePlaces rfl (samePlaces_updateCase fun _ => ⟨⟨rfl, rfl, rfl⟩, id⟩)
  | push k _ => exact hs.of_samePlaces (only_pushCase s k).table_eq (samePlaces_pushCase s k)
  | policy v => exact hs.of_samePlaces rfl (.of_eq rfl)
  | opens n p f round enlisted absent room =>
    obtain ⟨v, opened, arbiter⟩ : ∃ v, s.openCase n p f round = ((s.setArbiter v).refreshHealth n p).raise .caseNew ∧
      v = (s.openCase n p f round).arbiter := ⟨_, rfl, rfl⟩
    have lawful := lawful_openCase (f := f) (round := round) hs.lawful absent room
    have mem {c : Case} : c ∈ v.cases ↔ c = s.newCase n p f round ∨ c ∈ s.arbiter.cases := arbiter ▸ mem_openCase
    rw [opened]
    refine State.Watched.of_eq ?_ rfl rfl (s := (s.setArbiter v).refreshHealth n p)
    refine watched_refreshHealth (lawful.of_eq (by rw [← arbiter]; rfl)) (fun c hc => ?_) fun r hr q hq apart => ?_
    · rcases mem.mp hc with rfl | hc
      · obtain ⟨r, hr, number⟩ := List.mem_map.mp (station?_isSome_iff.mp enlisted)
        exact ⟨r, hr, number⟩
      · exact hs.enlisted c hc
    · refine (hs.tied r hr q hq).trans ⟨fun ⟨c, hc, place⟩ => ⟨c, mem.mpr (.inr hc), place⟩, ?_⟩
      rintro ⟨c, hc, place⟩
      rcases mem.mp hc with rfl | hc
      · exact absurd ⟨place.1.symm, place.2.symm⟩ apart
      · exact ⟨c, hc, place⟩
  | close c found idle =>
    obtain ⟨hc, -⟩ := case?_some found
    have removed {d : Case} (hd : d ∈ s.arbiter.cases) (other : d ≠ c) : d.number ≠ c.number := fun e =>
      other (hs.lawful.eq_of_number hd hc e)
    have closed : (s.setArbiter { s.arbiter with
        cases := s.arbiter.cases.filter fun d => d.number != c.number }).CasesLawful :=
      hs.lawful.filter (f := fun d => d.number != c.number) rfl
    refine watched_refreshHealth (closed.of_eq rfl) (fun d hd => ?_) fun r hr q hq apart => ?_
    · obtain ⟨r, hr, number⟩ := hs.enlisted d (List.mem_of_mem_filter hd)
      refine ⟨_, List.mem_map_of_mem hr, ?_⟩
      split <;> exact number
    · obtain ⟨x, hx, rfl⟩ := List.mem_map.mp hr
      have stands : q ∈ x.parts ∧ ¬(x.number = c.station ∧ q.pair = c.pair) := by
        split at hq
        next onStation =>
          rw [if_pos onStation] at apart
          obtain ⟨z, hz, rfl⟩ := List.mem_map.mp hq
          split at apart
          next onPair => exact absurd ⟨by simpa [Station.updatePart] using onStation, by simpa using onPair⟩ apart
          next other => exact ⟨by rwa [if_neg other], by rwa [if_neg other]⟩
        next other =>
          rw [if_neg other] at apart
          exact ⟨hq, apart⟩
      obtain ⟨hq, apart⟩ := stands
      have number : (if x.number == c.station then x.updatePart c.pair fun q => { q with confirm := 0 } else x).number =
          x.number := by split <;> rfl
      rw [State.tied, number]
      refine (hs.tied x hx q hq).trans ⟨?_, fun ⟨d, hd, place⟩ => ⟨d, List.mem_of_mem_filter hd, place⟩⟩
      rintro ⟨d, hd, place⟩
      refine ⟨d, List.mem_filter.mpr ⟨hd, ?_⟩, place⟩
      simpa using removed hd fun e => apart (e ▸ ⟨place.1.symm, place.2.symm⟩)

theorem Move.watched {s t : State} (h : Move s t) (hs : s.Watched) : t.Watched := by
  cases h with
  | work m => exact hs.of_samePlaces m.only.table_eq m.samePlaces
  | telegram m => exact hs.of_eq m.only.table_eq m.only.arbiter_eq
  | case m => exact m.watched hs
  | table m => exact m.watched hs
  | survey m => exact hs.of_eq m.only.table_eq m.only.arbiter_eq
  | pool m => exact hs.of_eq m.only.table_eq m.only.arbiter_eq
  | claim | release | stray | port | draw | setline => exact hs.of_eq rfl rfl
  | setpair p a =>
    refine hs.map rfl (clampConfirm_stations s p a) (fun _ _ => rfl) fun r hr q hq => ?_
    obtain ⟨z, hz, rfl⟩ := List.mem_map.mp hq
    split <;> exact hs.tied r hr z hz
  | retire r =>
    have mem {c : Case} : c ∈ (s.unlist r).arbiter.cases ↔ c ∈ s.arbiter.cases ∧ c.station ≠ r.number := by
      simp [State.unlist, State.withdrawCases, State.removeStation, State.dropSteering, State.setIndex,
        State.bumpGeneration]
    have stations {x : Station} : x ∈ (s.unlist r).table.stations ↔ x ∈ s.table.stations ∧ x.number ≠ r.number :=
      mem_removeStation (s := s)
    refine ⟨hs.lawful.filter (f := fun c => c.station != r.number) rfl, fun c hc => ?_, fun x hx q hq => ?_⟩
    · obtain ⟨hc, other⟩ := mem.mp hc
      obtain ⟨x, hx, number⟩ := hs.enlisted c hc
      exact ⟨x, stations.mpr ⟨hx, number ▸ other⟩, number⟩
    · obtain ⟨hx, other⟩ := stations.mp hx
      refine (hs.tied x hx q hq).trans ⟨?_, fun ⟨c, hc, place⟩ => ⟨c, (mem.mp hc).1, place⟩⟩
      rintro ⟨c, hc, place⟩
      exact ⟨c, mem.mpr ⟨hc, place.1 ▸ other⟩, place⟩
  | leave p c v keep =>
    have aborted : ((((s.setSc p c).setPort v).haltSurvey p).abortRounds p).Watched :=
      hs.of_eq (only_abortRounds _ p).table_eq (only_abortRounds _ p).arbiter_eq
    have abandoned := abandonTelegrams_keeps (I := State.Watched) (fun h table _ arbiter => h.of_eq table arbiter)
      TableMove.watched aborted p keep
    exact abandoned.of_samePlaces (only_interruptCases _ p).table_eq (samePlaces_interruptCases _ p)
  | restart =>
    refine ⟨caseLaw_iff.mp rfl, fun c hc => (by cases hc), fun r hr q hq => ?_⟩
    obtain ⟨x, -, rfl⟩ := List.mem_map.mp hr
    obtain ⟨z, -, rfl⟩ := List.mem_map.mp hq
    exact ⟨fun suspect => (by cases suspect), fun ⟨c, hc, _⟩ => by cases hc⟩
  | powerOn => exact watched_iff.mp ⟨rfl, rfl⟩

/-- Settles O60: every elementary change keeps SUSPECT tied to an open case. -/
theorem stepKeepsHealthTiedToCases : Obligations.StepKeepsHealthTiedToCases := by
  intro s t cases health taken
  exact (watched_iff.mpr (step_keeps (I := State.Watched) (fun _ h => h.of_eq rfl rfl) Move.watched taken
    (watched_iff.mp ⟨cases, health⟩))).2

end Sys2Proof.Machine
end

section
/-! PROOFS. The part as a machine: the front command, completion, power-on values; what a refusal leaves; frames out
of turn: O1, O2, O3, O4, O5, O53. -/

namespace Sys2Proof.Machine

/-! ### Steps -/

/-- Settles O1: both are the definition of a step. -/
theorem stepRunsFrontCommand : Obligations.StepRunsFrontCommand :=
  ⟨fun i rest s front => by simp only [step, front], fun s idle => by simp only [step, idle]⟩

/-- Every command comes to a next state. -/
theorem exec_next (i : Instr) (s : State) : ∃ t, exec i s = .next t := by
  cases i <;> exact ⟨_, rfl⟩

theorem Move.pending_eq {s t : State} (h : Move s t) : t.pending = s.pending := by
  cases h with
  | work m => exact m.only.pending_eq
  | telegram m => exact m.only.pending_eq
  | case m => exact m.only.pending_eq
  | table m => exact m.only.pending_eq
  | survey m => exact m.only.pending_eq
  | pool m => exact m.only.pending_eq
  | retire r _ _ _ => exact (only_unlist s r).pending_eq
  | leave p c v keep _ _ _ => exact (only_endWork _ p keep).pending_eq
  | _ => rfl

theorem Moves.pending_eq {s t : State} (h : Moves s t) : t.pending = s.pending :=
  h.keeps (I := fun u => u.pending = s.pending) (fun m same => m.pending_eq.trans same) rfl

/-- Settles O2: a command is a sequence of elementary changes, and none of those touches the queue. -/
theorem everyCommandCompletes : Obligations.EveryCommandCompletes := fun i s =>
  have ⟨t, next⟩ := exec_next i s
  ⟨t, next, (exec_moves next).pending_eq⟩

/-! ### Power-on reset -/

/-- Settles O3: every value is read off the reset state. -/
theorem powerOnValues : Obligations.PowerOnValues := by
  refine fun s => ⟨s.powerOn, rfl, ?_, ?_, ?_, ?_, ?_, ?_, ?_, ?_, ?_, rfl, ?_⟩
  · exact ⟨rfl, rfl, rfl, rfl, rfl, rfl⟩
  · refine ⟨rfl, fun p => ?_⟩
    fin_cases p <;> rfl
  · refine ⟨rfl, fun g => ?_⟩
    rcases g with _ | _ | _ | _ <;> exact ⟨rfl, rfl⟩
  · intro p
    fin_cases p <;> exact ⟨rfl, rfl, rfl, rfl, rfl, rfl, rfl, rfl, rfl, rfl, rfl⟩
  · refine ⟨fun k => ?_, rfl, rfl, rfl⟩
    fin_cases k <;> rfl
  · intro p
    fin_cases p <;> rfl
  · intro p
    fin_cases p <;> rfl
  · refine ⟨rfl, rfl, rfl, fun p => ?_⟩
    fin_cases p <;> rfl
  · refine ⟨rfl, rfl, rfl, fun l => ?_, rfl, rfl, fun l => ?_⟩
    · fin_cases l <;> rfl
    · fin_cases l <;> exact ⟨rfl, rfl⟩
  · intro l
    fin_cases l <;> rfl

/-- Settles O53: each law is evaluated on the reset state. -/
theorem resetMeetsEveryLaw : Obligations.ResetMeetsEveryLaw := by
  unfold Obligations.ResetMeetsEveryLaw
  decide

/-! ### Refusals -/

/-- The answer accepts, or leaves the state as it was, with an empty body unless the refusal is HELD's. -/
def AcceptsOrKeeps (s : State) (a : Answer) : Prop :=
  a.2.1 = .ok ∨ a.2.1 = .queued ∨ a.1 = s ∧ (a.2.1 ≠ .held → a.2.2 = .empty)

theorem keeps_refuse (s : State) (st : Status) : AcceptsOrKeeps s (s.refuse st) := .inr (.inr ⟨rfl, fun _ => rfl⟩)

theorem accepts_ok (s t : State) (b : Body) : AcceptsOrKeeps s (t.ok b) := .inl rfl

theorem accepts_findDelay (s : State) (g : Segment) (d : Nat) : AcceptsOrKeeps s (s.findDelay g d) := by
  unfold State.findDelay
  dsimp only
  split
  · exact keeps_refuse s _
  · split <;> exact accepts_ok s _ _

theorem accepts_performFindNext (o n : Nat) (s : State) : AcceptsOrKeeps s (performFindNext o n s) := by
  unfold performFindNext State.findNextNumber State.findNextDelay
  split
  · split
    · exact accepts_ok s _ _
    · split
      · exact accepts_ok s _ _
      · exact keeps_refuse s _
  · split
    · split
      · exact keeps_refuse s _
      · exact accepts_ok s _ _
    · exact keeps_refuse s _
  · exact keeps_refuse s _

theorem accepts_performShift (g d : Nat) (x : Int) (s : State) : AcceptsOrKeeps s (performShift g d x s) := by
  unfold performShift State.acceptShift
  split
  · exact keeps_refuse s _
  · split
    · split
      · exact keeps_refuse s _
      · split <;> exact accepts_ok s _ _
    · exact keeps_refuse s _

theorem accepts_performRebase (n p : Nat) (s : State) : AcceptsOrKeeps s (performRebase n p s) := by
  unfold performRebase
  split
  · exact keeps_refuse s _
  · split
    · exact keeps_refuse s _
    · split
      · exact keeps_refuse s _
      · split
        · exact accepts_ok s _ _
        · exact keeps_refuse s _

/-- HELD returns the claim in the way. -/
theorem accepts_takeScope (s : State) (r : Station) (scope : ClaimPair) : AcceptsOrKeeps s (s.takeScope r scope) := by
  unfold State.takeScope
  split
  · split
    · exact .inr (.inr ⟨rfl, fun other => absurd rfl other⟩)
    · exact keeps_refuse s _
    · exact accepts_ok s _ _
  · exact keeps_refuse s _

theorem accepts_performTake (n p : Nat) (s : State) : AcceptsOrKeeps s (performTake n p s) := by
  unfold performTake
  split
  · exact keeps_refuse s _
  · split
    · split
      · exact keeps_refuse s _
      · exact accepts_takeScope s _ _
    · exact keeps_refuse s _

theorem accepts_performOperator (n p : Nat) (k : Option TelegramKind) (s : State) :
    AcceptsOrKeeps s (performOperator n p k s) := by
  unfold performOperator
  split
  · split
    · split
      · exact keeps_refuse s _
      · split
        · exact keeps_refuse s _
        · exact .inr (.inl rfl)
    · exact keeps_refuse s _
  · exact keeps_refuse s _

/-- Every performer refuses without a change, or answers OK or QUEUED. -/
theorem accepts_performer {i : Instr} {f : State → Answer} (hf : performer i = some f) (s : State) :
    AcceptsOrKeeps s (f s) := by
  have refuses := keeps_refuse s
  have answers := accepts_ok s
  cases i <;> simp only [performer, Option.some.injEq, reduceCtorEq] at hf <;> subst hf
  case findByNumber => unfold performFindByNumber; split <;> simp only [refuses, answers]
  case findByAddress => unfold performFindByAddress; split <;> (try split) <;> simp only [refuses, answers]
  case findByDelay =>
    unfold performFindByDelay
    split
    · split
      · exact accepts_findDelay s _ _
      · exact refuses _
    · exact refuses _
  case findNext o n => exact accepts_performFindNext o n s
  case enlist => unfold performEnlist; split <;> (try split) <;> simp only [refuses, answers]
  case amend => unfold performAmend; split <;> (try split) <;> simp only [refuses, answers]
  case retire => unfold performRetire; split <;> (try split) <;> (try split) <;> simp only [refuses, answers]
  case rebase n p => exact accepts_performRebase n p s
  case shift g d x => exact accepts_performShift g d x s
  case setline => unfold performSetline; split <;> (try split) <;> simp only [refuses, answers]
  case setpair => unfold performSetpair; split <;> (try split) <;> simp only [refuses, answers]
  case policy => unfold performPolicy; split <;> simp only [refuses, answers]
  case role => unfold performRole; split <;> (try split) <;> (try split) <;> simp only [refuses, answers]
  case pairStatus => unfold performPairStatus; split <;> simp only [refuses, answers]
  case clearContention => unfold performClear; split <;> (try split) <;> simp only [refuses, answers]
  case listCases => exact answers _ _
  case readCase => unfold performReadCase; split <;> (try split) <;> simp only [refuses, answers]
  case close => unfold performClose; split <;> (try split) <;> (try split) <;> simp only [refuses, answers]
  case take n p => exact accepts_performTake n p s
  case drop => unfold performDrop; split <;> (try split) <;> (try split) <;> simp only [refuses, answers]
  case listClaims => exact answers _ _
  case strayRead => unfold performStrayRead; split <;> simp only [refuses, answers]
  case attend => exact answers _ _
  case attentionEnable => unfold performAttentionEnable; split <;> simp only [refuses, answers]
  case restart => exact answers _ _
  all_goals exact accepts_performOperator _ _ _ s

/-- Settles O4: every performer refuses without a change. -/
theorem refusedRequestChangesNothing : Obligations.RefusedRequestChangesNothing := by
  intro i k s t r kind idle next performing notOk notQueued
  have request : (performer i).isSome = true := by rw [performer_isSome, kind]; rfl
  obtain ⟨f, hf⟩ := Option.isSome_iff_exists.mp request
  rw [exec_request kind hf, State.request_idle idle] at next
  cases next
  cases performing
  obtain ok | queued | ⟨same, body⟩ := accepts_performer hf s
  · exact absurd ok notOk
  · exact absurd queued notQueued
  · exact ⟨by rw [same]; rfl, rfl, body⟩

/-! ### Frames out of turn -/

theorem State.requestFrame_busy {s : State} (bytes : List Byte) (busy : s.port.state ≠ .idle) :
    s.requestFrame bytes = s.setCollision := by
  unfold State.requestFrame
  split
  · exact State.request_busy busy _ _
  · split <;> exact State.request_busy busy _ _

theorem State.collide_busy {s : State} (busy : s.port.state ≠ .idle) : s.collide = s.setCollision := by
  unfold State.collide
  split
  next idle => exact absurd idle busy
  next => rfl

/-- Settles O5: out of turn, a request is not performed, whichever it is. -/
theorem frameOutOfTurnCollides : Obligations.FrameOutOfTurnCollides := by
  refine fun s => ⟨fun busy i frame => ?_, fun r performing => ?_, fun idle => ?_⟩
  · rcases frame with rfl | request | ⟨bytes, rfl⟩
    · exact congrArg Host.Outcome.next (State.collide_busy busy)
    · exact exec_request_busy request busy
    · exact congrArg Host.Outcome.next (State.requestFrame_busy bytes busy)
  · refine congrArg Host.Outcome.next ?_
    simp only [State.finishPerforming, State.setPort_port, performing]
    rfl
  · refine congrArg Host.Outcome.next ?_
    simp only [State.collide, idle]

end Sys2Proof.Machine
end

section
/-! PROOFS. Frames: every field of a request body is read back as it was written, and only what was written is read
(R185 to R187): O7, O6. -/

namespace Sys2Proof

/-! ### Fields -/

/-- The reader reads the values of a field back as they are written, reads nothing else, and what the field writes
has at most so many bytes. -/
structure Field {α : Type} (put : α → List Byte) (get : Reader α) (ok : α → Bool) (size : Nat) : Prop where
  reads : ∀ x rest, ok x = true → get (put x ++ rest) = some (x, rest)
  writes : ∀ bytes x rest, get bytes = some (x, rest) → bytes = put x ++ rest ∧ ok x = true
  short : ∀ x, ok x = true → (put x).length ≤ size

theorem ofNat_toNat_byte (b : Byte) : BitVec.ofNat 8 b.toNat = b := BitVec.ofNat_toNat ..

theorem put2_of_bytes (a b : Byte) : put2 (a.toNat * 256 + b.toNat) = [a, b] := by
  have high : BitVec.ofNat 8 ((a.toNat * 256 + b.toNat) / 256) = a := by bv_omega
  have low : BitVec.ofNat 8 (a.toNat * 256 + b.toNat) = b := by bv_omega
  rw [put2, high, low]

theorem put4_of_bytes (a b c d : Byte) :
    put4 (a.toNat * 16777216 + b.toNat * 65536 + c.toNat * 256 + d.toNat) = [a, b, c, d] := by
  have first : BitVec.ofNat 8 ((a.toNat * 16777216 + b.toNat * 65536 + c.toNat * 256 + d.toNat) / 16777216) = a := by
    bv_omega
  have second : BitVec.ofNat 8 ((a.toNat * 16777216 + b.toNat * 65536 + c.toNat * 256 + d.toNat) / 65536) = b := by
    bv_omega
  have third : BitVec.ofNat 8 ((a.toNat * 16777216 + b.toNat * 65536 + c.toNat * 256 + d.toNat) / 256) = c := by
    bv_omega
  have fourth : BitVec.ofNat 8 (a.toNat * 16777216 + b.toNat * 65536 + c.toNat * 256 + d.toNat) = d := by bv_omega
  rw [put4, first, second, third, fourth]

theorem get2_put2 {n : Nat} (small : n < 65536) (rest : List Byte) : get2 (put2 n ++ rest) = some (n, rest) := by
  have value : (BitVec.ofNat 8 (n / 256)).toNat * 256 + (BitVec.ofNat 8 n).toNat = n := by
    simp only [BitVec.toNat_ofNat]
    omega
  simp only [put2, List.cons_append, List.nil_append, get2, value]

theorem get2_some {bytes rest : List Byte} {n : Nat} (read : get2 bytes = some (n, rest)) :
    bytes = put2 n ++ rest ∧ n < 65536 := by
  unfold get2 at read
  split at read
  next a b _ =>
    cases read
    exact ⟨by rw [put2_of_bytes]; rfl, by bv_omega⟩
  · cases read

theorem field1 : Field put1 get1 fits1 1 where
  reads n rest fits := by
    have value : (BitVec.ofNat 8 n).toNat = n := by
      simp only [fits1, decide_eq_true_eq] at fits
      simp only [BitVec.toNat_ofNat]
      omega
    simp only [put1, List.cons_append, List.nil_append, get1, value]
  writes bytes n rest read := by
    unfold get1 at read
    split at read
    next b _ =>
      cases read
      exact ⟨by rw [put1, ofNat_toNat_byte]; rfl, decide_eq_true b.isLt⟩
    · cases read
  short n _ := Nat.le.refl

theorem field2 : Field put2 get2 fits2 2 where
  reads _ rest fits := get2_put2 (of_decide_eq_true fits) rest
  writes _ _ _ read := ⟨(get2_some read).1, decide_eq_true (get2_some read).2⟩
  short _ _ := Nat.le.refl

theorem field4 : Field put4 get4 fits4 4 where
  reads n rest fits := by
    have value : (BitVec.ofNat 8 (n / 16777216)).toNat * 16777216 + (BitVec.ofNat 8 (n / 65536)).toNat * 65536 +
        (BitVec.ofNat 8 (n / 256)).toNat * 256 + (BitVec.ofNat 8 n).toNat = n := by
      simp only [fits4, decide_eq_true_eq] at fits
      simp only [BitVec.toNat_ofNat]
      omega
    simp only [put4, List.cons_append, List.nil_append, get4, value]
  writes bytes n rest read := by
    unfold get4 at read
    split at read
    next a b c d _ =>
      cases read
      exact ⟨by rw [put4_of_bytes]; rfl, decide_eq_true (by bv_omega)⟩
    · cases read
  short n _ := Nat.le.refl

theorem fieldSigned2 : Field putSigned2 getSigned2 fitsSigned2 2 where
  reads i rest fits := by
    simp only [fitsSigned2, Bool.and_eq_true, decide_eq_true_eq] at fits
    have value : (BitVec.ofInt 16 i).toInt = i := BitVec.toInt_ofInt_eq_self (by decide) (by omega) (by omega)
    simp only [putSigned2, getSigned2, get2_put2 (BitVec.ofInt 16 i).isLt, BitVec.ofNat_toNat, BitVec.setWidth_eq, value]
  writes bytes i rest read := by
    unfold getSigned2 at read
    split at read
    next n _ word =>
      cases read
      obtain ⟨bytes, small⟩ := get2_some word
      have value : (BitVec.ofInt 16 (BitVec.ofNat 16 n).toInt).toNat = n := by
        rw [BitVec.ofInt_toInt, BitVec.toNat_ofNat]
        omega
      have low := BitVec.le_toInt (BitVec.ofNat 16 n)
      have high := BitVec.toInt_lt (x := BitVec.ofNat 16 n)
      refine ⟨by rw [putSigned2, value]; exact bytes, ?_⟩
      simp only [fitsSigned2, Bool.and_eq_true, decide_eq_true_eq]
      omega
    · cases read
  short i _ := Nat.le.refl

theorem fieldWord : Field putWord getWord (fun _ => true) 2 where
  reads w rest _ := by
    simp only [putWord, getWord, get2_put2 w.isLt, BitVec.ofNat_toNat, BitVec.setWidth_eq]
  writes bytes w rest read := by
    unfold getWord at read
    split at read
    next n _ word =>
      cases read
      obtain ⟨bytes, small⟩ := get2_some word
      have value : (BitVec.ofNat 16 n).toNat = n := by
        rw [BitVec.toNat_ofNat]
        omega
      exact ⟨by rw [putWord, value]; exact bytes, rfl⟩
    · cases read
  short w _ := Nat.le.refl

theorem fieldMask : Field (fun b => [b]) getMask (fun _ => true) 1 where
  reads b rest _ := rfl
  writes bytes b rest read := by
    unfold getMask at read
    split at read
    · cases read
      exact ⟨rfl, rfl⟩
    · cases read
  short b _ := Nat.le.refl

theorem fieldNothing : Field (fun _ : Unit => []) (getNothing ()) (fun _ => true) 0 where
  reads _ _ _ := rfl
  writes bytes x rest read := by
    cases read
    exact ⟨rfl, rfl⟩
  short _ _ := Nat.le.refl

section
variable {α β : Type} {put : α → List Byte} {get : Reader α} {ok : α → Bool} {m : Nat}

theorem Field.opt (h : Field put get ok m) : Field (putOpt put) (getOpt get) (optFits ok) (m + 1) where
  reads o rest fits := by
    cases o with
    | none => rfl
    | some x =>
      have read := h.reads x rest fits
      simp only [putOpt, List.cons_append, getOpt, read]
      rfl
  writes bytes o rest read := by
    unfold getOpt at read
    split at read
    next b after =>
      split at read
      next absent =>
        cases read
        exact ⟨by rw [absent]; rfl, rfl⟩
      next =>
        split at read
        next present =>
          split at read
          next x _ value =>
            cases read
            obtain ⟨bytes, fits⟩ := h.writes _ _ _ value
            exact ⟨by rw [present, bytes]; rfl, fits⟩
          · cases read
        · cases read
    · cases read
  short o fits := by
    cases o with
    | none => exact Nat.succ_le_succ (Nat.zero_le m)
    | some x => exact Nat.succ_le_succ (h.short x fits)

theorem Field.pair (h : Field put get ok m) {put' : β → List Byte} {get' : Reader β} {ok' : β → Bool} {n : Nat}
    (h' : Field put' get' ok' n) :
    Field (fun x => put x.1 ++ put' x.2) (getPair get get') (fun x => ok x.1 && ok' x.2) (m + n) where
  reads x rest fits := by
    obtain ⟨fits, fits'⟩ := Bool.and_eq_true_iff.mp fits
    simp only [getPair, List.append_assoc, h.reads x.1 _ fits, h'.reads x.2 _ fits']
  writes bytes x rest read := by
    unfold getPair at read
    split at read
    next value =>
      split at read
      next value' =>
        cases read
        obtain ⟨bytes, fits⟩ := h.writes _ _ _ value
        obtain ⟨bytes', fits'⟩ := h'.writes _ _ _ value'
        exact ⟨by rw [bytes, bytes', List.append_assoc], Bool.and_eq_true_iff.mpr ⟨fits, fits'⟩⟩
      · cases read
    · cases read
  short x fits := by
    obtain ⟨fits, fits'⟩ := Bool.and_eq_true_iff.mp fits
    rw [List.length_append]
    exact Nat.add_le_add (h.short _ fits) (h'.short _ fits')

theorem Field.reads_many (h : Field put get ok m) :
    ∀ (l : List α) (rest : List Byte), (∀ x ∈ l, ok x = true) →
      getMany get l.length (l.flatMap put ++ rest) = some (l, rest)
  | [], _, _ => rfl
  | x :: l, rest, fits => by
    have tail := h.reads_many l rest fun y mem => fits y (.tail _ mem)
    simp only [List.length_cons, List.flatMap_cons, List.append_assoc, getMany,
      h.reads x _ (fits x (.head _)), tail]

theorem Field.writes_many (h : Field put get ok m) :
    ∀ (n : Nat) (bytes : List Byte) (l : List α) (rest : List Byte), getMany get n bytes = some (l, rest) →
      l.length = n ∧ bytes = l.flatMap put ++ rest ∧ ∀ x ∈ l, ok x = true
  | 0, bytes, l, rest, read => by
    cases read
    exact ⟨rfl, rfl, fun _ mem => by cases mem⟩
  | n + 1, bytes, l, rest, read => by
    unfold getMany at read
    split at read
    next x _ first =>
      split at read
      next others _ later =>
        cases read
        obtain ⟨bytes, fits⟩ := h.writes _ _ _ first
        obtain ⟨count, more, fit⟩ := h.writes_many n _ _ _ later
        refine ⟨congrArg (· + 1) count, by rw [bytes, more, List.flatMap_cons, List.append_assoc], fun y mem => ?_⟩
        obtain rfl | mem := List.mem_cons.mp mem
        · exact fits
        · exact fit y mem
      · cases read
    · cases read

theorem Field.length_many (h : Field put get ok m) (l : List α) (fits : ∀ x ∈ l, ok x = true) :
    (l.flatMap put).length ≤ l.length * m := by
  induction l with
  | nil => exact Nat.zero_le _
  | cons x l ih =>
    have head := h.short x (fits x (.head _))
    have tail := ih fun y mem => fits y (.tail _ mem)
    rw [List.flatMap_cons, List.length_append, List.length_cons, Nat.succ_mul]
    omega

theorem Field.list (h : Field put get ok m) : Field (putList put) (getList get) (listFits ok) (1 + 255 * m) where
  reads l rest fits := by
    obtain ⟨short, fits⟩ := Bool.and_eq_true_iff.mp fits
    simp only [putList, getList, List.append_assoc, field1.reads l.length _ short,
      h.reads_many l rest (List.all_eq_true.mp fits)]
  writes bytes l rest read := by
    unfold getList at read
    split at read
    next n _ count =>
      obtain ⟨bytes, small⟩ := field1.writes _ _ _ count
      obtain ⟨rfl, more, fits⟩ := h.writes_many _ _ _ _ read
      exact ⟨by rw [bytes, more, putList, List.append_assoc],
        Bool.and_eq_true_iff.mpr ⟨small, List.all_eq_true.mpr fits⟩⟩
    · cases read
  short l fits := by
    obtain ⟨short, fits⟩ := Bool.and_eq_true_iff.mp fits
    have entries := h.length_many l (List.all_eq_true.mp fits)
    have few : l.length * m ≤ 255 * m := Nat.mul_le_mul_right m (Nat.le_of_lt_succ (of_decide_eq_true short))
    rw [putList, List.length_append]
    exact Nat.add_le_add Nat.le.refl (entries.trans few)

/-- A field read and turned into another form, which turns back. -/
theorem Field.map (h : Field put get ok m) (g : α → β) (back : β → α) (round : ∀ y, g (back y) = y)
    (trip : ∀ x, back (g x) = x) : Field (fun y => put (back y)) (getMap g get) (fun y => ok (back y)) m where
  reads y rest fits := by simp only [getMap, h.reads (back y) rest fits, round]
  writes bytes y rest read := by
    unfold getMap at read
    split at read
    next value =>
      cases read
      rw [trip]
      exact h.writes _ _ _ value
    · cases read
  short y fits := h.short _ fits

theorem Field.mono (h : Field put get ok m) {n : Nat} (le : m ≤ n) : Field put get ok n :=
  ⟨h.reads, h.writes, fun x fits => (h.short x fits).trans le⟩

/-- The bodies of a request kind: the fields of its arguments. -/
theorem Field.request (h : Field put get ok m) (g : α → Instr) (k : Nat)
    (kind : ∀ x, requestKind (g x) = some k := by intro _; rfl)
    (body : ∀ x, encodeBody (g x) = put x := by intro _; rfl) (wf : ∀ x, (g x).wf = ok x := by intro _; rfl)
    (onto : ∀ i, requestKind i = some k → ∃ x, g x = i := by
      intro i named
      cases i <;> cases named
      simp)
    (small : m ≤ 2044 := by decide) :
    Field encodeBody (getMap g get) (fun i => requestKind i == some k && i.wf) 2044 where
  reads i rest fits := by
    obtain ⟨named, fits⟩ := Bool.and_eq_true_iff.mp fits
    obtain ⟨x, rfl⟩ := onto i (eq_of_beq named)
    rw [wf] at fits
    simp only [getMap, body, h.reads x rest fits]
  writes bytes i rest read := by
    unfold getMap at read
    split at read
    next x _ value =>
      cases read
      obtain ⟨bytes, fits⟩ := h.writes _ _ _ value
      exact ⟨by rw [body]; exact bytes, Bool.and_eq_true_iff.mpr ⟨beq_iff_eq.mpr (kind x), (wf x).trans fits⟩⟩
    · cases read
  short i fits := by
    obtain ⟨named, fits⟩ := Bool.and_eq_true_iff.mp fits
    obtain ⟨x, rfl⟩ := onto i (eq_of_beq named)
    rw [body]
    exact (h.short x ((wf x).symm.trans fits)).trans small

end

/-! ### Request bodies -/

/-- A body of two fields, or of three, fields of one byte. -/
theorem field11 : Field (fun x : Nat × Nat => put1 x.1 ++ put1 x.2) (getPair get1 get1)
    (fun x => fits1 x.1 && fits1 x.2) 2 := field1.pair field1

theorem optFits_true {α : Type} (o : Option α) : optFits (fun _ => true) o = true := by cases o <;> rfl

theorem fieldEnlist : Field (fun a : EnlistArgs => encodeBody (.enlist a)) getEnlist EnlistArgs.wf 13 := by
  have body := (field1.pair (field1.pair (field1.pair (field1.opt.pair (field2.pair (field4.pair field1.opt)))))).map
    (fun (n, k, g, b, a, d, w) => (⟨n, k, g, b, a, d, w⟩ : EnlistArgs))
    (fun a => (a.station, a.kind, a.segment, a.branch, a.address, a.delay, a.window)) (fun _ => rfl) fun _ => rfl
  simp only [← Bool.and_assoc] at body
  exact body

theorem fieldAmend : Field (fun a : AmendArgs => encodeBody (.amend a)) getAmend AmendArgs.wf 788 := by
  have body := (field1.pair (field2.opt.pair (field4.opt.pair (field1.opt.pair (field1.opt.pair (fieldWord.opt.pair
    (fieldWord.opt.pair (field1.pair fieldSigned2).list))))))).map
    (fun (n, a, d, w, m, k, c, l) => (⟨n, a, d, w, m, k, c, l⟩ : AmendArgs))
    (fun a => (a.station, a.address, a.delay, a.window, a.mode, a.mask, a.pattern, a.baselines)) (fun _ => rfl)
    fun _ => rfl
  simp only [optFits_true, Bool.true_and, ← Bool.and_assoc] at body
  exact body.mono (by decide)

theorem fieldSetline : Field (fun a : SetlineArgs => encodeBody (.setline a)) getSetline SetlineArgs.wf 17 := by
  have body := (field1.opt.pair (fieldMask.opt.pair (fieldMask.opt.pair (fieldMask.opt.pair (fieldMask.opt.pair
    (field2.opt.pair (field1.opt.pair field1.opt))))))).map
    (fun (e, q, b1, b2, b3, p, t, c) => (⟨e, q, b1, b2, b3, p, t, c⟩ : SetlineArgs))
    (fun a => (a.terminal, a.equipped, a.branch1, a.branch2, a.branch3, a.pollPeriod, a.turnaround, a.claimWait))
    (fun _ => rfl) fun _ => rfl
  simp only [optFits_true, Bool.true_and, ← Bool.and_assoc] at body
  exact body

theorem fieldSetpair : Field (fun a : SetpairArgs => encodeBody (.setpair a)) getSetpair SetpairArgs.wf 16 := by
  have body := (field1.pair (field1.opt.pair (field1.opt.pair (fieldSigned2.opt.pair (field1.opt.pair
    (fieldSigned2.opt.pair fieldSigned2.opt)))))).map
    (fun (p, s, d, t, k, f, y) => (⟨p, s, d, t, k, f, y⟩ : SetpairArgs))
    (fun a => (a.pair, a.stackDepth, a.dwell, a.stepThreshold, a.confirmRounds, a.echoFloor, a.strayThreshold))
    (fun _ => rfl) fun _ => rfl
  simp only [← Bool.and_assoc] at body
  exact body

theorem fieldPolicy : Field (fun a : PolicyArgs => encodeBody (.policy a)) getPolicy PolicyArgs.wf 2044 := by
  have entries := field11.list
  have body := (entries.pair (entries.pair (entries.pair entries))).map
    (fun (l, a, m, k) => (⟨l, a, m, k⟩ : PolicyArgs)) (fun a => (a.levels, a.actions, a.modes, a.masks)) (fun _ => rfl)
    fun _ => rfl
  simp only [← Bool.and_assoc] at body
  exact body.mono (by decide)

/-- The reader of each kind reads the bodies of the well-formed requests of that kind, and no others. -/
theorem bodyReader_field {k : Nat} {get : Reader Instr} (known : bodyReader k = some get) :
    Field encodeBody get (fun i => requestKind i == some k && i.wf) 2044 := by
  unfold bodyReader at known
  split at known <;> cases known
  · exact field1.request .findByNumber 1
  · exact field2.request .findByAddress 2
  · exact (field1.pair field4).request (fun (g, d) => .findByDelay g d) 3
  · exact (field1.pair field2).request (fun (o, n) => .findNext o n) 4
  · exact fieldEnlist.request .enlist 5
  · exact fieldAmend.request .amend 6
  · exact field1.request .retire 7
  · exact (field2.pair field1).request (fun (n, p) => .rebase n p) 8
  · exact (field1.pair (field4.pair fieldSigned2)).request (fun (g, d, x) => .shift g d x) 9
      (wf := fun _ => Bool.and_assoc ..)
  · exact fieldSetline.request .setline 10
  · exact fieldSetpair.request .setpair 11
  · exact fieldPolicy.request .policy 12
  · exact field11.request (fun (p, r) => .role p r) 13
  · exact field1.request .pairStatus 14
  · exact field1.request .clearContention 15
  · exact fieldNothing.request (fun _ => .listCases) 16
  · exact field1.request .readCase 17
  · exact field1.request .close 18
  · exact field11.request (fun (n, p) => .take n p) 19
  · exact field1.request .drop 20
  · exact fieldNothing.request (fun _ => .listClaims) 21
  · exact (field1.pair (field1.pair field1)).request (fun (n, p, a) => .isolate n p a) 22
      (wf := fun _ => Bool.and_assoc ..)
  · exact field11.request (fun (n, p) => .restore n p) 23
  · exact field11.request (fun (n, p) => .cut n p) 24
  · exact field11.request (fun (n, p) => .reconnect n p) 25
  · exact field1.request .strayRead 26
  · exact fieldNothing.request (fun _ => .attend) 27
  · exact fieldMask.request .attentionEnable 28
  · exact fieldNothing.request (fun _ => .restart) 29

/-- Every request kind has a reader, and is a byte. -/
theorem bodyReader_isSome {i : Instr} {k : Nat} (kind : requestKind i = some k) :
    (bodyReader k).isSome = true ∧ k < 256 := by
  cases i <;> cases kind <;> exact ⟨rfl, by decide⟩

/-! ### Frames -/

/-- The frame of a request, byte by byte. -/
theorem encodeFrame_eq {i : Instr} {k : Nat} (kind : requestKind i = some k) :
    encodeFrame i = withCheck (BitVec.ofNat 8 k :: (put2 (encodeBody i).length ++ encodeBody i)) := by
  simp only [encodeFrame, kind, put1, List.cons_append, List.nil_append]

/-- What a closed frame is decoded to depends on its body only. -/
theorem decodeFrame_withCheck (k : Byte) {body : List Byte} (short : body.length < 65536) :
    decodeFrame (withCheck (k :: (put2 body.length ++ body))) = decodeBody k.toNat body := by
  have length : (BitVec.ofNat 8 (body.length / 256)).toNat * 256 + (BitVec.ofNat 8 body.length).toNat = body.length := by
    simp only [BitVec.toNat_ofNat]
    omega
  simp only [withCheck, put2, List.cons_append, List.nil_append, decodeFrame, length, List.take_left, List.drop_left,
    List.length_append]
  exact if_pos ⟨rfl, trivial⟩

/-- A well-formed request's frame is decoded to the request. -/
theorem decodeFrame_encodeFrame {i : Instr} (wf : i.wf = true) (request : (requestKind i).isSome = true) :
    decodeFrame (encodeFrame i) = some i := by
  obtain ⟨k, kind⟩ := Option.isSome_iff_exists.mp request
  obtain ⟨known, small⟩ := bodyReader_isSome kind
  obtain ⟨get, known⟩ := Option.isSome_iff_exists.mp known
  have field := bodyReader_field known
  have fits : (requestKind i == some k && i.wf) = true := by rw [kind, wf, beq_self_eq_true]; rfl
  have short := field.short i fits
  have read := field.reads i [] fits
  have value : (BitVec.ofNat 8 k).toNat = k := Nat.mod_eq_of_lt small
  rw [encodeFrame_eq kind, decodeFrame_withCheck _ (by omega), value, decodeBody, known]
  simp only [List.append_nil] at read
  simp only [read]

/-- A frame that is decoded is the frame of what it is decoded to, a well-formed request. -/
theorem encodeFrame_of_decodeFrame {bytes : List Byte} {i : Instr} (decoded : decodeFrame bytes = some i) :
    i.wf = true ∧ (requestKind i).isSome = true ∧ encodeFrame i = bytes := by
  unfold decodeFrame at decoded
  split at decoded
  next k hi lo rest =>
    dsimp only at decoded
    split at decoded
    next frame =>
      obtain ⟨length, check⟩ := frame
      unfold decodeBody at decoded
      split at decoded
      · cases decoded
      next get known =>
        split at decoded
        next j read =>
          cases decoded
          obtain ⟨body, fits⟩ := (bodyReader_field known).writes _ _ _ read
          obtain ⟨kind, wf⟩ := Bool.and_eq_true_iff.mp fits
          have kind := eq_of_beq kind
          rw [List.append_nil] at body
          have count : (encodeBody i).length = hi.toNat * 256 + lo.toNat := by
            rw [← body, List.length_take, length]
            omega
          refine ⟨wf, by rw [kind]; rfl, ?_⟩
          rw [encodeFrame_eq kind, count, put2_of_bytes, ofNat_toNat_byte, ← body]
          simp only [withCheck, List.cons_append, List.nil_append]
          rw [← check, List.take_append_drop]
        · cases decoded
    · cases decoded
  · cases decoded

/-- Settles O7: every field is read back, so every body is. -/
theorem frameRoundTrip : Obligations.FrameRoundTrip := fun _ wf request => decodeFrame_encodeFrame wf request

namespace Machine

/-! ### Transactions -/

/-- The frame of a request, handed to the port, is that request. -/
theorem requestFrame_encodeFrame {i : Instr} (wf : i.wf = true) (request : (requestKind i).isSome = true) (s : State) :
    exec i s = .next (s.requestFrame (encodeFrame i)) := by
  obtain ⟨k, kind⟩ := Option.isSome_iff_exists.mp request
  have decoded := decodeFrame_encodeFrame wf request
  rw [← performer_isSome] at request
  obtain ⟨f, hf⟩ := Option.isSome_iff_exists.mp request
  rw [exec_request kind hf]
  rw [encodeFrame_eq kind, withCheck, List.cons_append] at decoded ⊢
  simp only [State.requestFrame, decoded, Option.bind_some, hf]

/-- A frame that is no request's is answered BADFRAME. -/
theorem requestFrame_undecoded {kind : Byte} {rest : List Byte}
    (foreign : ∀ i : Instr, i.wf = true → (requestKind i).isSome = true → encodeFrame i ≠ kind :: rest) (s : State) :
    s.requestFrame (kind :: rest) = s.request kind performBadFrame := by
  have undecoded : decodeFrame (kind :: rest) = none := by
    cases decoded : decodeFrame (kind :: rest) with
    | none => rfl
    | some i =>
      obtain ⟨wf, request, same⟩ := encodeFrame_of_decodeFrame decoded
      exact absurd same (foreign i wf request)
  simp only [State.requestFrame, undecoded, Option.bind_none]

/-- Settles O6: a frame is decoded exactly when it is a request's own. -/
theorem transactionsAreRouted : Obligations.TransactionsAreRouted := by
  refine ⟨fun first rest s => ⟨fun notRequest notRead => ?_, rfl, rfl⟩, fun bytes s idle => ⟨?_, ?_, ?_⟩⟩
  · refine congrArg Host.Outcome.next ?_
    unfold State.transaction
    rw [if_neg (by rwa [beq_iff_eq]), if_neg (by rwa [beq_iff_eq])]
    rfl
  · rintro i wf request rfl
    exact (requestFrame_encodeFrame wf request s).symm
  · rintro kind rest rfl foreign
    refine congrArg Host.Outcome.next ?_
    rw [requestFrame_undecoded foreign, State.request_idle idle]
    rfl
  · rintro rfl
    refine congrArg Host.Outcome.next ?_
    rw [State.requestFrame, State.request_idle idle]
    rfl

end Machine

end Sys2Proof
end

section
/-! PROOFS. The response placed and delivered, and the attention set: O8, O9. -/

namespace Sys2Proof.Machine

/-! ### The response -/

/-- Bytes beyond the end of a frame shift out as 0; a shorter transaction takes the frame's front. -/
theorem clockOut_short {n : Nat} {frame : List Byte} (short : n ≤ frame.length) : clockOut n frame = frame.take n := by
  rw [clockOut, List.take_append_of_le_length short]

theorem State.finishPerforming_performing {s : State} {r : Response} (performing : s.port.state = .performing r) :
    s.finishPerforming = s.setPort { s.port with state := .responseReady r s.port.collision } := by
  unfold State.finishPerforming
  rw [performing]

theorem State.finishPerforming_else {s : State} (none : ∀ r, s.port.state ≠ .performing r) : s.finishPerforming = s := by
  unfold State.finishPerforming
  split
  next r performing => exact absurd performing (none r)
  next => rfl

/-- Reading a response: delivered when the whole frame is clocked out. -/
theorem State.read_ready {s : State} {r : Response} {carried : Bool} (ready : s.port.state = .responseReady r carried)
    (n : Nat) :
    s.read n =
      if (r.frame carried).length ≤ n then (s.shiftOut (clockOut n (r.frame carried))).deliver carried
      else s.shiftOut (clockOut n (r.frame carried)) := by
  unfold State.read
  rw [ready]

theorem State.rsp_of_performing {s : State} {r : Response} (performing : s.port.state = .performing r) :
    s.rsp = false := by
  unfold State.rsp
  rw [performing]

/-- Settles O8: the port's state decides what a read transaction shifts out. -/
theorem responseIsPlacedAndDelivered : Obligations.ResponseIsPlacedAndDelivered := by
  refine ⟨fun s => ⟨fun r performing => ⟨?_, State.rsp_of_performing performing, rfl⟩, fun none => ?_⟩,
    fun n s => ⟨fun r carried ready => ⟨fun whole => ?_, fun cut => ?_⟩, fun idle => ?_, fun r performing => ?_⟩⟩
  · exact congrArg Host.Outcome.next (State.finishPerforming_performing performing)
  · exact congrArg Host.Outcome.next (State.finishPerforming_else none)
  · refine congrArg Host.Outcome.next ?_
    rw [State.read_ready ready, if_pos whole]
    rfl
  · refine congrArg Host.Outcome.next ?_
    rw [State.read_ready ready, if_neg (by omega), clockOut_short (by omega)]
    rfl
  · refine congrArg Host.Outcome.next ?_
    unfold State.read
    rw [idle]
    rfl
  · refine congrArg Host.Outcome.next ?_
    unfold State.read
    rw [performing]
    rfl

/-! ### The attention set -/

/-- Two sets have a cause in common exactly when their masks have a bit in common. -/
theorem AttentionSet.meets_iff (a b : AttentionSet) : a.meets b = true ↔ a.toMask &&& b.toMask ≠ 0 := by
  obtain ⟨a0, a1, a2, a3, a4, a5⟩ := a
  obtain ⟨b0, b1, b2, b3, b4, b5⟩ := b
  decide +revert

/-- The bit of a cause. -/
def AttentionCause.bit : AttentionCause → Nat
  | .caseNew => 1
  | .caseHeld => 2
  | .stray => 4
  | .contention => 8
  | .caseFull => 16
  | .operatorDone => 32

theorem AttentionSet.toMask_add (a : AttentionSet) (c : AttentionCause) : (a.add c).toMask = a.toMask ||| c.bit := by
  obtain ⟨a0, a1, a2, a3, a4, a5⟩ := a
  cases c <;> decide +revert

theorem enableOk_iff (m : Byte) : enableOk m = true ↔ m.toNat < 64 := by
  decide +revert

theorem AttentionSet.toMask_ofMask (m : Byte) (causes : m.toNat < 64) : (AttentionSet.ofMask m).toMask = m.toNat := by
  decide +revert

/-- Settles O9: the masks say what the sets hold, and the enable mask's two high bits decide RANGE. -/
theorem attentionSetAndRequests : Obligations.AttentionSetAndRequests := by
  refine ⟨fun s => ⟨AttentionSet.meets_iff _ _, fun e listed => ?_⟩, fun s idle => ⟨⟨?_, rfl⟩, fun m => ⟨?_, ?_⟩⟩⟩
  · have bit : e.2 = e.1.bit := by
      simp only [List.mem_cons, List.not_mem_nil, or_false] at listed
      rcases listed with rfl | rfl | rfl | rfl | rfl | rfl <;> rfl
    exact ⟨bit ▸ AttentionSet.toMask_add _ _, rfl, only_raise s _⟩
  · exact answers_of_eq rfl idle rfl
  · intro causes
    refine ⟨AttentionSet.ofMask m, AttentionSet.toMask_ofMask m causes, answers_of_eq rfl idle ?_⟩
    simp only [performAttentionEnable, (enableOk_iff m).mpr causes]
    rfl
  · intro outside
    have bad : ¬enableOk m = true := fun ok => absurd ((enableOk_iff m).mp ok) (by omega)
    refine refuses_of_eq rfl idle ?_
    simp only [performAttentionEnable, if_neg bad]
    rfl

end Sys2Proof.Machine
end

section
/-! PROOFS. The operands of the settings requests, and what SETLINE, SETPAIR and RESTART write: O10, O11, O13. -/

namespace Sys2Proof.Machine

/-! ### Operands -/

theorem inRange_iff {lo hi n : Nat} : inRange lo hi n = true ↔ lo ≤ n ∧ n ≤ hi := by simp [inRange]

theorem inRangeInt_iff {lo hi n : Int} : inRangeInt lo hi n = true ↔ lo ≤ n ∧ n ≤ hi := by simp [inRangeInt]

/-- An optional operand fails its test exactly when it is named and its value fails. -/
theorem optOk_fails {α : Type} {f : α → Bool} {bad : α → Prop} (fails : ∀ a, ¬f a = true ↔ bad a) {o : Option α} :
    ¬optOk f o = true ↔ ∃ a, o = some a ∧ bad a := by
  cases o with
  | none => simp [optOk]
  | some a => simp [optOk, ← fails]

theorem inRange_fails {lo hi : Nat} (n : Nat) : ¬inRange lo hi n = true ↔ n < lo ∨ hi < n := by
  rw [inRange_iff]
  omega

theorem inRangeInt_fails {lo hi : Int} (n : Int) : ¬inRangeInt lo hi n = true ↔ n < lo ∨ hi < n := by
  rw [inRangeInt_iff]
  omega

theorem readEnd_fails (n : Nat) : ¬(readEnd n).isSome = true ↔ 1 < n := by
  unfold readEnd
  split <;> simp_all
  omega

theorem subsetOf_iff {a b : PairSet} : subsetOf a b = true ↔ a &&& b = a := by
  rw [subsetOf, beq_iff_eq]
  constructor <;> intro h <;> ext i lt
  · have bit := congrArg (·.getLsbD i) h
    simp only [BitVec.getLsbD_and, BitVec.getLsbD_not, lt, decide_true, Bool.true_and, BitVec.getLsbD_zero,
      Bool.and_eq_false_imp, Bool.not_eq_false'] at bit
    simpa [BitVec.getLsbD_eq_getElem lt] using bit
  · have bit := congrArg (·.getLsbD i) h
    simp only [BitVec.getLsbD_eq_getElem lt] at bit
    simpa using bit

theorem branchSetOk_fails (e b : PairSet) : ¬branchSetOk e b = true ↔ b = 0#8 ∨ b &&& e ≠ b := by
  rw [branchSetOk, Bool.and_eq_true, subsetOf_iff, bne_iff_ne]
  tauto

/-! ### SETLINE -/

/-- SETLINE's first check. -/
theorem setlineRanges_fails {l : LineSettings} {a : SetlineArgs} :
    ¬l.setlineRanges a = true ↔
      ((∃ n, a.terminal = some n ∧ 1 < n) ∨ a.equipped = some 0#8 ∨
        (∃ x ∈ [a.branch1, a.branch2, a.branch3], ∃ m, x = some m ∧ (m = 0#8 ∨ m &&& a.equipped.getD l.equipped ≠ m)) ∨
        (∃ n, a.pollPeriod = some n ∧ (n < 1 ∨ 3600 < n)) ∨ (∃ n, a.turnaround = some n ∧ (n < 1 ∨ 50 < n)) ∨
        (∃ n, a.claimWait = some n ∧ (n < 1 ∨ 60 < n))) := by
  have terminal := optOk_fails readEnd_fails (o := a.terminal)
  have equipped : ¬optOk (fun q => q != 0#8) a.equipped = true ↔ a.equipped = some 0#8 := by
    rw [optOk_fails (bad := (· = 0#8)) (by simp)]
    simp
  have branch {b : Option PairSet} := optOk_fails (branchSetOk_fails (a.equipped.getD l.equipped)) (o := b)
  have poll := optOk_fails (inRange_fails (lo := 1) (hi := 3600)) (o := a.pollPeriod)
  have turnaround := optOk_fails (inRange_fails (lo := 1) (hi := 50)) (o := a.turnaround)
  have wait := optOk_fails (inRange_fails (lo := 1) (hi := 60)) (o := a.claimWait)
  simp only [List.mem_cons, List.not_mem_nil, or_false, exists_eq_or_imp, exists_eq_left, ← terminal, ← equipped,
    ← branch, ← poll, ← turnaround, ← wait, LineSettings.setlineRanges, LineSettings.equippedAfter, Bool.and_eq_true,
    not_and_or, or_assoc]

theorem lineInUse_iff {s : State} : s.lineInUse = true ↔ s.table.stations ≠ [] ∨ ∃ p, (s.sc p).role ≠ .off := by
  simp [State.lineInUse, mem_allPairs]

/-- Settles O10: the ranges decide RANGE, records and roles decide STATE. -/
theorem setlineChecksAndWrites : Obligations.SetlineChecksAndWrites := by
  refine fun a s idle => ⟨fun st first => ?_, fun none => ?_⟩
  · obtain ⟨bad, rfl⟩ | ⟨good, ⟨used, rfl⟩ | ⟨-, ⟨⟩⟩⟩ := first
    · refine refuses_of_eq rfl idle ?_
      rw [performSetline, if_neg (setlineRanges_fails.mpr bad)]
      rfl
    · have ranges := Classical.not_not.mp (mt setlineRanges_fails.mp good)
      refine refuses_of_eq rfl idle ?_
      rw [performSetline, if_pos ranges, if_pos (lineInUse_iff.mpr used)]
      rfl
  · have ranges := Classical.not_not.mp (mt setlineRanges_fails.mp (none _ (.head _)))
    have unused : ¬s.lineInUse = true := mt lineInUse_iff.mp (none _ (.tail _ (.head _)))
    refine answers_of_eq rfl idle ?_
    rw [performSetline, if_pos ranges, if_neg unused]
    obtain ⟨terminal, equipped, branch1, branch2, branch3, pollPeriod, turnaround, claimWait⟩ := a
    match terminal with
    | .none => rfl
    | some 0 => rfl
    | some 1 => rfl
    | some (n + 2) => rfl

/-! ### SETPAIR -/

theorem setpairRanges_fails {a : SetpairArgs} : setpairOutside a ↔ 7 < a.pair ∨ ¬setpairRanges a = true := by
  have nat {lo hi : Nat} {o : Option Nat} := optOk_fails (inRange_fails (lo := lo) (hi := hi)) (o := o)
  have int {lo hi : Int} {o : Option Int} := optOk_fails (inRangeInt_fails (lo := lo) (hi := hi)) (o := o)
  simp only [setpairOutside, ← nat, ← int, setpairRanges, Bool.and_eq_true, not_and_or, or_assoc]

/-- Settles O11: the pair and the ranges decide RANGE; the confirm counts of the pair are clamped to its new setting. -/
theorem setpairChecksAndWrites : Obligations.SetpairChecksAndWrites := by
  refine fun a s idle => ⟨fun bad => ?_, fun good p named => ?_⟩
  · refine refuses_of_eq rfl idle ?_
    obtain above | bad := setpairRanges_fails.mp bad
    · rw [performSetpair, readPair_above above]
      rfl
    · unfold performSetpair
      split
      · rfl
      · rw [if_neg bad]
        rfl
  · have ranges : setpairRanges a = true := by
      by_contra bad
      exact good (setpairRanges_fails.mpr (.inr bad))
    refine ⟨s.setpair p a, answers_of_eq rfl idle ?_, only_setpair s p a, Oct.get_set_self _ _ _,
      fun q other => Oct.get_set_ne _ _ other, ?_⟩
    · simp only [performSetpair, ← named, readPair_val, if_pos ranges]
      rfl
    · simp [State.setpair, State.clampConfirm, Station.updatePart, PairSettings.setpair]

/-! ### RESTART -/

theorem restarted_eq (r : Station) : r.restarted = { r with
    settled := none, candidate := none, latched := none, matchSeen := false, armed := true, silent := 0,
    parts := r.parts.map fun q => { q with
      latest := none, step := none, confirm := 0, missing := 0, health := .unmeasured,
      operator := q.operator.map fun a => if a.outcome = .pending then { a with outcome := .abandoned } else a } } := by
  have part : PairPart.restarted = fun q => { q with
      latest := none, step := none, confirm := 0, missing := 0, health := .unmeasured,
      operator := q.operator.map fun a => if a.outcome = .pending then { a with outcome := .abandoned } else a } := by
    funext q
    simp only [PairPart.restarted, beq_iff_eq]
  rw [Station.restarted, part]
  rfl

/-- The units that reach a pair. -/
theorem mem_unitsOnPair {s : State} {p : Pair} {n : Nat} :
    n ∈ s.unitsOnPair p ↔
      ∃ r ∈ s.table.stations, r.number = n ∧ ∃ b, r.kind = .branching b ∧ (s.line.branchSets.get b).has p = true := by
  rw [State.unitsOnPair, List.mem_filterMap]
  refine exists_congr fun r => and_congr_right fun _ => ?_
  cases kind : r.kind with
  | repeater => simp
  | branching b =>
    by_cases reaches : (s.line.branchSets.get b).has p = true
    · simp [reaches]
    · simp [reaches]

/-- Settles O13: every block is written whole, and read off. -/
theorem restartKeepsAndClears : Obligations.RestartKeepsAndClears := by
  refine fun s idle => ⟨s.restart, answers_of_eq rfl idle rfl, ⟨rfl, rfl, rfl, rfl, rfl⟩, ⟨rfl, rfl⟩, ?_, fun p => ?_,
    ⟨fun k => Quad.get_fill _ k, rfl, rfl, rfl⟩, fun p => Oct.get_fill _ p, fun p => ?_,
    ⟨rfl, rfl, rfl, fun p => Oct.get_fill _ p⟩, ⟨rfl, rfl, rfl, fun l => Oct.get_fill _ l⟩, rfl,
    fun l => Oct.get_fill _ l⟩
  · exact congrArg (fun l => { s.table with stations := l }) (List.map_congr_left fun r _ => restarted_eq r)
  · have fresh : s.restart.sc p = SurveyController.fresh ((s.unitsOnPair p).map fun n => (n, Steering.unknown)) :=
      Oct.get_make _ p
    rw [fresh]
    refine ⟨rfl, rfl, rfl, rfl, rfl, rfl, rfl, rfl, rfl, rfl, fun n v => ?_⟩
    rw [SurveyController.fresh, List.mem_map, ← mem_unitsOnPair]
    constructor
    · rintro ⟨m, unit, ⟨⟩⟩
      exact ⟨rfl, unit⟩
    · rintro ⟨rfl, unit⟩
      exact ⟨n, unit, rfl⟩
  · exact Oct.get_map (fun c => TelegramController.fresh c.tagCounter) s.telegrams p

end Sys2Proof.Machine
end

section
/-! PROOFS. POLICY: reading its lists, and the last entry of a code standing: O12. -/

namespace Sys2Proof.Machine

/-! ### Lists of entries -/

/-- The last entry of a code is the last in the rest of the list, or the first entry of the list. -/
theorem lastEntry_cons {α : Type} (n : Nat) (e : Nat × α) (l : List (Nat × α)) :
    lastEntry n (e :: l) = (lastEntry n l).or (if e.1 = n then some e.2 else none) := by
  rw [lastEntry, List.reverse_cons, List.find?_append, lastEntry]
  cases l.reverse.find? (·.1 == n) with
  | some x => rfl
  | none => by_cases named : e.1 = n <;> simp [named]

section
variable {α β : Type} {f : Nat → Option α} {g : Nat → Option β}

theorem readEntries_cons {e : Nat × Nat} {l : List (Nat × Nat)} {m : List (α × β)}
    (read : readEntries f g (e :: l) = some m) :
    ∃ a b rest, f e.1 = some a ∧ g e.2 = some b ∧ readEntries f g l = some rest ∧ m = (a, b) :: rest := by
  unfold readEntries at read
  split at read
  next a b rest named value more =>
    cases read
    exact ⟨a, b, rest, named, value, more, rfl⟩
  · cases read

/-- A list of entries is read unless an entry names a code outside its list. -/
theorem readEntries_none {l : List (Nat × Nat)} :
    readEntries f g l = none ↔ ∃ e ∈ l, f e.1 = none ∨ g e.2 = none := by
  induction l with
  | nil => simp [readEntries]
  | cons e l ih =>
    simp only [List.mem_cons, exists_eq_or_imp, ← ih]
    cases named : f e.1 <;> cases value : g e.2 <;> cases rest : readEntries f g l <;>
      simp [readEntries, named, value, rest]

theorem readList_none {k : Nat} {l : List (Nat × Nat)} :
    readList k f g l = none ↔ k < l.length ∨ ∃ e ∈ l, f e.1 = none ∨ g e.2 = none := by
  rw [← readEntries_none, readList]
  split
  next short => simp [Nat.not_lt.mpr short]
  next long => simp [Nat.not_le.mp long]

theorem readList_some {k : Nat} {l : List (Nat × Nat)} {m : List (α × β)} (read : readList k f g l = some m) :
    readEntries f g l = some m := by
  unfold readList at read
  split at read
  · exact read
  · cases read

/-- What the lists of POLICY leave of one value: the reading of the last entry that names it, or the value in force. -/
def Written (g : Nat → Option β) (last : Option Nat) (new old : β) : Prop :=
  match last with
  | some m => g m = some new
  | none => new = old

/-- Writing the entries in their order leaves the last of each code. -/
theorem written_foldl {M : Type} {get : M → α → β} {set : M → α → β → M}
    (same : ∀ v a b, get (set v a b) a = b) (other : ∀ v a b c, c ≠ a → get (set v a b) c = get v c)
    {n : Nat} {c : α} (code : ∀ k, f k = some c ↔ k = n) :
    ∀ {l : List (Nat × Nat)} {m : List (α × β)} (_ : readEntries f g l = some m) (v : M),
      Written g (lastEntry n l) (get (m.foldl (fun v e => set v e.1 e.2) v) c) (get v c)
  | [], m, read, v => by
    cases read
    rfl
  | e :: l, m, read, v => by
    obtain ⟨a, b, rest, named, value, more, rfl⟩ := readEntries_cons read
    have later := written_foldl same other code more (set v a b)
    rw [lastEntry_cons, List.foldl_cons]
    cases last : lastEntry n l with
    | some k =>
      rw [last] at later
      exact later
    | none =>
      rw [last] at later
      replace later : get _ c = get (set v a b) c := later
      rw [Option.none_or, later]
      by_cases first : e.1 = n
      · have : a = c := by
          rw [(code e.1).mpr first] at named
          exact (Option.some.inj named).symm
        subst this
        rw [if_pos first, same]
        exact value
      · have apart : c ≠ a := by
          rintro rfl
          exact first ((code e.1).mp named)
        rw [if_neg first]
        exact other v a b c apart

end

/-! ### The codes -/

theorem readCause_none {n : Nat} : readCause n = none ↔ 4 < n := by
  unfold readCause
  split <;> simp_all
  omega

theorem readMapAction_none {n : Nat} : readMapAction n = none ↔ 3 < n := by
  unfold readMapAction
  split <;> simp_all
  omega

theorem readLevel_none {n : Nat} : readLevel n = none ↔ 7 < n := by
  unfold readLevel readPair
  split <;> simp <;> omega

theorem readLevelMode_none {n : Nat} : readLevelMode n = none ↔ 1 < n := by
  unfold readLevelMode
  split <;> simp_all
  omega

theorem readMasked_none {n : Nat} : readMasked n = none ↔ 1 < n := by
  unfold readMasked
  split <;> simp_all
  omega

/-- A cause has one code. -/
theorem readCause_inj {m n : Nat} {c : Cause} (hm : readCause m = some c) (hn : readCause n = some c) : m = n := by
  unfold readCause at hm hn
  split at hm <;> cases hm <;> split at hn <;> cases hn <;> rfl

theorem readLevel_some {n : Nat} {l : Level} : readLevel n = some l ↔ n = l.val := by
  unfold readLevel readPair
  split
  · simp [Fin.ext_iff]
  · simp
    omega

/-! ### POLICY -/

theorem setLevels_eq (v : Policy) (l : List (Cause × Level)) :
    v.setLevels l = { v with levelMap := l.foldl (fun m e => m.set e.1 e.2) v.levelMap } := by
  unfold Policy.setLevels
  induction l generalizing v with
  | nil => rfl
  | cons e l ih => rw [List.foldl_cons, ih]; rfl

theorem setActions_eq (v : Policy) (l : List (Cause × MapAction)) :
    v.setActions l = { v with actionMap := l.foldl (fun m e => m.set e.1 e.2) v.actionMap } := by
  unfold Policy.setActions
  induction l generalizing v with
  | nil => rfl
  | cons e l ih => rw [List.foldl_cons, ih]; rfl

theorem setModes_eq (v : Policy) (l : List (Level × LevelMode)) :
    v.setModes l = { v with modes := l.foldl (fun m e => m.set e.1 e.2) v.modes } := by
  unfold Policy.setModes
  induction l generalizing v with
  | nil => rfl
  | cons e l ih => rw [List.foldl_cons, ih]; rfl

theorem setMasks_eq (v : Policy) (l : List (Level × Bool)) :
    v.setMasks l = { v with masked := l.foldl (fun m e => m.set e.1 e.2) v.masked } := by
  unfold Policy.setMasks
  induction l generalizing v with
  | nil => rfl
  | cons e l ih => rw [List.foldl_cons, ih]; rfl

/-- POLICY reads its four lists and writes them into the four maps. -/
theorem amended_some {v w : Policy} {a : PolicyArgs} (read : v.amended a = some w) :
    ∃ l c m k, readEntries readCause readLevel a.levels = some l ∧
      readEntries readCause readMapAction a.actions = some c ∧
      readEntries readLevel readLevelMode a.modes = some m ∧ readEntries readLevel readMasked a.masks = some k ∧
      w.levelMap = l.foldl (fun m e => m.set e.1 e.2) v.levelMap ∧
      w.actionMap = c.foldl (fun m e => m.set e.1 e.2) v.actionMap ∧
      w.modes = m.foldl (fun m e => m.set e.1 e.2) v.modes ∧
      w.masked = k.foldl (fun m e => m.set e.1 e.2) v.masked := by
  unfold Policy.amended at read
  split at read
  next l c m k levels actions modes masks =>
    cases read
    rw [setLevels_eq, setActions_eq, setModes_eq, setMasks_eq]
    exact ⟨l, c, m, k, readList_some levels, readList_some actions, readList_some modes, readList_some masks, rfl, rfl,
      rfl, rfl⟩
  · cases read

/-- POLICY is refused when one of its lists is not read. -/
theorem amended_none {v : Policy} {a : PolicyArgs} :
    v.amended a = none ↔ readList 5 readCause readLevel a.levels = none ∨
      readList 5 readCause readMapAction a.actions = none ∨ readList 8 readLevel readLevelMode a.modes = none ∨
      readList 8 readLevel readMasked a.masks = none := by
  unfold Policy.amended
  split
  next l c m k levels actions modes masks => simp [levels, actions, modes, masks]
  next unread =>
    refine iff_of_true rfl ?_
    by_contra! all
    obtain ⟨levels, actions, modes, masks⟩ := all
    obtain ⟨l, levels⟩ := Option.ne_none_iff_exists'.mp levels
    obtain ⟨c, actions⟩ := Option.ne_none_iff_exists'.mp actions
    obtain ⟨m, modes⟩ := Option.ne_none_iff_exists'.mp modes
    obtain ⟨k, masks⟩ := Option.ne_none_iff_exists'.mp masks
    exact unread l c m k levels actions modes masks

theorem policyOutside_iff {v : Policy} {a : PolicyArgs} : policyOutside a ↔ v.amended a = none := by
  simp only [amended_none, readList_none, readCause_none, readMapAction_none, readLevel_none, readLevelMode_none,
    readMasked_none, policyOutside]
  grind

/-- Settles O12: the lists are read or refused as a whole, and each map takes the last entry of a code. -/
theorem policyChecksAndWrites : Obligations.PolicyChecksAndWrites := by
  refine fun a s idle => ⟨fun bad => ?_, fun good => ?_⟩
  · refine refuses_of_eq rfl idle ?_
    rw [performPolicy, (policyOutside_iff (v := s.arbiter.policy)).mp bad]
    rfl
  · obtain ⟨v, read⟩ := Option.ne_none_iff_exists'.mp (mt (policyOutside_iff (v := s.arbiter.policy)).mpr good)
    obtain ⟨l, c, m, k, levels, actions, modes, masks, levelMap, actionMap, modeMap, maskMap⟩ := amended_some read
    have causes {β : Type} (o : PerCause β) := PerCause.get_set_self o
    have level {β : Type} (o : Oct β) (i : Level) := Oct.get_set_self o i
    refine ⟨v, answers_of_eq rfl idle (by rw [performPolicy, read]; rfl), fun n x code => ?_, fun x => ?_⟩
    · have only (j : Nat) : readCause j = some x ↔ j = n := ⟨fun h => readCause_inj h code, fun h => h ▸ code⟩
      rw [levelMap, actionMap]
      exact ⟨written_foldl (get := PerCause.get) (set := PerCause.set) causes (fun _ _ _ _ => PerCause.get_set_ne _ _) only
          levels _,
        written_foldl (get := PerCause.get) (set := PerCause.set) causes (fun _ _ _ _ => PerCause.get_set_ne _ _) only
          actions _⟩
    · rw [modeMap, maskMap]
      exact ⟨written_foldl (get := Oct.get) (set := Oct.set) level (fun _ _ _ _ => Oct.get_set_ne _ _)
          (fun _ => readLevel_some) modes _,
        written_foldl (get := Oct.get) (set := Oct.set) level (fun _ _ _ _ => Oct.get_set_ne _ _)
          (fun _ => readLevel_some) masks _⟩

end Sys2Proof.Machine
end

section
/-! PROOFS. The checks of ENLIST in the words of the rule: O17. -/

namespace Sys2Proof.Machine

/-! ### Reading the fields of ENLIST -/

theorem delayOk_iff {d : Nat} : delayOk d = true ↔ 10 ≤ d ∧ d ≤ 150000 := inRange_iff

theorem windowOk_iff {w : Nat} : windowOk w = true ↔ 2 ≤ w ∧ w ≤ 50 := inRange_iff

theorem optOk_iff {α : Type} {f : α → Bool} {o : Option α} : optOk f o = true ↔ ∀ a, o = some a → f a = true := by
  cases o <;> simp [optOk]

theorem branch_number_inj {b c : Branch} : b.number.val = c.number.val ↔ b = c := by
  cases b <;> cases c <;> decide

theorem readBranch_some {n : Nat} {b : Branch} : readBranch n = some b ↔ n = b.number.val := by
  constructor
  · intro h
    unfold readBranch at h
    split at h <;> cases h <;> rfl
  · rintro rfl
    cases b <;> rfl

theorem readSegment_some {n : Nat} {g : Segment} : readSegment n = some g ↔ n = g.number.val := by
  constructor
  · intro h
    have low : n ≤ 3 := by
      by_contra above
      rw [readSegment_above (Nat.lt_of_not_le above)] at h
      cases h
    obtain ⟨k, rfl⟩ := exists_segment_number low
    rw [readSegment_number, Option.some.injEq] at h
    rw [h]
  · rintro rfl
    exact readSegment_number g

theorem readKind_repeater {k : Nat} {o : Option Nat} : readKind k o = some .repeater ↔ k = 0 ∧ o = none := by
  unfold readKind
  split
  · simp
  next b =>
    simp only [reduceCtorEq, and_false, iff_false]
    split <;> simp
  next zero _ =>
    simp only [reduceCtorEq, false_iff]
    rintro ⟨rfl, rfl⟩
    exact zero rfl rfl

theorem readKind_branching {k : Nat} {o : Option Nat} {b : Branch} :
    readKind k o = some (.branching b) ↔ k = 1 ∧ o = some b.number.val := by
  unfold readKind
  split
  · simp
  next n =>
    rw [Option.some.injEq, ← readBranch_some]
    split
    next c read => simp [read]
    next read => simp [read]
  next one =>
    simp only [reduceCtorEq, false_iff]
    rintro ⟨rfl, rfl⟩
    exact one _ rfl rfl

/-- The fields fit exactly when they are read (R14, check 1). -/
theorem enlistFieldsFit_iff {a : EnlistArgs} : enlistFieldsFit a ↔ ∃ kind g, readEnlist a = some (kind, g) := by
  constructor
  · rintro ⟨number, segment, address, delay, window, kind⟩
    have windowRead : optOk windowOk a.window = true := optOk_iff.mpr fun w named => windowOk_iff.mpr (window w named)
    obtain ⟨g, read⟩ := exists_segment_number segment
    have segmentRead := readSegment_some.mpr read.symm
    simp only [readEnlist, stationOk_iff.mpr number, addressOk_iff.mpr address, delayOk_iff.mpr delay, windowRead,
      Bool.and_self, if_true]
    rcases kind with ⟨code, branch⟩ | ⟨code, trunk, branch⟩
    · have kindRead := readKind_repeater.mpr ⟨code, branch⟩
      exact ⟨.repeater, g, by rw [kindRead, segmentRead]⟩
    · obtain ⟨b, named⟩ : ∃ b : Branch, a.branch = some b.number.val := by
        rcases branch with h | h | h
        exacts [⟨.b1, h⟩, ⟨.b2, h⟩, ⟨.b3, h⟩]
      have kindRead := readKind_branching.mpr ⟨code, named⟩
      have trunkRead : readSegment a.segment = some .trunk := readSegment_some.mpr trunk
      exact ⟨.branching b, .trunk, by rw [kindRead, trunkRead]⟩
  · rintro ⟨kind, g, read⟩
    obtain ⟨number, address, delay, window, kindRead, segmentRead, fits⟩ := readEnlist_some read
    have segment := readSegment_some.mp segmentRead
    refine ⟨number, by omega, addressOk_iff.mp address, delayOk_iff.mp delay,
      fun w named => windowOk_iff.mp (optOk_iff.mp window w named), ?_⟩
    cases kind with
    | repeater => exact .inl (readKind_repeater.mp kindRead)
    | branching b =>
      obtain ⟨code, branch⟩ := readKind_branching.mp kindRead
      obtain rfl := fits.resolve_left (by simp)
      refine .inr ⟨code, segment, ?_⟩
      cases b
      exacts [.inl branch, .inr (.inl branch), .inr (.inr branch)]

/-! ### The checks -/

section
variable {s : State} {a : EnlistArgs} {kind : StationKind} {g : Segment}

theorem enlist_duplicate : ((s.station? a.station).isSome || (s.byAddress? a.address).isSome) = true ↔
    ∃ r ∈ s.table.stations, r.number = a.station ∨ r.address = a.address := by
  rw [← not_iff_not, Bool.not_eq_true, Bool.or_eq_false_iff, Option.isSome_eq_false_iff, Option.isSome_eq_false_iff,
    Option.isNone_iff_eq_none, Option.isNone_iff_eq_none, station?_none, byAddress?_none]
  push Not
  exact forall₂_and.symm

theorem unit?_isSome {b : Branch} : (s.unit? b).isSome = true ↔ ∃ r ∈ s.table.stations, r.kind = .branching b := by
  rw [← not_iff_not, Bool.not_eq_true, Option.isSome_eq_false_iff, Option.isNone_iff_eq_none, unit?_none]
  push Not
  rfl

/-- The table is full, or the branch does not fit (R14, check 3). -/
theorem enlistState_iff (read : readEnlist a = some (kind, g)) : s.enlistState kind g = true ↔
    (256 ≤ s.table.stations.length ∨
      (a.kind = 0 ∧ a.segment ≠ 0 ∧ ∀ r ∈ s.table.stations, ∀ b, r.kind = .branching b → b.number.val ≠ a.segment) ∨
      (a.kind = 1 ∧ ∃ r ∈ s.table.stations, ∃ b, r.kind = .branching b ∧ a.branch = some b.number.val)) := by
  obtain ⟨-, -, -, -, kindRead, segmentRead, fits⟩ := readEnlist_some read
  have segment := readSegment_some.mp segmentRead
  unfold State.enlistState
  rw [Bool.or_eq_true, decide_eq_true_eq]
  refine or_congr Iff.rfl ?_
  cases kind with
  | repeater =>
    obtain ⟨code, -⟩ := readKind_repeater.mp kindRead
    rw [segment]
    cases g with
    | trunk => simp [code, Segment.number]
    | branch c =>
      have number : c.number.val ≠ 0 := by cases c <;> decide
      change (s.unit? c).isNone = true ↔ _
      simp only [Option.isNone_iff_eq_none, unit?_none, code, Segment.number, number, ne_eq, not_false_eq_true,
        true_and, branch_number_inj, zero_ne_one, false_and, or_false]
      exact forall₂_congr fun u _ => ⟨fun h b kind e => h (e ▸ kind), fun h kind => h c kind rfl⟩
  | branching c =>
    obtain ⟨code, branch⟩ := readKind_branching.mp kindRead
    obtain rfl := fits.resolve_left (by simp)
    change (s.unit? c).isSome = true ↔ _
    simp only [unit?_isSome, code, branch, one_ne_zero, false_and, false_or, true_and, Option.some.injEq,
      branch_number_inj]
    exact exists_congr fun u => and_congr_right fun _ => ⟨fun h => ⟨c, h, rfl⟩, fun ⟨b, h, e⟩ => e ▸ h⟩

/-- The place does not lie beyond the branch's unit. -/
theorem clearsUnit_fails (law : s.geometryLaw = true) {d w : Nat} : ¬s.clearsUnit g d w = true ↔
    ∃ u ∈ s.table.stations, ∃ b, u.kind = .branching b ∧ g = .branch b ∧ d ≤ u.delay + (u.window + w) := by
  cases g with
  | trunk => simp [State.clearsUnit]
  | branch c =>
    rw [State.clearsUnit]
    cases found : s.unit? c with
    | none =>
      have none := unit?_none.mp found
      simp only [not_true, false_iff]
      rintro ⟨u, member, b, kind, ⟨⟩, -⟩
      exact none u member kind
    | some u =>
      obtain ⟨member, kind⟩ := unit?_some found
      simp only [clears, decide_eq_true_eq, Nat.not_lt]
      constructor
      · exact fun close => ⟨u, member, c, kind, rfl, close⟩
      · rintro ⟨v, member', b, kind', ⟨⟩, close⟩
        rw [unit?_of_mem law member' kind', Option.some.injEq] at found
        exact found ▸ close

theorem overlapsIn_iff {n d w : Nat} : s.overlapsIn g n d w = true ↔
    ∃ r ∈ s.table.stations, r.segment = g ∧ r.number ≠ n ∧ r.delay ≤ d + (r.window + w) ∧
      d ≤ r.delay + (r.window + w) := by
  simp [State.overlapsIn, overlapping, and_assoc]

end

/-- The first refusal of ENLIST that applies is what performing answers. -/
theorem performEnlist_first {s : State} {a : EnlistArgs} {st : Status} (law : s.geometryLaw = true)
    (first : FirstApplies (s.enlistChecks a) st) : performEnlist a s = s.refuse st := by
  obtain ⟨unfit, rfl⟩ | ⟨fit, rest⟩ := first
  · have unread : readEnlist a = none := by
      cases read : readEnlist a with
      | none => rfl
      | some k => exact absurd (enlistFieldsFit_iff.mpr ⟨k.1, k.2, read⟩) unfit
    rw [performEnlist, unread]
  obtain ⟨kind, g, read⟩ := enlistFieldsFit_iff.mp (Classical.not_not.mp fit)
  have segment := readSegment_some.mp (readEnlist_some read).2.2.2.2.2.1
  have window : Config.defaultWindow = 8 := rfl
  simp only [performEnlist, read, State.enlistRefusal, enlist_duplicate, window, Bool.not_eq_true', overlapsIn_iff]
  obtain ⟨duplicate, rfl⟩ | ⟨new, rest⟩ := rest
  · rw [if_pos duplicate]
  rw [if_neg new]
  obtain ⟨state, rfl⟩ | ⟨place, rest⟩ := rest
  · rw [if_pos ((enlistState_iff read).mpr state)]
  rw [if_neg (mt (enlistState_iff read).mp place)]
  have beyond : (∃ u ∈ s.table.stations, ∃ b, u.kind = .branching b ∧ b.number.val = a.segment ∧
      a.delay ≤ u.delay + (u.window + a.window.getD 8)) ↔ ¬s.clearsUnit g a.delay (a.window.getD 8) = true := by
    rw [clearsUnit_fails law]
    refine exists_congr fun u => and_congr_right fun _ => exists_congr fun b => and_congr_right fun _ =>
      and_congr_left fun _ => ?_
    rw [segment, eq_comm, ← segment_number_inj]
    rfl
  obtain ⟨close, rfl⟩ | ⟨clear, rest⟩ := rest
  · rw [if_pos (by simpa using beyond.mp close)]
  rw [if_neg (by simpa using mt beyond.mpr clear)]
  obtain ⟨⟨r, member, inSegment, overlap⟩, rfl⟩ | ⟨-, ⟨⟩⟩ := rest
  rw [if_pos ⟨r, member, segment_number_inj.mp (inSegment.trans segment), fun same => new ⟨r, member, .inl same⟩, overlap⟩]

/-- Settles O17: each check of the rule is the model's test. -/
theorem enlistRefusals : Obligations.EnlistRefusals :=
  fun _ _ _ idle law first => refuses_of_eq rfl idle (performEnlist_first law first)

end Sys2Proof.Machine
end

section
/-! PROOFS. What an accepted ENLIST leaves: O18. -/

namespace Sys2Proof.Machine

/-! ### Generations and indexes -/

theorem generation_bumpGeneration (s : State) (g h : Segment) :
    (s.bumpGeneration g).generation h = if h = g then (s.generation g + 1) % 65536 else s.generation h := by
  have written : (s.bumpGeneration g).generation h =
      (s.table.generation.set g.number ((s.generation g + 1) % 65536)).get h.number := rfl
  rw [written, Quad.get_set]
  by_cases e : h = g
  · simp [e]
  · rw [if_neg e, if_neg fun same => e (segment_number_inj.mp (congrArg Fin.val same))]
    rfl

theorem indexLaw_of_table {s t : State} (table : t.table = s.table) (g : Segment) : t.indexLaw g = s.indexLaw g := by
  have found : t.station? = s.station? := funext fun n => by rw [State.station?, table, State.station?]
  simp only [State.indexLaw, State.segmentStations, State.records, State.index, found, table]

theorem index_of_table {s t : State} (table : t.table = s.table) (g : Segment) : t.index g = s.index g := by
  simp only [State.index, table]

theorem generation_of_table {s t : State} (table : t.table = s.table) (g : Segment) :
    t.generation g = s.generation g := by
  simp only [State.generation, table]

theorem placeStation_generation (s : State) (r : Station) (g : Segment) : (s.placeStation r).generation g =
    if g = r.segment then (s.generation g + 1) % 65536 else s.generation g := by
  have written := generation_bumpGeneration ((s.setTable { s.table with
    stations := insertStation r s.table.stations }).setIndex r.segment
      (s.indexInsert r.number r.delay (s.index r.segment))) r.segment g
  refine written.trans ?_
  by_cases e : g = r.segment
  · rw [if_pos e, if_pos e, e]
    rfl
  · rw [if_neg e, if_neg e]
    rfl

/-! ### The pairs after an ENLIST -/

theorem workSteps_presentHeldBack (s : State) (p : Pair) : WorkSteps s (s.presentHeldBack p) := by
  unfold State.presentHeldBack
  dsimp only
  split
  next held =>
    simp only [Bool.and_eq_true, beq_iff_eq] at held
    have live : s.live p := .inr (by simp [held.1.1])
    exact (planSteps_present live.engaged _).work
  next => exact .refl

theorem workSteps_enlistOnPair (kind : StationKind) (s : State) (p : Pair) :
    WorkSteps s (State.enlistOnPair kind s p) := by
  unfold State.enlistOnPair
  split
  · exact workSteps_presentHeldBack s p
  · split
    · exact workSteps_replanned s p
    · exact workSteps_presentHeldBack s p

theorem workSteps_foldl {α : Type} {f : State → α → State} (h : ∀ s a, WorkSteps s (f s a)) :
    ∀ (l : List α) (s : State), WorkSteps s (l.foldl f s)
  | [], _ => .refl
  | a :: l, s => (h s a).trans (workSteps_foldl h l (f s a))

theorem steeringOf_addSteering (c : SurveyController) {n : Nat} (v : Steering) (absent : c.steeringOf n = none) :
    ({ c with steering := addSteering n v c.steering } : SurveyController).steeringOf n = some v := by
  have none : ∀ l : List (Nat × Steering), (l.find? (·.1 == n)).map (·.2) = none →
      ((addSteering n v l).find? (·.1 == n)).map (·.2) = some v := by
    intro l
    induction l with
    | nil => simp [addSteering]
    | cons e l ih =>
      intro h
      rw [addSteering]
      split
      · simp
      · by_cases same : e.1 = n
        · simp [same] at h
        · have differs : (e.1 == n) = false := by simpa using same
          rw [List.find?_cons, differs] at h ⊢
          exact ih h
  exact none c.steering absent

/-- The controllers of a new unit's branch hold it as UNKNOWN (R38). -/
theorem gainSteering_steeringOf {s : State} {n : Nat} {b : Branch} {p : Pair}
    (reaches : (s.line.branchSets.get b).has p = true) (absent : (s.sc p).steeringOf n = none) :
    ((s.gainSteering n (.branching b)).sc p).steeringOf n = some .unknown := by
  have written : (s.gainSteering n (.branching b)).sc p =
      { s.sc p with steering := addSteering n .unknown (s.sc p).steering } := by
    rw [State.gainSteering, State.sc, State.setSurvey_survey, Oct.get_make]
    exact if_pos reaches
  rw [written, steeringOf_addSteering _ _ absent]

/-- The part after an accepted ENLIST: the record placed, the steering states gained, then the pairs' own work and
the telegrams it sends. -/
theorem enlist_parts (s : State) (a : EnlistArgs) (kind : StationKind) (g : Segment) : ∃ u,
    WorkSteps ((s.placeStation (s.newStation a kind g)).gainSteering a.station kind) u ∧ s.enlist a kind g = u.settle := by
  unfold State.enlist
  exact ⟨_, workSteps_foldl (workSteps_enlistOnPair kind) _ _, rfl⟩

theorem enlist_table (s : State) (a : EnlistArgs) (kind : StationKind) (g : Segment) :
    (s.enlist a kind g).table = (s.placeStation (s.newStation a kind g)).table := by
  obtain ⟨u, work, eq⟩ := enlist_parts s a kind g
  rw [eq, (only_settle u).table_eq, work.only.table_eq, (only_gainSteering _ _ _).table_eq]

theorem enlist_steeringOf {s : State} {a : EnlistArgs} {b : Branch} {g : Segment} {p : Pair}
    (reaches : (s.line.branchSets.get b).has p = true) (absent : (s.sc p).steeringOf a.station = none) :
    ((s.enlist a (.branching b) g).sc p).steeringOf a.station = some .unknown := by
  obtain ⟨u, work, eq⟩ := enlist_parts s a (.branching b) g
  obtain ⟨-, -, -, steering, -⟩ := work.agrees p
  have gained := gainSteering_steeringOf (s := s.placeStation (s.newStation a (.branching b) g)) reaches absent
  rw [eq, State.sc, (only_settle u).survey_eq, ← State.sc, SurveyController.steeringOf, steering]
  exact gained

/-! ### An ENLIST that no check refuses -/

theorem enlistChecks_none {s : State} {a : EnlistArgs} (law : s.geometryLaw = true)
    (none : NoneApplies (s.enlistChecks a)) :
    ∃ kind g, readEnlist a = some (kind, g) ∧ s.enlistRefusal a kind g = .none := by
  obtain ⟨kind, g, read⟩ := enlistFieldsFit_iff.mp (Classical.not_not.mp (none _ (.head _)))
  refine ⟨kind, g, read, ?_⟩
  have segment := readSegment_some.mp (readEnlist_some read).2.2.2.2.2.1
  have new := none _ (.tail _ (.head _))
  have place := none _ (.tail _ (.tail _ (.head _)))
  have beyond := none _ (.tail _ (.tail _ (.tail _ (.head _))))
  have apart := none _ (.tail _ (.tail _ (.tail _ (.tail _ (.head _)))))
  have free := mt enlist_duplicate.mp new
  simp only [Bool.or_eq_true, not_or, Bool.not_eq_true, Option.isSome_eq_false_iff, Option.isNone_iff_eq_none] at free
  refine enlistRefusal_none.mpr ⟨free.1, free.2, ?_, ?_, ?_⟩
  · exact Bool.eq_false_iff.mpr (mt (enlistState_iff read).mp place)
  · by_contra close
    obtain ⟨u, member, b, kind, branch, close⟩ := (clearsUnit_fails law).mp close
    exact beyond ⟨u, member, b, kind, by rw [segment, branch]; rfl, close⟩
  · refine Bool.eq_false_iff.mpr fun overlaps => ?_
    obtain ⟨r, member, inSegment, -, overlap⟩ := overlapsIn_iff.mp overlaps
    exact apart ⟨r, member, by rw [segment, inSegment], overlap⟩

/-- The fields of the new record that the request gives. -/
theorem newStation_named {s : State} {a : EnlistArgs} {kind : StationKind} {g : Segment}
    (read : readEnlist a = some (kind, g)) :
    (s.newStation a kind g).segment.number.val = a.segment ∧
    (a.kind = 0 → (s.newStation a kind g).kind = .repeater) ∧
    ∀ b : Branch, a.branch = some b.number.val → (s.newStation a kind g).kind = .branching b := by
  obtain ⟨-, -, -, -, kindRead, segmentRead, -⟩ := readEnlist_some read
  refine ⟨(readSegment_some.mp segmentRead).symm, fun code => ?_, fun b branch => ?_⟩
  · cases kind with
    | repeater => rfl
    | branching c =>
      obtain ⟨one, -⟩ := readKind_branching.mp kindRead
      omega
  · cases kind with
    | repeater =>
      obtain ⟨-, unnamed⟩ := readKind_repeater.mp kindRead
      rw [unnamed] at branch
      cases branch
    | branching c =>
      obtain ⟨-, named⟩ := readKind_branching.mp kindRead
      rw [named, Option.some.injEq, branch_number_inj] at branch
      exact congrArg StationKind.branching branch

/-- A pair part of the new record holds nothing. -/
theorem newStation_part {s : State} {a : EnlistArgs} {kind : StationKind} {g : Segment}
    (read : readEnlist a = some (kind, g)) {q : PairPart} (member : q ∈ (s.newStation a kind g).parts) :
    q.baseline = none ∧ q.latest = none ∧ q.step = none ∧ q.confirm = 0 ∧ q.missing = 0 ∧ q.health = .unmeasured ∧
      q.isolation = .inLine ∧ q.operator = none ∧ q.issue = 0 ∧ (a.kind = 0 → q.connection = none) ∧
      (a.kind = 1 → q.connection = some .connected) := by
  obtain ⟨-, -, -, -, kindRead, -, -⟩ := readEnlist_some read
  obtain ⟨p, -, rfl⟩ := List.mem_map.mp member
  refine ⟨rfl, rfl, rfl, rfl, rfl, rfl, rfl, rfl, rfl, fun code => ?_, fun code => ?_⟩
  · cases kind with
    | repeater => rfl
    | branching b =>
      obtain ⟨one, -⟩ := readKind_branching.mp kindRead
      omega
  · cases kind with
    | repeater =>
      obtain ⟨zero, -⟩ := readKind_repeater.mp kindRead
      omega
    | branching b => rfl

/-- Settles O18: the record is placed, and the work that follows leaves the table. -/
theorem enlistPlacesRecord : Obligations.EnlistPlacesRecord := by
  intro a s idle law none
  obtain ⟨kind, g, read, legal⟩ := enlistChecks_none law none
  have table := enlist_table s a kind g
  have only := only_enlist s a kind g
  have geometry := geometryLaw_iff.mpr ((geometryLaw_iff.mp law).place read legal)
  obtain ⟨segment, repeater, branching⟩ := newStation_named (s := s) read
  refine ⟨s.enlist a kind g, s.newStation a kind g, answers_of_eq rfl idle ?_, fun q => ?_,
    ⟨rfl, segment, rfl, rfl, rfl, repeater, branching⟩, ⟨rfl, rfl, rfl, rfl, rfl, rfl, rfl, rfl, rfl⟩,
    newStation_partPairs s a kind g, fun q member => newStation_part read member, ⟨?_, ?_, fun h other => ⟨?_, ?_⟩⟩,
    fun b unit p reaches absent => ?_, only.line_eq, only.settings_eq, only.strays_eq, only.draws_eq⟩
  · simp only [performEnlist, read, legal]
    rfl
  · rw [table, mem_placeStation]
  · rw [generation_of_table table, placeStation_generation, if_pos rfl]
  · rw [indexLaw_of_table table]
    exact (geometry_parts geometry).2.1 _
  · rw [generation_of_table table, placeStation_generation, if_neg other]
  · rw [index_of_table table, placeStation_index, if_neg other]
  · obtain rfl : kind = .branching b := unit
    exact enlist_steeringOf reaches absent

end Sys2Proof.Machine
end

section
/-! PROOFS. AMEND: its checks in the words of the rule, and the record it writes: O19, O20. -/

namespace Sys2Proof.Machine

/-! ### The checks -/

theorem readMode_fails (n : Nat) : ¬(readMode n).isSome = true ↔ 2 < n := by
  unfold readMode
  split <;> simp_all
  omega

/-- The pair of a number reaches the station exactly when a part is on it. -/
theorem reachedBy_iff {r : Station} {p : Pair} : r.reachedBy p = true ↔ ∃ q ∈ r.parts, q.pair = p := by
  simp [Station.reachedBy, Station.part?]

theorem baselineOk_fails {r : Station} {e : Nat × Int} :
    ¬r.baselineOk e = true ↔ e.2 < -800 ∨ 0 < e.2 ∨ ∀ q ∈ r.parts, q.pair.val ≠ e.1 := by
  have gain : ¬gainOk e.2 = true ↔ e.2 < -800 ∨ 0 < e.2 := inRangeInt_fails e.2
  unfold Station.baselineOk
  rw [Bool.and_eq_true, not_and_or, gain, or_assoc]
  refine or_congr_right (or_congr_right ?_)
  unfold readPair
  split
  next p read =>
    split at read
    next small =>
      cases read
      simp only [reachedBy_iff, not_exists, not_and, Fin.ext_iff, ne_eq]
    next => cases read
  next read =>
    split at read
    next => cases read
    next large =>
      refine iff_of_true (by simp) fun q _ same => large (same ▸ q.pair.isLt)

/-- AMEND's ranges (R16, check 2). -/
theorem amendRanges_fails {r : Station} {a : AmendArgs} : ¬r.amendRanges a = true ↔
    ((∃ x, a.address = some x ∧ (x < 1 ∨ 4095 < x)) ∨ (∃ x, a.delay = some x ∧ (x < 10 ∨ 150000 < x)) ∨
      (∃ x, a.window = some x ∧ (x < 2 ∨ 50 < x)) ∨ (∃ x, a.mode = some x ∧ 2 < x) ∨ 8 < a.baselines.length ∨
      (∃ e ∈ a.baselines, e.2 < -800 ∨ 0 < e.2 ∨ ∀ q ∈ r.parts, q.pair.val ≠ e.1)) := by
  have address := optOk_fails (f := addressOk) inRange_fails (o := a.address)
  have delay := optOk_fails (f := delayOk) inRange_fails (o := a.delay)
  have window := optOk_fails (f := windowOk) inRange_fails (o := a.window)
  have mode := optOk_fails readMode_fails (o := a.mode)
  have few : ¬a.baselines.length ≤ 8 ↔ 8 < a.baselines.length := Nat.not_le
  have entries : ¬a.baselines.all r.baselineOk = true ↔
      ∃ e ∈ a.baselines, e.2 < -800 ∨ 0 < e.2 ∨ ∀ q ∈ r.parts, q.pair.val ≠ e.1 := by
    simp only [← baselineOk_fails, List.all_eq_true, not_forall, exists_prop]
  simp only [Station.amendRanges, Bool.and_eq_true, not_and_or, or_assoc, address, delay, window, mode,
    decide_eq_true_eq, few, entries]
  rfl

theorem amendsPlace_iff {a : AmendArgs} : amendsPlace a = true ↔ a.delay ≠ none ∨ a.window ≠ none := by
  simp [amendsPlace, Option.isSome_iff_ne_none]

theorem amendsKeys_iff {a : AmendArgs} :
    amendsKeys a = true ↔ a.address ≠ none ∨ a.delay ≠ none ∨ a.window ≠ none := by
  simp [amendsKeys, Option.isSome_iff_ne_none, or_assoc]

/-- Work in flight on a station whose key or place the request names (R16, check 3). -/
theorem amendBusy_iff {s : State} {r : Station} {a : AmendArgs} :
    (amendsKeys a && (s.hasOutstanding r.number || s.hasCase r.number (·.inService))) = true ↔
      (a.address ≠ none ∨ a.delay ≠ none ∨ a.window ≠ none) ∧ (s.outstandingTo r.number ∨ s.caseInService r.number) := by
  simp only [Bool.and_eq_true, Bool.or_eq_true, amendsKeys_iff, hasOutstanding_iff, hasCase_iff, Case.inService_iff,
    State.caseInService]

theorem addressTaken_iff {s : State} {n : Nat} {o : Option Nat} : s.addressTaken n o = true ↔
    ∃ x, o = some x ∧ ∃ q ∈ s.table.stations, q.address = x ∧ q.number ≠ n := by
  cases o with
  | none => simp [State.addressTaken]
  | some x =>
    simp only [State.addressTaken, List.any_eq_true, Bool.and_eq_true, beq_iff_eq, bne_iff_ne, Option.some.injEq,
      exists_eq_left']

/-- The new place breaks the second half of R6 (R16, check 5). -/
theorem amendClears_fails {s : State} (law : s.geometryLaw = true) {r : Station} {d w : Nat} :
    ¬s.amendClears r d w = true ↔
      ((∃ b, r.segment = .branch b ∧ ∃ u ∈ s.table.stations, u.kind = .branching b ∧ d ≤ u.delay + (u.window + w)) ∨
        (∃ b, r.kind = .branching b ∧ ∃ q ∈ s.table.stations, q.segment = .branch b ∧
          q.delay ≤ d + (w + q.window))) := by
  rw [State.amendClears, Bool.and_eq_true, not_and_or, clearsUnit_fails law]
  refine or_congr ⟨?_, ?_⟩ ?_
  · rintro ⟨u, member, b, kind, segment, close⟩
    exact ⟨b, segment, u, member, kind, close⟩
  · rintro ⟨b, segment, u, member, kind, close⟩
    exact ⟨u, member, b, kind, segment, close⟩
  · cases kind : r.kind with
    | repeater => simp
    | branching b =>
      simp only [List.all_eq_true, mem_segmentStations law, clears, decide_eq_true_eq, not_forall, Nat.not_lt,
        StationKind.branching.injEq, exists_eq_left']
      simp only [exists_prop, and_assoc]

theorem performAmend_absent {s : State} {a : AmendArgs} (absent : ∀ r ∈ s.table.stations, r.number ≠ a.station) :
    performAmend a s = s.refuse .notFound := by
  rw [performAmend, station?_none.mpr absent]

theorem performAmend_refused {s : State} {a : AmendArgs} {st : Status} (keys : s.keyLaw = true) {r : Station}
    (member : r ∈ s.table.stations) (named : r.number = a.station) (refusal : s.amendRefusal r a = some st) :
    performAmend a s = s.refuse st := by
  simp only [performAmend, ← named, station?_of_mem keys member, refusal]

theorem performAmend_accepted {s : State} {a : AmendArgs} (keys : s.keyLaw = true) {r : Station}
    (member : r ∈ s.table.stations) (named : r.number = a.station) (legal : s.amendRefusal r a = none) :
    performAmend a s = (s.amend r a).ok .empty := by
  simp only [performAmend, ← named, station?_of_mem keys member, legal]

/-- AMEND's fifth check. -/
theorem amendClose_iff {s : State} (law : s.geometryLaw = true) {r : Station} {a : AmendArgs} {d w : Nat} :
    (amendsPlace a && !s.amendClears r d w) = true ↔ (a.delay ≠ none ∨ a.window ≠ none) ∧
      ((∃ b, r.segment = .branch b ∧ ∃ u ∈ s.table.stations, u.kind = .branching b ∧ d ≤ u.delay + (u.window + w)) ∨
        (∃ b, r.kind = .branching b ∧ ∃ q ∈ s.table.stations, q.segment = .branch b ∧
          q.delay ≤ d + (w + q.window))) := by
  rw [Bool.and_eq_true, amendsPlace_iff, ← amendClears_fails law, Bool.not_eq_true', Bool.not_eq_true]

/-- AMEND's sixth check. -/
theorem amendOverlap_iff {s : State} {r : Station} {a : AmendArgs} {d w : Nat} :
    (amendsPlace a && s.overlapsIn r.segment r.number d w) = true ↔ (a.delay ≠ none ∨ a.window ≠ none) ∧
      ∃ q ∈ s.table.stations, q.segment = r.segment ∧ q.number ≠ r.number ∧ q.delay ≤ d + (q.window + w) ∧
        d ≤ q.delay + (q.window + w) := by
  rw [Bool.and_eq_true, amendsPlace_iff, overlapsIn_iff]

/-- The first refusal of AMEND that applies is the model's. -/
theorem amendRefusal_first {s : State} {r : Station} {a : AmendArgs} {st : Status} (law : s.geometryLaw = true)
    (first : FirstApplies (s.amendChecks r a) st) : s.amendRefusal r a = some st := by
  unfold State.amendRefusal
  dsimp only
  obtain ⟨outside, rfl⟩ | ⟨inside, rest⟩ := first
  · rw [if_pos (by simpa using amendRanges_fails.mpr outside)]
  rw [if_neg (by simpa using mt amendRanges_fails.mp inside)]
  obtain ⟨busy, rfl⟩ | ⟨free, rest⟩ := rest
  · rw [if_pos (amendBusy_iff.mpr busy)]
  rw [if_neg (mt amendBusy_iff.mp free)]
  obtain ⟨taken, rfl⟩ | ⟨new, rest⟩ := rest
  · rw [if_pos (addressTaken_iff.mpr taken)]
  rw [if_neg (mt addressTaken_iff.mp new)]
  obtain ⟨close, rfl⟩ | ⟨clear, rest⟩ := rest
  · rw [if_pos ((amendClose_iff law).mpr close)]
  rw [if_neg (mt (amendClose_iff law).mp clear)]
  obtain ⟨overlap, rfl⟩ | ⟨-, ⟨⟩⟩ := rest
  rw [if_pos (amendOverlap_iff.mpr overlap)]

/-- Settles O19: each check of the rule is the model's test. -/
theorem amendRefusals : Obligations.AmendRefusals := by
  refine fun a s idle law => ⟨fun absent => refuses_of_eq rfl idle (performAmend_absent absent),
    fun r member named st first => refuses_of_eq rfl idle ?_⟩
  exact performAmend_refused (geometry_parts law).1 member named (amendRefusal_first law first)

/-! ### The record -/

/-- A pair part with a new baseline: the confirm count 0, the health as the fields stand (R19). -/
def PairPart.based (suspect : Bool) (g : Int) (q : PairPart) : PairPart :=
  { q with baseline := some g, confirm := 0,
           health := if suspect then .suspect else if q.latest.isNone then .unmeasured else .normal }

/-- A pair part after a list of baseline entries: the last entry of its pair stands. -/
def State.baselined (s : State) (n : Nat) (l : List (Nat × Int)) (q : PairPart) : PairPart :=
  (lastEntry q.pair.val l).elim q fun g => q.based (s.caseAt? n q.pair).isSome g

theorem based_eq (suspect : Bool) (g : Int) (q : PairPart) :
    { q with baseline := some g, confirm := 0, health := healthOf suspect { q with baseline := some g, confirm := 0 } } =
      q.based suspect g := by
  cases suspect <;> rfl

/-- One entry of the list writes one part. -/
theorem setBaseline_stations (n : Nat) (s : State) (e : Nat × Int) : (State.setBaseline n s e).table.stations =
    s.table.stations.map fun r => if r.number = n then
      { r with parts := r.parts.map fun q =>
          if q.pair.val = e.1 then q.based (s.caseAt? n q.pair).isSome e.2 else q } else r := by
  unfold State.setBaseline
  split
  next none =>
    have unread (q : PairPart) : q.pair.val ≠ e.1 := fun same => by rw [← same, readPair_val] at none; cases none
    simp [unread]
  next p read =>
    have number : e.1 = p.val := readLevel_some.mp read
    rw [number]
    have written : ((s.updatePart n p fun q => { q with baseline := some e.2, confirm := 0 }).refreshHealth n
        p).table.stations = (s.table.stations.map fun r => if r.number == n then r.updatePart p
          fun q => { q with baseline := some e.2, confirm := 0 } else r).map fun r => if r.number == n then r.updatePart p
            fun q => { q with health := healthOf (s.caseAt? n p).isSome q } else r := rfl
    rw [written, List.map_map]
    refine List.map_congr_left fun r _ => ?_
    by_cases named : r.number = n
    · simp only [Function.comp_apply, named, beq_self_eq_true, if_true, Station.updatePart, List.map_map]
      congr 1
      refine List.map_congr_left fun q _ => ?_
      by_cases onPair : q.pair = p
      · subst onPair
        simp only [Function.comp_apply, beq_self_eq_true, if_true]
        exact based_eq _ _ q
      · simp [onPair, Fin.val_inj]
    · simp [named]

theorem setBaseline_caseAt? (n : Nat) (s : State) (e : Nat × Int) : (State.setBaseline n s e).caseAt? = s.caseAt? := by
  funext m p
  rw [State.caseAt?, (only_setBaseline n s e).arbiter_eq, State.caseAt?]

/-- The list of entries writes the last of each pair. -/
theorem setBaselines_stations (n : Nat) : ∀ (l : List (Nat × Int)) (s : State),
    (l.foldl (State.setBaseline n) s).table.stations = s.table.stations.map fun r =>
      if r.number = n then { r with parts := r.parts.map (s.baselined n l) } else r
  | [], s => by
    have same : s.baselined n [] = id := rfl
    simp [same]
  | e :: l, s => by
    rw [List.foldl_cons, setBaselines_stations n l, setBaseline_stations, List.map_map]
    refine List.map_congr_left fun r _ => ?_
    by_cases named : r.number = n
    · simp only [Function.comp_apply, named, if_true, List.map_map]
      congr 1
      refine List.map_congr_left fun q _ => ?_
      simp only [Function.comp_apply, State.baselined, setBaseline_caseAt?, lastEntry_cons]
      by_cases onPair : q.pair.val = e.1
      · rw [if_pos onPair, if_pos onPair.symm]
        cases later : lastEntry q.pair.val l <;> simp [PairPart.based, later]
      · rw [if_neg onPair, if_neg fun same => onPair same.symm, Option.or_none]
    · simp [named]

/-- What an accepted AMEND leaves of the record. -/
theorem afterAmend_eq (s : State) (a : AmendArgs) (r : Station) : r.afterAmend s a =
    { r.amended a with parts := (r.amended a).parts.map (s.baselined (r.amended a).number a.baselines) } := by
  rw [Station.amended_parts, Station.amended_number]
  have parts : s.baselined r.number a.baselines = fun q => match lastEntry q.pair.val a.baselines with
      | none => q
      | some g => { q with
          baseline := some g, confirm := 0,
          health := if (s.caseAt? r.number q.pair).isSome then .suspect
            else if q.latest.isNone then .unmeasured else .normal } := by
    funext q
    rw [State.baselined]
    cases lastEntry q.pair.val a.baselines <;> rfl
  have watch : amendsWatch a = true ↔ a.mode ≠ none ∨ a.mask ≠ none ∨ a.pattern ≠ none := by
    simp [amendsWatch, Option.isSome_iff_ne_none, or_assoc]
  unfold Station.amended Station.amendWatch Station.afterAmend
  rw [parts]
  by_cases watched : amendsWatch a = true
  · simp only [watched, watch.mp watched, if_true]
    rfl
  · have none := mt watch.mpr watched
    simp only [watched, none, if_false]
    simp only [not_or, ne_eq, Classical.not_not] at none
    obtain ⟨mode, mask, pattern⟩ := none
    rw [mode, mask, pattern]
    rfl

theorem amend_stations (s : State) (r : Station) (a : AmendArgs) : (s.amend r a).table.stations =
    s.table.stations.map fun q => if q.number = r.number then q.afterAmend s a else q := by
  have only : Only [.table] s (s.amendPlace r a) := by
    unfold State.amendPlace
    exact (only_updateStation s _ _).trans
      (Only.ite ((only_setIndex _ _ _).trans (only_bumpGeneration _ _)) (Only.refl _ _))
  have cases : (s.amendPlace r a).baselined = s.baselined := by
    funext n l q
    rw [State.baselined, State.caseAt?, only.arbiter_eq, State.baselined, State.caseAt?]
  have written : s.amend r a = a.baselines.foldl (State.setBaseline r.number) (s.amendPlace r a) := rfl
  rw [written, setBaselines_stations, amendPlace_stations, List.map_map, cases]
  refine List.map_congr_left fun q _ => ?_
  by_cases named : q.number = r.number
  · have after := afterAmend_eq s a q
    rw [Station.amended_number, named] at after
    simp only [Function.comp_apply, named, beq_self_eq_true, if_true, Station.amended_number, after]
  · simp [named]

/-! ### The Delay Index -/

/-- New baselines leave the Delay Indexes and the generations. -/
theorem setBaselines_places (n : Nat) : ∀ (l : List (Nat × Int)) (s : State),
    (l.foldl (State.setBaseline n) s).table.index = s.table.index ∧
      (l.foldl (State.setBaseline n) s).table.generation = s.table.generation
  | [], _ => ⟨rfl, rfl⟩
  | e :: l, s => by
    have one : (State.setBaseline n s e).table.index = s.table.index ∧
        (State.setBaseline n s e).table.generation = s.table.generation := by
      unfold State.setBaseline
      split <;> exact ⟨rfl, rfl⟩
    obtain ⟨index, generation⟩ := setBaselines_places n l (State.setBaseline n s e)
    exact ⟨index.trans one.1, generation.trans one.2⟩

theorem amend_index (s : State) (r : Station) (a : AmendArgs) (g : Segment) :
    (s.amend r a).index g = (s.amendPlace r a).index g := by
  have written : s.amend r a = a.baselines.foldl (State.setBaseline r.number) (s.amendPlace r a) := rfl
  rw [State.index, written, (setBaselines_places _ _ _).1, State.index]

theorem amend_generation (s : State) (r : Station) (a : AmendArgs) (g : Segment) : (s.amend r a).generation g =
    if amendsPlace a = true ∧ g = r.segment then (s.generation g + 1) % 65536 else s.generation g := by
  have written : s.amend r a = a.baselines.foldl (State.setBaseline r.number) (s.amendPlace r a) := rfl
  rw [State.generation, written, (setBaselines_places _ _ _).2, ← State.generation, State.amendPlace]
  by_cases place : amendsPlace a = true
  · simp only [place, if_true, true_and, State.amendIndex, generation_bumpGeneration]
    by_cases e : g = r.segment
    · rw [if_pos e, if_pos e, e]
      rfl
    · rw [if_neg e, if_neg e]
      rfl
  · rw [if_neg place, if_neg fun h => place h.1]
    rfl

theorem amendPlace_index (s : State) (r : Station) (a : AmendArgs) {g : Segment}
    (still : g ≠ r.segment ∨ amendsPlace a = false) : (s.amendPlace r a).index g = s.index g := by
  unfold State.amendPlace
  by_cases place : amendsPlace a = true
  · have other := still.resolve_right (by simp [place])
    simp only [place, if_true, amendIndex_index, if_neg other]
    rfl
  · rw [if_neg place]
    rfl

theorem amendChecks_none {s : State} {r : Station} {a : AmendArgs} (law : s.geometryLaw = true)
    (none : NoneApplies (s.amendChecks r a)) : s.amendRefusal r a = .none := by
  have inside := none _ (.head _)
  have free := none _ (.tail _ (.head _))
  have new := none _ (.tail _ (.tail _ (.head _)))
  have clear := none _ (.tail _ (.tail _ (.tail _ (.head _))))
  have apart := none _ (.tail _ (.tail _ (.tail _ (.tail _ (.head _)))))
  refine amendRefusal_none.mpr ⟨?_, Bool.eq_false_iff.mpr (mt amendBusy_iff.mp free),
    Bool.eq_false_iff.mpr (mt addressTaken_iff.mp new), fun place => ⟨?_, ?_⟩⟩
  · by_contra outside
    exact inside (amendRanges_fails.mp outside)
  · by_contra close
    exact clear ⟨amendsPlace_iff.mp place, (amendClears_fails law).mp close⟩
  · exact Bool.eq_false_iff.mpr fun overlap => apart ⟨amendsPlace_iff.mp place, overlapsIn_iff.mp overlap⟩

/-- Settles O20: the record is written with its place, then the baselines pair by pair. -/
theorem amendWritesRecord : Obligations.AmendWritesRecord := by
  intro a r s idle law member named none
  have legal := amendChecks_none law none
  have found := station?_of_mem (geometry_parts law).1 member
  have geometry : (s.amend r a).geometryLaw = true :=
    geometryLaw_iff.mpr
    ((moves_amend found legal).keeps (I := State.Geometry) Move.geometry (geometryLaw_iff.mp law))
  refine ⟨s.amend r a, answers_of_eq rfl idle ?_, only_amend s r a, amend_stations s r a, fun g other => ⟨?_, ?_⟩,
    fun place => ⟨?_, (geometry_parts geometry).2.1 _⟩, fun delay window => ⟨?_, ?_⟩⟩
  · exact performAmend_accepted (geometry_parts law).1 member named legal
  · rw [amend_generation, if_neg fun h => other h.2]
  · rw [amend_index, amendPlace_index s r a (.inl other)]
  · rw [amend_generation, if_pos ⟨amendsPlace_iff.mpr place, rfl⟩]
  · rw [amend_generation, if_neg]
    simp [amendsPlace, delay, window]
  · rw [amend_index, amendPlace_index s r a (.inr (by simp [amendsPlace, delay, window]))]

end Sys2Proof.Machine
end

section
/-! PROOFS. REBASE and SHIFT: O23, O24, O25. -/

namespace Sys2Proof.Machine

/-! ### REBASE -/

theorem readScope_none {p : Nat} : readScope p = none ↔ p ≠ 255 ∧ 7 < p := by
  unfold readScope
  split
  next all => simp [all]
  next one =>
    unfold readPair
    split
    next h =>
      split at h <;> simp_all
      omega
    next h =>
      split at h <;> simp_all
      omega

theorem readScope_all {p : Nat} : readScope p = some .all ↔ p = 255 := by
  unfold readScope
  split
  next all => simp [all]
  next one => split <;> simp_all

theorem readScope_one {p : Nat} {q : Pair} : readScope p = some (.one q) ↔ p = q.val := by
  have small := q.isLt
  unfold readScope
  split
  next all =>
    simp only [Option.some.injEq, reduceCtorEq, false_iff]
    omega
  next one =>
    rw [← readLevel_some]
    unfold readLevel
    split <;> simp_all

theorem readStations_none {n : Nat} : readStations n = none ↔ n ≠ 65535 ∧ 255 < n := by
  unfold readStations
  by_cases all : n = 65535
  · simp [all]
  · by_cases one : n ≤ 255
    · simp [all, stationOk_iff.mpr one, one]
    · have bad : ¬stationOk n = true := mt stationOk_iff.mp one
      simp [all, bad]
      omega

theorem readStations_some {n : Nat} {st : Option Nat} (read : readStations n = some st) :
    n = 65535 ∧ st = none ∨ n ≠ 65535 ∧ n ≤ 255 ∧ st = some n := by
  unfold readStations at read
  split at read
  next all =>
    cases read
    exact .inl ⟨all, rfl⟩
  next one =>
    split at read
    next ok =>
      cases read
      exact .inr ⟨one, stationOk_iff.mp ok, rfl⟩
    next => cases read

theorem part?_isSome {s : State} (keys : s.keyLaw = true) {n : Nat} {p : Pair} : (s.part? n p).isSome = true ↔
    ∃ r ∈ s.table.stations, r.number = n ∧ ∃ q ∈ r.parts, q.pair = p := by
  unfold State.part?
  cases found : s.station? n with
  | none =>
    have absent := station?_none.mp found
    simp only [Option.isSome_none, Bool.false_eq_true, false_iff]
    rintro ⟨r, member, named, -⟩
    exact absent r member named
  | some r =>
    obtain ⟨member, rfl⟩ := station?_some found
    change r.reachedBy p = true ↔ _
    rw [reachedBy_iff]
    constructor
    · exact fun part => ⟨r, member, rfl, part⟩
    · rintro ⟨x, member', same, part⟩
      rwa [eq_of_number_eq keys member' member same] at part

/-- A single station that is not enlisted. -/
theorem rebaseFinds_all {s : State} {n : Nat} {st : Option Nat} (read : readStations n = some st) :
    ¬s.rebaseFinds st .all = true ↔ n ≠ 65535 ∧ ∀ r ∈ s.table.stations, r.number ≠ n := by
  obtain ⟨all, rfl⟩ | ⟨one, -, rfl⟩ := readStations_some read
  · simp [State.rebaseFinds, all]
  · simp only [State.rebaseFinds, Bool.not_eq_true, Option.isSome_eq_false_iff, Option.isNone_iff_eq_none,
      station?_none, ne_eq, one, not_false_eq_true, true_and]

/-- A single pair that does not reach a single station. -/
theorem rebaseFinds_fails {s : State} (keys : s.keyLaw = true) {n p : Nat} {st : Option Nat} {scope : ClaimPair}
    (read : readStations n = some st) (pairRead : readScope p = some scope)
    (enlisted : ¬(n ≠ 65535 ∧ ∀ r ∈ s.table.stations, r.number ≠ n)) : ¬s.rebaseFinds st scope = true ↔
      n ≠ 65535 ∧ p ≠ 255 ∧ ∀ r ∈ s.table.stations, r.number = n → ∀ q ∈ r.parts, q.pair.val ≠ p := by
  cases scope with
  | all =>
    rw [rebaseFinds_all read]
    exact iff_of_false enlisted fun h => h.2.1 (readScope_all.mp pairRead)
  | one q =>
    have named := readScope_one.mp pairRead
    have single : p ≠ 255 := by have := q.isLt; omega
    obtain ⟨all, rfl⟩ | ⟨one, -, rfl⟩ := readStations_some read
    · simp [State.rebaseFinds, all]
    · rw [State.rebaseFinds, part?_isSome keys]
      simp only [ne_eq, one, single, not_false_eq_true, true_and, not_exists, not_and]
      simp only [named, Fin.val_inj]

theorem rebases_eq {n p : Nat} {st : Option Nat} {scope : ClaimPair} (read : readStations n = some st)
    (pairRead : readScope p = some scope) (r : Station) (q : PairPart) :
    rebases st scope r q = rebaseNames n p r q := by
  have station : (st.isNone || st == some r.number) = (n == 65535 || r.number == n) := by
    obtain ⟨rfl, rfl⟩ | ⟨one, -, rfl⟩ := readStations_some read
    · rfl
    · have single : (n == 65535) = false := by simpa using one
      rw [Bool.eq_iff_iff, single]
      simp only [Option.isNone_some, Bool.false_or, beq_iff_eq, Option.some.injEq]
      exact eq_comm
  cases scope with
  | all =>
    have all : rebases st .all r q = ((st.isNone || st == some r.number) && true && q.latest.isSome) := rfl
    rw [all, rebaseNames, station, readScope_all.mp pairRead]
    rfl
  | one x =>
    obtain rfl := readScope_one.mp pairRead
    have one : rebases st (.one x) r q = ((st.isNone || st == some r.number) && q.pair == x && q.latest.isSome) := rfl
    have single : (x.val == 255) = false := by have := x.isLt; simpa using (by omega : x.val ≠ 255)
    have pair : (q.pair == x) = (q.pair.val == x.val) := by rw [Bool.eq_iff_iff, beq_iff_eq, beq_iff_eq, Fin.val_inj]
    rw [one, rebaseNames, station, single, Bool.false_or, pair]

theorem healthOf_latest {suspect : Bool} {q : PairPart} (latest : q.latest.isSome = true) :
    healthOf suspect { q with baseline := q.latest.map (·.gain), confirm := 0 } =
      if suspect = true then .suspect else .normal := by
  obtain ⟨l, some⟩ := Option.isSome_iff_exists.mp latest
  rw [some]
  cases suspect <;> rfl

/-- Settles O23: the operands are read in the order of the rule, and every part named is rebased. -/
theorem rebaseTakesLatestGains : Obligations.RebaseTakesLatestGains := by
  refine fun n p s idle keys => ⟨fun st first => refuses_of_eq rfl idle ?_, fun none => answers_of_eq rfl idle ?_⟩
  · obtain ⟨range, rfl⟩ | ⟨station, rest⟩ := first
    · rw [performRebase, readStations_none.mpr range]
      rfl
    obtain ⟨x, read⟩ := Option.ne_none_iff_exists'.mp (mt readStations_none.mp station)
    obtain ⟨absent, rfl⟩ | ⟨enlisted, rest⟩ := rest
    · have finds : s.rebaseFinds x .all = false := by simpa using (rebaseFinds_all read).mpr absent
      simp only [performRebase, read, finds]
      rfl
    have finds : s.rebaseFinds x .all = true := Classical.not_not.mp (mt (rebaseFinds_all read).mp enlisted)
    obtain ⟨range, rfl⟩ | ⟨pair, rest⟩ := rest
    · simp only [performRebase, read, finds, readScope_none.mpr range]
      rfl
    obtain ⟨scope, pairRead⟩ := Option.ne_none_iff_exists'.mp (mt readScope_none.mp pair)
    obtain ⟨absent, rfl⟩ | ⟨-, ⟨⟩⟩ := rest
    have part : s.rebaseFinds x scope = false := by
      simpa using (rebaseFinds_fails keys read pairRead enlisted).mpr absent
    simp only [performRebase, read, finds, pairRead, part]
    rfl
  · have enlisted := none _ (.tail _ (.head _))
    obtain ⟨x, read⟩ := Option.ne_none_iff_exists'.mp (mt readStations_none.mp (none _ (.head _)))
    obtain ⟨scope, pairRead⟩ :=
      Option.ne_none_iff_exists'.mp (mt readScope_none.mp (none _ (.tail _ (.tail _ (.head _)))))
    have finds : s.rebaseFinds x .all = true := Classical.not_not.mp (mt (rebaseFinds_all read).mp enlisted)
    have part : s.rebaseFinds x scope = true := Classical.not_not.mp (mt (rebaseFinds_fails keys read pairRead enlisted).mp
      (none _ (.tail _ (.tail _ (.tail _ (.head _))))))
    have names (r : Station) : rebases x scope r = rebaseNames n p r := funext (rebases_eq read pairRead r)
    have count : s.rebaseCount x scope =
        (s.table.stations.map fun r => (r.parts.filter (rebaseNames n p r)).length).sum := by
      rw [State.rebaseCount, List.length_flatMap]
      exact congrArg List.sum (List.map_congr_left fun r _ => by rw [names r])
    simp only [performRebase, read, finds, pairRead, part, count]
    refine congrArg (fun l => (s.setTable { s.table with stations := l }).ok _) (List.map_congr_left fun r _ => ?_)
    rw [names r]
    congr 1
    refine List.map_congr_left fun q _ => ?_
    by_cases named : rebaseNames n p r q = true
    · have latest : q.latest.isSome = true := by
        rw [rebaseNames, Bool.and_eq_true] at named
        exact named.2
      rw [if_pos named, if_pos named, State.rebasePart]
      simp only [healthOf_latest latest]
    · rw [if_neg named, if_neg named]

/-! ### The moved set -/

/-- The moved set is the model's test. -/
theorem moved_iff {s : State} (law : s.geometryLaw = true) {g : Segment} {d : Nat} {r : Station} :
    s.moved g.number.val d r ↔ s.shifts g d r = true := by
  unfold State.moved State.shifts
  cases g with
  | branch b =>
    have number : b.number.val ≠ 0 := by cases b <;> decide
    have same : r.segment.number.val = b.number.val ↔ r.segment = .branch b := segment_number_inj (k := .branch b)
    have named : (Segment.branch b).number = b.number := rfl
    simp [named, number, same]
  | trunk =>
    cases segment : r.segment with
    | trunk => simp [Segment.number]
    | branch b =>
      simp only [Segment.number, Fin.val_zero, reduceCtorEq, true_and, false_and, false_or, Segment.branch.injEq,
        exists_eq_left', ne_eq, not_true_eq_false, or_false, Option.any_eq_true, decide_eq_true_eq]
      constructor
      · rintro ⟨u, member, kind, above⟩
        exact ⟨u, unit?_of_mem law member kind, above⟩
      · rintro ⟨u, found, above⟩
        obtain ⟨member, kind⟩ := unit?_some found
        exact ⟨u, member, kind, above⟩

/-- The delay after the move is the model's. -/
theorem movesTo_iff {s : State} (law : s.geometryLaw = true) {g : Segment} {d : Nat} {x : Int} {r : Station} {e : Int} :
    s.movesTo g.number.val d x r e ↔ e = s.shiftedDelay g d x r := by
  unfold State.movesTo
  rw [moved_iff law]
  cases moved : s.shifts g d r
  · simp [shiftedDelay_still moved]
  · simp [shiftedDelay_moved moved]

/-! ### The checks of SHIFT -/

/-- A moved station leaves the delay range, or comes too close to its unit (R25, check 3). -/
theorem shiftRange_fails {s : State} (law : s.geometryLaw = true) {g : Segment} {d : Nat} {x : Int} {r : Station} :
    ¬s.shiftRange g d x r = true ↔ s.moved g.number.val d r ∧
      ((r.delay : Int) + x < 10 ∨ 150000 < (r.delay : Int) + x ∨
        ∃ b, r.segment = .branch b ∧ ∃ u ∈ s.table.stations, u.kind = .branching b ∧ ∃ e,
          s.movesTo g.number.val d x u e ∧ (r.delay : Int) + x ≤ e + ((u.window : Int) + r.window)) := by
  rw [moved_iff law]
  unfold State.shiftRange
  cases moved : s.shifts g d r
  · simp
  have limits : inRangeInt Config.minDelay Config.maxDelay (r.delay + x) = true ↔
      10 ≤ (r.delay : Int) + x ∧ (r.delay : Int) + x ≤ 150000 := inRangeInt_iff
  simp only [Bool.not_true, Bool.false_or, true_and, Bool.and_eq_true, shiftedDelay_moved moved, limits, movesTo_iff law,
    exists_eq_left]
  cases segment : r.segment with
  | trunk =>
    simp only [and_true, reduceCtorEq, false_and, exists_false, or_false]
    omega
  | branch b =>
    simp only [Segment.branch.injEq, exists_eq_left']
    cases found : s.unit? b with
    | none =>
      have none := unit?_none.mp found
      have empty : ¬∃ u ∈ s.table.stations, u.kind = .branching b ∧
          (r.delay : Int) + x ≤ s.shiftedDelay g d x u + ((u.window : Int) + r.window) :=
        fun ⟨u, member, kind, _⟩ => none u member kind
      simp only [empty, or_false, and_true]
      omega
    | some u =>
      obtain ⟨member, kind⟩ := unit?_some found
      have unique : (∃ v ∈ s.table.stations, v.kind = .branching b ∧
          (r.delay : Int) + x ≤ s.shiftedDelay g d x v + ((v.window : Int) + r.window)) ↔
          (r.delay : Int) + x ≤ s.shiftedDelay g d x u + ((u.window : Int) + r.window) := by
        refine ⟨?_, fun close => ⟨u, member, kind, close⟩⟩
        rintro ⟨v, member', kind', close⟩
        rw [unit?_of_mem law member' kind', Option.some.injEq] at found
        exact found ▸ close
      simp only [unique, decide_eq_true_eq]
      omega

/-- Two stations fall out after the move (R25, check 4). -/
theorem shiftClash_moved {s : State} (law : s.geometryLaw = true) {g : Segment} {d : Nat} {x : Int} {r q : Station} :
    s.shiftClash g d x r q = true ↔ r.segment = q.segment ∧ r.number ≠ q.number ∧
      ∃ e f, s.movesTo g.number.val d x r e ∧ s.movesTo g.number.val d x q f ∧
        ((e ≤ f + ((r.window : Int) + q.window) ∧ f ≤ e + ((r.window : Int) + q.window)) ∨
          (s.moved g.number.val d r ∧ ¬s.moved g.number.val d q ∧ ¬(r.delay < q.delay ↔ e < f))) := by
  simp only [shiftClash_iff, movesTo_iff law, moved_iff law, exists_and_left, exists_eq_left, Bool.not_eq_true]
  have close : (s.shiftedDelay g d x r - s.shiftedDelay g d x q).natAbs ≤ r.window + q.window ↔
      s.shiftedDelay g d x r ≤ s.shiftedDelay g d x q + ((r.window : Int) + q.window) ∧
        s.shiftedDelay g d x q ≤ s.shiftedDelay g d x r + ((r.window : Int) + q.window) := by omega
  rw [close]

/-- The segment is a branch without a unit (R25, check 2). -/
def State.unitless (s : State) : Segment → Bool
  | .trunk => false
  | .branch b => (s.unit? b).isNone

theorem unitless_iff {s : State} {g : Segment} : s.unitless g = true ↔
    g.number.val ≠ 0 ∧ ∀ u ∈ s.table.stations, ∀ b, u.kind = .branching b → b.number.val ≠ g.number.val := by
  cases g with
  | trunk => simp [State.unitless, Segment.number]
  | branch c =>
    have number : c.number.val ≠ 0 := by cases c <;> decide
    simp only [State.unitless, Option.isNone_iff_eq_none, unit?_none, Segment.number, ne_eq, number,
      not_false_eq_true, true_and, branch_number_inj]
    exact forall₂_congr fun u _ => ⟨fun h b kind e => h (e ▸ kind), fun h kind => h c kind rfl⟩

theorem shiftRefusal_eq (s : State) (g : Segment) (d : Nat) (x : Int) : s.shiftRefusal g d x =
    if s.unitless g then some .state
    else if !(s.table.stations.all (s.shiftRange g d x)) then some .range
    else if s.table.stations.any fun r => s.table.stations.any (s.shiftClash g d x r) then some .overlap
    else none := by
  cases g <;> rfl

theorem shiftRanges_fail {s : State} (law : s.geometryLaw = true) {g : Segment} {d : Nat} {x : Int} :
    (!(s.table.stations.all (s.shiftRange g d x))) = true ↔ ∃ r ∈ s.table.stations, s.moved g.number.val d r ∧
      ((r.delay : Int) + x < 10 ∨ 150000 < (r.delay : Int) + x ∨
        ∃ b, r.segment = .branch b ∧ ∃ u ∈ s.table.stations, u.kind = .branching b ∧ ∃ e,
          s.movesTo g.number.val d x u e ∧ (r.delay : Int) + x ≤ e + ((u.window : Int) + r.window)) := by
  simp only [← shiftRange_fails law, Bool.not_eq_true', List.all_eq_false]

theorem shiftClashes_iff {s : State} (law : s.geometryLaw = true) {g : Segment} {d : Nat} {x : Int} :
    (s.table.stations.any fun r => s.table.stations.any (s.shiftClash g d x r)) = true ↔
      ∃ r ∈ s.table.stations, ∃ q ∈ s.table.stations, r.segment = q.segment ∧ r.number ≠ q.number ∧
        ∃ e f, s.movesTo g.number.val d x r e ∧ s.movesTo g.number.val d x q f ∧
          ((e ≤ f + ((r.window : Int) + q.window) ∧ f ≤ e + ((r.window : Int) + q.window)) ∨
            (s.moved g.number.val d r ∧ ¬s.moved g.number.val d q ∧ ¬(r.delay < q.delay ↔ e < f))) := by
  simp only [List.any_eq_true, shiftClash_moved law]

theorem performShift_outside {s : State} {g d : Nat} {x : Int}
    (outside : 3 < g ∨ d < 10 ∨ 150000 < d ∨ x < -5000 ∨ 5000 < x) : performShift g d x s = s.refuse .range := by
  unfold performShift
  split
  next => rfl
  next seg read =>
    obtain rfl := readSegment_some.mp read
    have segment := seg.number.isLt
    rw [if_neg]
    rw [Bool.and_eq_true, delayOk_iff, inRangeInt_iff]
    omega

theorem performShift_inside {s : State} {g d : Nat} {x : Int}
    (inside : ¬(3 < g ∨ d < 10 ∨ 150000 < d ∨ x < -5000 ∨ 5000 < x)) :
    ∃ seg : Segment, g = seg.number.val ∧ (∀ st, s.shiftRefusal seg d x = some st → performShift g d x s = s.refuse st) ∧
      (s.shiftRefusal seg d x = none → performShift g d x s = s.acceptShift seg d x) := by
  obtain ⟨seg, rfl⟩ := exists_segment_number (n := g) (by omega)
  have limits : (delayOk d && inRangeInt (-5000) 5000 x) = true := by
    rw [Bool.and_eq_true, delayOk_iff, inRangeInt_iff]
    omega
  refine ⟨seg, rfl, fun st refusal => ?_, fun legal => ?_⟩
  · simp only [performShift, readSegment_number, limits, if_true, refusal]
  · simp only [performShift, readSegment_number, limits, if_true, legal]

/-- Settles O24: each check of the rule is the model's test. -/
theorem shiftRefusals : Obligations.ShiftRefusals := by
  refine fun g d x st s idle law first => refuses_of_eq rfl idle ?_
  obtain ⟨outside, rfl⟩ | ⟨inside, rest⟩ := first
  · exact performShift_outside outside
  obtain ⟨seg, rfl, refused, -⟩ := performShift_inside (s := s) inside
  refine refused st ?_
  rw [shiftRefusal_eq]
  obtain ⟨unitless, rfl⟩ | ⟨unit, rest⟩ := rest
  · rw [if_pos (unitless_iff.mpr unitless)]
  rw [if_neg (mt unitless_iff.mp unit)]
  obtain ⟨range, rfl⟩ | ⟨ranges, rest⟩ := rest
  · rw [if_pos ((shiftRanges_fail law).mpr range)]
  rw [if_neg (mt (shiftRanges_fail law).mp ranges)]
  obtain ⟨clash, rfl⟩ | ⟨-, ⟨⟩⟩ := rest
  rw [if_pos ((shiftClashes_iff law).mpr clash)]

/-! ### The move -/

theorem bumpGenerations_generation (h : Segment) : ∀ (l : List Segment) (s : State), l.Nodup →
    (l.foldl State.bumpGeneration s).generation h = if h ∈ l then (s.generation h + 1) % 65536 else s.generation h
  | [], s, _ => rfl
  | g :: l, s, nodup => by
    obtain ⟨new, nodup⟩ := List.nodup_cons.mp nodup
    rw [List.foldl_cons, bumpGenerations_generation h l _ nodup, generation_bumpGeneration]
    by_cases e : h = g
    · subst e
      rw [if_neg new, if_pos rfl, if_pos (.head _)]
    · simp [e]

theorem shift_generation (s : State) (g : Segment) (d : Nat) (x : Int) (h : Segment) : (s.shift g d x).generation h =
    if ∃ r ∈ s.table.stations.filter (s.shifts g d), r.segment = h then (s.generation h + 1) % 65536
    else s.generation h := by
  have nodup : allSegments.Nodup := by decide
  unfold State.shift
  dsimp only
  rw [bumpGenerations_generation h _ _ (nodup.filter _)]
  have marked : h ∈ allSegments.filter (fun h => (s.table.stations.filter (s.shifts g d)).any (·.segment == h)) ↔
      ∃ r ∈ s.table.stations.filter (s.shifts g d), r.segment = h := by
    simp only [List.mem_filter, mem_allSegments, true_and, List.any_eq_true, beq_iff_eq]
  simp only [marked]
  rfl

theorem shiftChecks_none {s : State} (law : s.geometryLaw = true) {seg : Segment} {d : Nat} {x : Int}
    (none : NoneApplies (s.shiftChecks seg.number.val d x)) : s.shiftRefusal seg d x = .none := by
  have unit := none _ (.tail _ (.head _))
  have ranges := none _ (.tail _ (.tail _ (.head _)))
  have apart := none _ (.tail _ (.tail _ (.tail _ (.head _))))
  rw [shiftRefusal_eq, if_neg (mt unitless_iff.mp unit), if_neg (mt (shiftRanges_fail law).mp ranges),
    if_neg (mt (shiftClashes_iff law).mp apart)]

/-- Settles O25: the moved set is the model's filter, and the delays after the move are those of the rule. -/
theorem shiftMovesStations : Obligations.ShiftMovesStations := by
  intro g d x s idle law none
  obtain ⟨seg, rfl, -, accepted⟩ := performShift_inside (s := s) (none _ (.head _))
  have legal := shiftChecks_none law none
  replace accepted := accepted legal
  refine ⟨fun still => answers_of_eq rfl idle ?_, fun moves => ?_⟩
  · rw [accepted, State.acceptShift, if_pos (by simpa using still)]
    rfl
  · refine ⟨s.shift seg d x, s.table.stations.filter (s.shifts seg d), fun r => ?_, List.filter_sublist,
      answers_of_eq rfl idle ?_, only_shift s seg d x, shift_index s seg d x, ?_, fun h => ⟨fun moved => ?_, fun still => ?_⟩⟩
    · rw [List.mem_filter, moved_iff law]
    · rw [accepted, State.acceptShift, if_neg (by simpa using moves)]
      rfl
    · rw [shift_stations, List.forall₂_map_right_iff, List.forall₂_same]
      exact fun r member => ⟨_, rfl, (movesTo_iff law).mpr (shifted_nonneg ((shiftRefusal_none legal).1 r member))⟩
    · rw [shift_generation, if_pos moved]
    · rw [shift_generation, if_neg fun ⟨r, member, segment⟩ => still r member segment]

end Sys2Proof.Machine
end

section
/-! PROOFS. What the close of an event and the part's own work leave: the telegrams that a controller bears, and the
cases out of service; what an accepted RETIRE leaves: O22. -/

namespace Sys2Proof.Machine

/-! ### The close of an event -/

/-- What filling, sending, the cursors and the sweep keep, the close of an event keeps. -/
theorem pump_keeps {I : State → Prop} (fill : ∀ s p, I s → I (s.fillPair p)) (send : ∀ s p, I s → I (s.sendHead p))
    (advance : ∀ s p, I s → I (s.advanceCursor p)) {s : State} (p : Pair) (h : I s) : I (s.pump p) :=
  advance _ _ (fill _ _ (send _ _ (advance _ _ (fill _ _ (send _ _ (fill _ _ h))))))

theorem pumpAll_keeps {I : State → Prop} (fill : ∀ s p, I s → I (s.fillPair p))
    (send : ∀ s p, I s → I (s.sendHead p)) (advance : ∀ s p, I s → I (s.advanceCursor p)) {s : State} (h : I s) :
    I s.pumpAll := by
  have pumps : ∀ (l : List Pair) (s : State), I s → I (l.foldl State.pump s) := by
    intro l
    induction l with
    | nil => exact fun _ h => h
    | cons p l ih => exact fun s h => ih _ (pump_keeps fill send advance p h)
  exact pumps _ s h

theorem settle_keeps {I : State → Prop} (fill : ∀ s p, I s → I (s.fillPair p)) (send : ∀ s p, I s → I (s.sendHead p))
    (advance : ∀ s p, I s → I (s.advanceCursor p)) (sweeper : ∀ s v, I s → I (s.setSweeper v)) {s : State} (h : I s) :
    I s.settle := by
  have stop {s : State} (h : I s) : I s.stopIfOver := by
    unfold State.stopIfOver
    split
    · exact sweeper _ _ h
    · exact h
  have pumped := pumpAll_keeps fill send advance h
  unfold State.settle
  dsimp only
  split
  · exact stop (pumpAll_keeps fill send advance (sweeper _ _ (sweeper _ _ pumped)))
  · exact stop pumped

/-! ### The telegrams of a controller -/

/-- The telegram is queued, waits, or is outstanding. -/
def TelegramController.bears (c : TelegramController) (w : Telegram) : Prop :=
  c.has w ∨ ∃ o, c.outstanding = some o ∧ o.telegram = w

theorem fillQueue_mem {t : Telegram} : ∀ {w q : List Telegram},
    (t ∈ (fillQueue w q).1 ∨ t ∈ (fillQueue w q).2) ↔ t ∈ q ∨ t ∈ w
  | [], q => by simp [fillQueue]
  | u :: w, q => by
    unfold fillQueue
    split
    · rw [fillQueue_mem, mem_enqueue, List.mem_cons]
      tauto
    · rfl

theorem bears_fill {c : TelegramController} {w : Telegram} : c.fill.bears w ↔ c.bears w :=
  or_congr fillQueue_mem Iff.rfl

theorem bears_submit {c : TelegramController} {t w : Telegram} (h : (c.submit t).bears w) : w = t ∨ c.bears w := by
  unfold TelegramController.submit at h
  split at h
  · obtain (queued | waits) | out := h
    · exact (mem_enqueue.mp queued).imp_right fun q => .inl (.inl q)
    · exact .inr (.inl (.inr waits))
    · exact .inr (.inr out)
  · split at h
    · obtain (queued | waits) | out := h
      · exact (mem_enqueue.mp queued).imp_right fun q => .inl (.inl (List.mem_of_mem_filter q))
      · exact .inr (.inl (.inr waits))
      · exact .inr (.inr out)
    · obtain (queued | waits) | out := h
      · exact .inr (.inl (.inl queued))
      · exact (mem_enqueue.mp waits).imp_right fun q => .inl (.inr q)
      · exact .inr (.inr out)

theorem tc_setTc (s : State) (p : Pair) (c : TelegramController) (q : Pair) :
    (s.setTc p c).tc q = if q = p then c else s.tc q := by
  rw [State.tc, State.setTc, State.setTelegrams_telegrams, Oct.get_set]
  rfl

/-- Every telegram that sending leaves was borne before. -/
theorem bears_sendHead {s : State} {p q : Pair} {w : Telegram} (h : ((s.sendHead p).tc q).bears w) :
    (s.tc q).bears w := by
  unfold State.sendHead at h
  dsimp only at h
  split at h
  next t rest drives none queue =>
    by_cases e : q = p
    · subst e
      have inQueue {u : Telegram} (h : u ∈ rest) : u ∈ (s.tc q).queue := queue ▸ List.mem_cons_of_mem _ h
      split at h
      · unfold State.launch at h
        simp only [tc_setTc, if_true] at h
        obtain (queued | waits) | ⟨o, out, rfl⟩ := h
        · exact .inl (.inl (inQueue queued))
        · exact .inl (.inr waits)
        · cases out
          exact .inl (.inl (queue ▸ List.mem_cons_self))
      · simp only [tc_setTc, if_true] at h
        obtain (queued | waits) | out := h
        · exact .inl (.inl (inQueue queued))
        · exact .inl (.inr waits)
        · exact .inr out
    · split at h
      · unfold State.launch at h
        simpa only [tc_setTc, e, if_false] using h
      · simpa only [tc_setTc, e, if_false] using h
  next => exact h

/-- A cursor queues POLLs of enlisted stations only. -/
theorem bears_advanceCursor {s : State} {p q : Pair} {w : Telegram} (h : ((s.advanceCursor p).tc q).bears w) :
    s.enlisted w.dest ∨ (s.tc q).bears w := by
  unfold State.advanceCursor at h
  split at h
  · split at h
    next r found =>
      change ((s.setTc p _).tc q).bears w at h
      rw [tc_setTc] at h
      split at h
      next e =>
        subst e
        obtain (queued | waits) | out := h
        · obtain rfl | queued := mem_enqueue.mp queued
          · exact .inl ⟨r, List.mem_of_find?_eq_some found, rfl⟩
          · exact .inr (.inl (.inl queued))
        · exact .inr (.inl (.inr waits))
        · exact .inr (.inr out)
      next => exact .inr h
    next => exact .inr h
  · exact .inr h

/-- A station that is not enlisted is the destination of no telegram. -/
def State.unaddressed (s : State) (n : Nat) : Prop :=
  ¬s.enlisted n ∧ ∀ p w, (s.tc p).bears w → w.dest ≠ n

theorem unaddressed_of_eq {s t : State} {n : Nat} (h : s.unaddressed n) (table : t.table = s.table)
    (telegrams : t.telegrams = s.telegrams) : t.unaddressed n := by
  rw [State.unaddressed, State.enlisted, table]
  refine ⟨h.1, fun p => ?_⟩
  rw [State.tc, telegrams]
  exact h.2 p

theorem unaddressed_setTc {s : State} {n : Nat} {p : Pair} {c : TelegramController} (h : s.unaddressed n)
    (less : ∀ w, c.bears w → (s.tc p).bears w) : (s.setTc p c).unaddressed n := by
  refine ⟨h.1, fun q w => ?_⟩
  rw [tc_setTc]
  split
  next => exact fun bears => h.2 p w (less w bears)
  next => exact h.2 q w

theorem WorkMove.unaddressed {s t : State} {n : Nat} (h : WorkMove s t) (hs : s.unaddressed n) : t.unaddressed n := by
  have table := h.only.table_eq
  cases h with
  | contexts | occupy | controller | unpresent | present => exact unaddressed_of_eq hs rfl rfl
  | grant k p kind => exact unaddressed_of_eq hs table (only_grantTo s k p kind).telegrams_eq
  | submit p t notPoll enlisted =>
    unfold State.submit
    split
    · refine ⟨hs.1, fun q w => ?_⟩
      rw [tc_setTc]
      split
      · intro bears
        obtain rfl | bears := bears_submit bears
        · rintro rfl
          exact hs.1 enlisted
        · exact hs.2 _ w bears
      · exact hs.2 q w
    · exact hs
  | askAuto k m p => exact unaddressed_of_eq hs table (only_askAuto s k m p).telegrams_eq
  | leave o => exact unaddressed_of_eq hs table (only_leaveService s o).telegrams_eq

theorem WorkSteps.keeps {I : State → Prop} (step : ∀ {s t}, WorkMove s t → I s → I t) {s t : State} (h : WorkSteps s t)
    (hs : I s) : I t := by
  induction h with
  | refl => exact hs
  | tail _ move ih => exact step move ih

theorem unaddressed_settle {s : State} {n : Nat} (h : s.unaddressed n) : s.settle.unaddressed n := by
  refine settle_keeps (I := fun s => s.unaddressed n) (fun s p h => unaddressed_setTc h fun _ => bears_fill.mp)
    (fun s p h => ?_) (fun s p h => ?_) (fun s v h => unaddressed_of_eq h rfl rfl) h
  · have table := (only_sendHead s p).table_eq
    exact ⟨fun enlisted => h.1 (enlisted.of_table table.symm), fun q w bears => h.2 q w (bears_sendHead bears)⟩
  · have table := (only_advanceCursor s p).table_eq
    refine ⟨fun enlisted => h.1 (enlisted.of_table table.symm), fun q w bears => ?_⟩
    obtain enlisted | bears := bears_advanceCursor bears
    · rintro rfl
      exact h.1 enlisted
    · exact h.2 q w bears

/-! ### The cases under the part's own work -/

/-- All of a case but its state and its claim. -/
def Case.keeps (c d : Case) : Prop := d = { c with state := d.state, claim := d.claim }

theorem Case.keeps.trans {c d e : Case} (h : c.keeps d) (k : d.keeps e) : c.keeps e := by
  rw [Case.keeps] at h k ⊢
  rw [k, h]

/-- The Case List case by case, each kept but for its state and its claim. -/
def CasesKept (s t : State) : Prop := ∃ g : Case → Case, t.arbiter.cases = s.arbiter.cases.map g ∧ ∀ c : Case, c.keeps (g c)

theorem casesKept_of_eq {s t : State} (arbiter : t.arbiter.cases = s.arbiter.cases) : CasesKept s t :=
  ⟨id, by rw [arbiter, List.map_id], fun _ => rfl⟩

theorem CasesKept.trans {s t u : State} (h : CasesKept s t) (k : CasesKept t u) : CasesKept s u := by
  obtain ⟨f, cases, kept⟩ := h
  obtain ⟨g, cases', kept'⟩ := k
  exact ⟨g ∘ f, by rw [cases', cases, List.map_map], fun c => (kept c).trans (kept' (f c))⟩

theorem casesKept_updateCase {s : State} (k : Nat) {f : Case → Case} (kept : ∀ c : Case, c.keeps (f c)) :
    CasesKept s (s.updateCase k f) := by
  refine ⟨_, updateCase_cases s k f, fun c => ?_⟩
  unfold Case.on
  split
  · exact kept c
  · rfl

theorem casesKept_activateTop (s : State) : CasesKept s s.activateTop := by
  unfold State.activateTop
  split
  · exact casesKept_of_eq rfl
  · exact casesKept_updateCase _ fun _ => rfl

theorem casesKept_leaveService (s : State) (o : Outcome) : CasesKept s (s.leaveService o) := by
  unfold State.leaveService
  split
  · exact casesKept_of_eq rfl
  next c _ =>
    have held : CasesKept s ((((s.setCaseState c.number (.held o)).setContext c.level none).setArbiter
        { ((s.setCaseState c.number (.held o)).setContext c.level none).arbiter with
          stack := ((s.setCaseState c.number (.held o)).setContext c.level none).arbiter.stack.tail }).raise
            .caseHeld) :=
      casesKept_updateCase (f := fun d => { d with state := .held o }) c.number fun _ => rfl
    exact held.trans (casesKept_activateTop _)

theorem WorkMove.casesKept {s t : State} (h : WorkMove s t) : CasesKept s t := by
  cases h with
  | contexts | occupy | controller | unpresent | present => exact casesKept_of_eq rfl
  | grant k p kind => exact casesKept_of_eq (congrArg CaseArbiter.cases (only_grantTo s k p kind).arbiter_eq)
  | submit p t => exact casesKept_of_eq (congrArg CaseArbiter.cases (only_submit s p t).arbiter_eq)
  | askAuto k n p =>
    unfold State.askAuto
    split
    · exact casesKept_updateCase _ fun _ => rfl
    · exact casesKept_of_eq rfl
  | leave o => exact casesKept_leaveService s o

theorem WorkSteps.casesKept {s t : State} (h : WorkSteps s t) : CasesKept s t :=
  h.lift (fun _ => casesKept_of_eq rfl) CasesKept.trans WorkMove.casesKept

/-- The Case List and the stack are in order. -/
def State.Ordered (s : State) : Prop := ∃ l, s.Attended l

theorem ordered_iff {s : State} : s.Ordered ↔ s.caseLaw = true ∧ s.stackLaw = true := by
  constructor
  · rintro ⟨l, lawful, listed, served⟩
    exact ⟨caseLaw_iff.mpr lawful, (stackLaw_iff lawful).mpr ⟨l, listed, served⟩⟩
  · rintro ⟨cases, stack⟩
    have lawful := caseLaw_iff.mp cases
    obtain ⟨l, listed, served⟩ := (stackLaw_iff lawful).mp stack
    exact ⟨l, lawful, listed, served⟩

/-- The second state is in order when the first is, and the cases out of service stand in it as they stood. -/
def IdleCasesKept (s t : State) : Prop :=
  s.Ordered → t.Ordered ∧ ∀ c ∈ s.arbiter.cases, c.inService = false → c ∈ t.arbiter.cases

theorem IdleCasesKept.refl (s : State) : IdleCasesKept s s := fun h => ⟨h, fun _ hc _ => hc⟩

theorem IdleCasesKept.trans {s t u : State} (h : IdleCasesKept s t) (k : IdleCasesKept t u) : IdleCasesKept s u :=
  fun order =>
    have ⟨order', first⟩ := h order
    have ⟨order'', second⟩ := k order'
    ⟨order'', fun c hc idle => second c (first c hc idle) idle⟩

theorem idleCasesKept_of_eq {s t : State} (cases : t.arbiter.cases = s.arbiter.cases)
    (stack : t.arbiter.stack = s.arbiter.stack) : IdleCasesKept s t := fun ⟨l, attended⟩ =>
  ⟨⟨l, attended.of_eq cases stack⟩, fun _ hc _ => cases ▸ hc⟩

/-- A case that is changed by its number while another is in service stands. -/
theorem mem_updateCase_of_idle {s : State} (lawful : s.CasesLawful) {c d : Case} (hc : c ∈ s.arbiter.cases)
    (hd : d ∈ s.arbiter.cases) (idle : c.inService = false) (serves : d.inService = true) {t : State} (f : Case → Case)
    (cases : t.arbiter.cases = (s.updateCase d.number f).arbiter.cases) : c ∈ t.arbiter.cases := by
  rw [cases, updateCase_cases]
  refine List.mem_map.mpr ⟨c, hc, Case.on_other fun same => ?_⟩
  rw [lawful.eq_of_number hc hd same, serves] at idle
  cases idle

/-- The case on top of the stack is in service. -/
theorem State.Attended.top {s : State} {l : List Case} (h : s.Attended l) {k : Nat} {rest : List Nat}
    (top : s.arbiter.stack = k :: rest) : ∃ d ∈ s.arbiter.cases, d.number = k ∧ d.inService = true := by
  rw [h.listed.stack] at top
  cases l with
  | nil => cases top
  | cons d l =>
    cases top
    exact ⟨d, h.listed.mem d List.mem_cons_self, rfl, h.served.inService d List.mem_cons_self⟩

theorem idle_activateTop {s : State} {l : List Case} (lawful : s.CasesLawful) (listed : s.Listed l)
    {c : Case} (hc : c ∈ s.arbiter.cases) (absent : c ∉ l) : c ∈ s.activateTop.arbiter.cases := by
  unfold State.activateTop
  split
  · exact hc
  next k rest top =>
    rw [setCaseState_cases]
    refine List.mem_map.mpr ⟨c, hc, Case.on_other fun same => ?_⟩
    rw [listed.stack] at top
    cases l with
    | nil => cases top
    | cons d l =>
      cases top
      rw [lawful.eq_of_number hc (listed.mem d List.mem_cons_self) same] at absent
      exact absent List.mem_cons_self

theorem idleCasesKept_leaveService (s : State) (o : Outcome) : IdleCasesKept s (s.leaveService o) := by
  rintro ⟨l, attended⟩
  obtain ⟨m, left, -⟩ := attended_leaveService attended o
  refine ⟨⟨m, left⟩, fun c hc idle => ?_⟩
  have absent : c ∉ l := fun hl => by
    rw [attended.served.inService c hl] at idle
    cases idle
  unfold State.leaveService
  cases l with
  | nil =>
    rw [attended.topCase?_nil]
    exact hc
  | cons d rest =>
    rw [attended.topCase?]
    obtain ⟨lawful, listed⟩ := listed_leave (o := o) attended
      (t := (((s.setCaseState d.number (.held o)).setContext d.level none).setArbiter
        { (s.setCaseState d.number (.held o)).arbiter with stack := s.arbiter.stack.tail }).raise .caseHeld) rfl rfl
    refine idle_activateTop lawful listed ?_ fun hr => absent (List.mem_cons_of_mem _ hr)
    exact mem_updateCase_of_idle attended.lawful hc (attended.listed.mem d List.mem_cons_self) idle
      (attended.served.inService d List.mem_cons_self) _ rfl

theorem WorkMove.idleCasesKept {s t : State} (h : WorkMove s t) : IdleCasesKept s t := by
  cases h with
  | contexts | occupy | controller | unpresent | present => exact idleCasesKept_of_eq rfl rfl
  | grant k p kind =>
    have arbiter := (only_grantTo s k p kind).arbiter_eq
    exact idleCasesKept_of_eq (congrArg CaseArbiter.cases arbiter) (congrArg CaseArbiter.stack arbiter)
  | submit p t =>
    have arbiter := (only_submit s p t).arbiter_eq
    exact idleCasesKept_of_eq (congrArg CaseArbiter.cases arbiter) (congrArg CaseArbiter.stack arbiter)
  | askAuto k n p isTop =>
    unfold State.askAuto
    split
    next j _ =>
      rintro ⟨l, attended⟩
      obtain ⟨-, rest, top⟩ := isTop
      obtain ⟨d, hd, rfl, serves⟩ := attended.top top
      refine ⟨⟨_, attended.map_same (updateCase_cases (s.addClaim _) d.number fun c => { c with claim := some j }) rfl
        fun c _ => ?_⟩, fun c hc idle => mem_updateCase_of_idle attended.lawful hc hd idle serves _ rfl⟩
      unfold Case.on
      split <;> exact ⟨⟨rfl, rfl, rfl⟩, rfl, rfl, rfl⟩
    next => exact .refl s
  | leave o => exact idleCasesKept_leaveService s o

theorem WorkSteps.idleCasesKept {s t : State} (h : WorkSteps s t) : IdleCasesKept s t :=
  h.lift (R := IdleCasesKept) .refl .trans WorkMove.idleCasesKept

/-! ### RETIRE -/

/-- The part after an accepted RETIRE: the record and its work gone, then the pairs' own work and the telegrams it
sends. -/
theorem retire_parts (s : State) (r : Station) : ∃ u, WorkSteps (s.unlist r) u ∧ s.retire r = u.settle := by
  have onPair (u : State) (p : Pair) : WorkSteps u (s.retireOnPair r.number u p) := by
    unfold State.retireOnPair
    split
    · exact workSteps_replanned u p
    · exact .refl
  unfold State.retire
  exact ⟨_, workSteps_foldl onPair _ _, rfl⟩

theorem retire_table (s : State) (r : Station) : (s.retire r).table = (s.removeStation r).table := by
  obtain ⟨u, work, eq⟩ := retire_parts s r
  rw [eq, (only_settle u).table_eq, work.only.table_eq]
  rfl

theorem retire_arbiter (s : State) (r : Station) : CasesKept (s.unlist r) (s.retire r) ∧
    IdleCasesKept (s.unlist r) (s.retire r) := by
  obtain ⟨u, work, eq⟩ := retire_parts s r
  have arbiter := (only_settle u).arbiter_eq
  rw [eq]
  exact ⟨work.casesKept.trans (casesKept_of_eq (congrArg CaseArbiter.cases arbiter)), work.idleCasesKept.trans
    (idleCasesKept_of_eq (congrArg CaseArbiter.cases arbiter) (congrArg CaseArbiter.stack arbiter))⟩

theorem unlist_cases (s : State) (r : Station) :
    (s.unlist r).arbiter.cases = s.arbiter.cases.filter fun c => c.station != r.number := rfl

theorem mem_unlist {s : State} {r : Station} {c : Case} :
    c ∈ (s.unlist r).arbiter.cases ↔ c ∈ s.arbiter.cases ∧ c.station ≠ r.number := by
  rw [unlist_cases, List.mem_filter, bne_iff_ne]

/-- Taking a station's cases off the list keeps it in order when none of them is in service. -/
theorem ordered_unlist {s : State} {r : Station} (idle : s.retireBusy r.number = false) (h : s.Ordered) :
    (s.unlist r).Ordered := by
  obtain ⟨l, attended⟩ := h
  refine ⟨l, attended.filter (unlist_cases s r) rfl fun c hc serves => ?_⟩
  by_contra same
  have busy := retireBusy_iff.mpr (.inl ⟨c, hc, by simpa using same, Case.inService_iff.mp serves⟩)
  rw [idle] at busy
  cases busy

theorem unlist_unaddressed {s : State} {r : Station} (idle : s.retireBusy r.number = false)
    (law : s.telegramLaw = true) : (s.unlist r).unaddressed r.number := by
  have free : ¬s.retireBusy r.number = true := by simp [idle]
  rw [retireBusy_iff, not_or, not_or] at free
  obtain ⟨-, notOut, notQueued⟩ := free
  refine ⟨fun ⟨q, member, number⟩ => ?_, fun p w bears => ?_⟩
  · have kept := (List.mem_filter.mp (show q ∈ s.table.stations.filter fun q => q.number != r.number from member)).2
    simp [number] at kept
  · rw [unlist_tc] at bears
    rintro toStation
    obtain (queued | waits) | ⟨o, out, rfl⟩ := bears
    · obtain ⟨queued, kept⟩ := List.mem_filter.mp queued
      have notPoll : w.isPoll = false := by simpa [toStation] using kept
      exact notQueued ⟨p, w, .inl queued, toStation, fun poll => by simp [Telegram.isPoll, poll] at notPoll⟩
    · have notPoll := ((telegramLaw_iff.mp law p).1).noPollWaits w waits
      exact notQueued ⟨p, w, .inr waits, toStation, fun poll => by simp [Telegram.isPoll, poll] at notPoll⟩
    · exact notOut ⟨p, o, out, toStation⟩

theorem retire_unaddressed {s : State} {r : Station} (idle : s.retireBusy r.number = false)
    (law : s.telegramLaw = true) : (s.retire r).unaddressed r.number := by
  obtain ⟨u, work, eq⟩ := retire_parts s r
  rw [eq]
  exact unaddressed_settle (work.keeps (I := fun s => s.unaddressed r.number) WorkMove.unaddressed
    (unlist_unaddressed idle law))

theorem retire_steeringOf (s : State) (r : Station) (p : Pair) : ((s.retire r).sc p).steeringOf r.number = none := by
  obtain ⟨u, work, eq⟩ := retire_parts s r
  obtain ⟨-, -, -, steering, -⟩ := work.agrees p
  rw [eq, State.sc, (only_settle u).survey_eq, ← State.sc, SurveyController.steeringOf, steering, State.sc,
    unlist_survey, Oct.get_map]
  simp

theorem removeStation_generation (s : State) (r : Station) (g : Segment) : (s.removeStation r).generation g =
    if g = r.segment then (s.generation g + 1) % 65536 else s.generation g := by
  unfold State.removeStation
  dsimp only
  rw [generation_bumpGeneration]
  by_cases e : g = r.segment
  · rw [if_pos e, if_pos e, e]
    rfl
  · rw [if_neg e, if_neg e]
    rfl

/-- Settles O22: the record and its work are taken out, and the work that follows concerns other stations. -/
theorem retireRemovesRecord : Obligations.RetireRemovesRecord := by
  intro r s idle law member none
  have keys := (geometry_parts law).1
  have free : s.retireBusy r.number = false := by
    simpa using mt retireBusy_iff.mp (none _ (.head _))
  have unused : s.retireState r = false := by
    simpa using mt (retireState_iff law).mp (none _ (.tail _ (.head _)))
  have table := retire_table s r
  have only := only_retire s r
  obtain ⟨⟨g, cases, kept⟩, idleKept⟩ := retire_arbiter s r
  refine ⟨s.retire r, answers_of_eq rfl idle ?_, ?_, ?_, ?_, fun h other => ⟨?_, ?_⟩, fun c hc => ?_,
    fun c hc other => ?_, fun caseLaw stackLaw c hc other out => ?_, fun telegrams p w bears => ?_,
    retire_steeringOf s r, only.line_eq, only.settings_eq, only.strays_eq, only.draws_eq⟩
  · rw [performRetire_of_mem keys member, free, unused]
    rfl
  · rw [table, removeStation_stations]
  · rw [generation_of_table table, removeStation_generation, if_pos rfl]
  · rw [index_of_table table, removeStation_index, if_pos rfl]
  · rw [generation_of_table table, removeStation_generation, if_neg other]
  · rw [index_of_table table, removeStation_index, if_neg other]
  · rw [cases] at hc
    obtain ⟨d, hd, rfl⟩ := List.mem_map.mp hc
    rw [kept d]
    exact (mem_unlist.mp hd).2
  · refine ⟨g c, cases ▸ List.mem_map_of_mem (mem_unlist.mpr ⟨hc, other⟩), ?_⟩
    rw [kept c]
    exact ⟨rfl, rfl, rfl, rfl, rfl, rfl, rfl⟩
  · obtain ⟨-, stand⟩ := idleKept (ordered_unlist free (ordered_iff.mpr ⟨caseLaw, stackLaw⟩))
    exact stand c (mem_unlist.mpr ⟨hc, other⟩) out
  · exact (retire_unaddressed free telegrams).2 p w bears

end Sys2Proof.Machine
end

section
/-! PROOFS. ROLE's refusals, far-end drive on a pair that is not DRIVING, and the lists as CASES, CASE and CLAIMS return
them: O26, O31, O32. -/

namespace Sys2Proof.Machine

/-! ### ROLE -/

theorem readPair_none {n : Nat} : readPair n = none ↔ 7 < n := by
  unfold readPair
  split
  next small => exact iff_of_false nofun (by omega)
  next large => exact iff_of_true rfl (by omega)

theorem readPair_some {n : Nat} {p : Pair} : readPair n = some p ↔ n = p.val := by
  constructor
  · unfold readPair
    split
    · rintro ⟨⟩
      rfl
    · nofun
  · rintro rfl
    exact readPair_val p

theorem readRole_none {n : Nat} : readRole n = none ↔ 2 < n := by
  rcases n with _ | _ | _ | n
  · decide
  · decide
  · decide
  · exact iff_of_true rfl (by omega)

theorem readRole_driving {n : Nat} : readRole n = some .driving ↔ n = 1 := by
  rcases n with _ | _ | _ | n
  · decide
  · decide
  · decide
  · exact iff_of_false nofun (by omega)

theorem performRole_outside {p r : Nat} (s : State) (outside : 7 < p ∨ 2 < r) : performRole p r s = s.refuse .range := by
  unfold performRole
  obtain pair | role := outside
  · rw [readPair_none.mpr pair]
  · rw [readRole_none.mpr role]
    cases readPair p <;> rfl

theorem performRole_read {n : Nat} {p : Pair} {r : Role} (s : State) (read : readRole n = some r) :
    performRole p.val n s =
      if r == .driving && !s.equipped p then s.refuse .state
      else if r == .driving && (s.sc p).contention then s.refuse .contended
      else (s.role p r).ok .empty := by
  unfold performRole
  rw [readPair_val, read]

theorem State.role_same {s : State} {p : Pair} {r : Role} (same : (s.sc p).role = r) : s.role p r = s :=
  if_pos (by simp [same])

theorem State.role_other {s : State} {p : Pair} {r : Role} (other : (s.sc p).role ≠ r) :
    s.role p r = (s.changeRole p r).settle := if_neg (by simpa using other)

/-- Settles O26: the operands are read first, and DRIVING asks for an equipped pair out of contention. -/
theorem roleRefusals : Obligations.RoleRefusals := by
  refine fun n r s idle => ⟨fun st first => refuses_of_eq rfl idle ?_, fun none p pair inForce => answers_of_eq rfl idle ?_⟩
  · obtain ⟨range, rfl⟩ | ⟨inside, rest⟩ := first
    · exact performRole_outside s range
    obtain ⟨p, rfl⟩ : ∃ p : Pair, n = p.val := ⟨⟨n, by omega⟩, rfl⟩
    have drives : r = 1 := by
      obtain ⟨⟨one, -⟩, -⟩ | ⟨-, ⟨⟨one, -⟩, -⟩ | ⟨-, ⟨⟩⟩⟩ := rest <;> exact one
    rw [performRole_read s (readRole_driving.mpr drives)]
    obtain ⟨⟨-, q, same, unequipped⟩, rfl⟩ | ⟨equipped, rest⟩ := rest
    · obtain rfl := Fin.val_injective same
      rw [if_pos (by simp [unequipped])]
      rfl
    obtain ⟨⟨-, q, same, contended⟩, rfl⟩ | ⟨-, ⟨⟩⟩ := rest
    obtain rfl := Fin.val_injective same
    have equipped : s.equipped q = true := by
      by_contra not
      exact equipped ⟨drives, q, rfl, by simpa using not⟩
    rw [if_neg (by simp [equipped]), if_pos (by simp [contended])]
    rfl
  · subst pair
    have unequipped := none _ (.tail _ (.head _))
    have contended := none _ (.tail _ (.tail _ (.head _)))
    have notUnequipped : ¬((s.sc p).role == .driving && !s.equipped p) = true := by
      rw [Bool.and_eq_true, beq_iff_eq, Bool.not_eq_true']
      rintro ⟨driving, flag⟩
      exact unequipped ⟨readRole_driving.mp (driving ▸ inForce), p, rfl, flag⟩
    have notContended : ¬((s.sc p).role == .driving && (s.sc p).contention) = true := by
      rw [Bool.and_eq_true, beq_iff_eq]
      rintro ⟨driving, flag⟩
      exact contended ⟨readRole_driving.mp (driving ▸ inForce), p, rfl, flag⟩
    rw [performRole_read s inForce, if_neg notUnequipped, if_neg notContended, State.role_same rfl]
    rfl

/-! ### Far-end drive -/

theorem find?_recordOverheard (h : Overheard) : ∀ l : List Overheard,
    (recordOverheard h l).find? (·.station == h.station) = some h
  | [] => by simp [recordOverheard]
  | g :: rest => by
    unfold recordOverheard
    split
    · simp
    · split
      · simp
      next other =>
        rw [List.find?_cons_of_neg (by simpa using Ne.symm (by simpa using other)), find?_recordOverheard h rest]

theorem find?_recordOverheard_other (h : Overheard) {n : Nat} (other : n ≠ h.station) : ∀ l : List Overheard,
    (recordOverheard h l).find? (·.station == n) = l.find? (·.station == n)
  | [] => by simp [recordOverheard, other.symm]
  | g :: rest => by
    unfold recordOverheard
    split
    · rw [List.find?_cons_of_neg (by simpa using other.symm)]
    · split
      next same =>
        have sameStation : h.station = g.station := by simpa using same
        rw [List.find?_cons_of_neg (by simpa using other.symm),
          List.find?_cons_of_neg (by simpa [← sameStation] using other.symm)]
      next => rw [List.find?_cons, List.find?_cons, find?_recordOverheard_other h other rest]

theorem End.other_ne (e : End) : e ≠ e.other := by cases e <;> decide

theorem State.overhear_unknown {s : State} {a : Nat} (unknown : ∀ r ∈ s.table.stations, r.address ≠ a) (p : Pair)
    (g : Nat) (k : TelegramKind) : s.overhear p a g k = s := by
  unfold State.overhear
  rw [byAddress?_none.mpr unknown]

theorem State.overhear_known {s : State} (keys : s.keyLaw = true) {r : Station} (member : r ∈ s.table.stations)
    (p : Pair) (g : Nat) (k : TelegramKind) :
    s.overhear p r.address g k = s.setTc p { s.tc p with
      overheard := recordOverheard { station := r.number, kind := k, tag := g } (s.tc p).overheard } := by
  unfold State.overhear
  rw [byAddress?_of_mem keys member]

theorem State.farEndDrive_nothing {s : State} {p : Pair} {sig : FarSignal}
    (nothing : s.equipped p = false ∨ (s.sc p).role = .off ∨ s.fromFarEnd sig = false) : s.farEndDrive p sig = s := by
  unfold State.farEndDrive
  split
  next heard =>
    rw [Bool.and_eq_true] at heard
    obtain unequipped | off | near := nothing
    · rw [unequipped] at heard
      cases heard.1
    · rw [off]
    · rw [near] at heard
      cases heard.2
  next => rfl

theorem State.farEndDrive_listening {s : State} {p : Pair} {sig : FarSignal} (equipped : s.equipped p = true)
    (listening : (s.sc p).role = .listening) (far : s.fromFarEnd sig = true) : s.farEndDrive p sig = s.decode p sig := by
  unfold State.farEndDrive
  rw [equipped, far, listening]
  rfl

theorem State.fromFarEnd_probe (s : State) : s.fromFarEnd (.probe s.line.terminal.other) = true := by
  simp [State.fromFarEnd]

theorem State.fromFarEnd_telegram (s : State) (a g : Nat) (k : TelegramKind) :
    s.fromFarEnd (.telegram s.line.terminal.other a g k) = true := by
  simp [State.fromFarEnd]

/-- Settles O31: nothing is heard, or the decoded telegram takes its station's place among the overheard. -/
theorem farEndHeardWhileListening : Obligations.FarEndHeardWhileListening := by
  refine fun p s => ⟨fun sig nothing => congrArg Host.Outcome.next (State.farEndDrive_nothing ?_),
    fun equipped listening => ⟨?_, fun a g k => ⟨fun unknown => ?_, fun keys r member address => ?_⟩⟩⟩
  · refine nothing.imp_right (.imp_right ?_)
    rintro (rfl | ⟨a, g, k, rfl⟩) <;> simp [State.fromFarEnd, End.other_ne]
  · exact congrArg Host.Outcome.next (State.farEndDrive_listening equipped listening s.fromFarEnd_probe)
  · refine congrArg Host.Outcome.next ?_
    rw [State.farEndDrive_listening equipped listening (s.fromFarEnd_telegram a g k)]
    exact State.overhear_unknown unknown p g k
  · subst address
    refine ⟨_, congrArg Host.Outcome.next ?_, find?_recordOverheard { station := r.number, kind := k, tag := g } _,
      fun n other => find?_recordOverheard_other { station := r.number, kind := k, tag := g } other _⟩
    rw [State.farEndDrive_listening equipped listening (s.fromFarEnd_telegram r.address g k)]
    exact State.overhear_known keys member p g k

/-! ### The lists -/

theorem caseNumberOk_fails (n : Nat) : ¬caseNumberOk n = true ↔ n < 1 ∨ 255 < n := inRange_fails n

theorem caseNumberOk_of_mem {s : State} (law : s.caseLaw = true) {c : Case} (hc : c ∈ s.arbiter.cases) :
    caseNumberOk c.number = true := by
  have range := (caseLaw_iff.mp law).range c hc
  exact inRange_iff.mpr range

theorem State.contextOf_serving {s : State} {c : Case} (serves : c.state = .active ∨ c.state = .suspended) :
    s.contextOf c = s.context c.level := if_pos (Case.inService_iff.mpr serves)

theorem State.contextOf_idle {s : State} {c : Case} (notActive : c.state ≠ .active) (notSuspended : c.state ≠ .suspended) :
    s.contextOf c = none := if_neg (mt Case.inService_iff.mp (not_or.mpr ⟨notActive, notSuspended⟩))

/-- Settles O32: the lists are read as they stand, a case by its number. -/
theorem listsAreReturned : Obligations.ListsAreReturned := by
  refine fun s idle law => ⟨answers_of_eq rfl idle rfl, answers_of_eq rfl idle rfl,
    fun n outside => refuses_of_eq rfl idle (if_neg ((caseNumberOk_fails n).mpr outside)),
    fun n least most absent => refuses_of_eq rfl idle ?_, fun c hc => ?_⟩
  · have ok : caseNumberOk n = true := inRange_iff.mpr ⟨least, most⟩
    simp only [performReadCase, ok, if_true, case?_none.mpr absent]
    rfl
  · have read : performReadCase c.number s = s.ok (.case c (s.contextOf c)) := by
      simp only [performReadCase, caseNumberOk_of_mem law hc, if_true, case?_of_mem law hc]
    refine ⟨fun serves => answers_of_eq rfl idle ?_, fun notActive notSuspended => answers_of_eq rfl idle ?_⟩
    · rw [read, State.contextOf_serving serves]
      rfl
    · rw [read, State.contextOf_idle notActive notSuspended]
      rfl

end Sys2Proof.Machine
end

section
/-! PROOFS. TAKE and DROP: O35. -/

namespace Sys2Proof.Machine

/-! ### Scopes -/

/-- A claim meets the operands of a request exactly when it overlaps the scope that they name. -/
theorem claimMeets_iff {n p : Nat} {scope : ClaimPair} (read : readScope p = some scope) {c : Claim} :
    claimMeets n p c ↔ c.overlaps n scope = true := by
  unfold claimMeets Claim.overlaps
  rw [Bool.and_eq_true, beq_iff_eq]
  refine and_congr_right fun _ => ?_
  cases scope with
  | all =>
    have all := readScope_all.mp read
    have meets : c.pair.overlaps .all = true := by cases c.pair <;> rfl
    simp [all, meets]
  | one q =>
    obtain rfl := readScope_one.mp read
    have notAll : q.val ≠ 255 := by omega
    cases c.pair with
    | all => simp [ClaimPair.overlaps]
    | one r => simp [ClaimPair.overlaps, notAll, Fin.val_inj]

/-- A scope fails to reach a station exactly when it names one pair and the station has no part on it. -/
theorem scopeReaches_fails {p : Nat} {scope : ClaimPair} (read : readScope p = some scope) {r : Station} :
    ¬r.scopeReaches scope = true ↔ p ≠ 255 ∧ ∀ q ∈ r.parts, q.pair.val ≠ p := by
  cases scope with
  | all => simp [Station.scopeReaches, readScope_all.mp read]
  | one x =>
    obtain rfl := readScope_one.mp read
    have notAll : x.val ≠ 255 := by omega
    simp only [Station.scopeReaches, reachedBy_iff, ne_eq, notAll, not_false_eq_true, true_and, not_exists, not_and,
      Fin.val_inj]

/-! ### Claim numbers -/

/-- A full table has no free number. -/
theorem freeClaimNumber_none {s : State} (law : s.claimLaw = true) (full : 16 ≤ s.claims.length) :
    freeClaimNumber s.claims = none := by
  cases e : freeClaimNumber s.claims with
  | none => rfl
  | some k =>
    obtain ⟨sorted, below, -⟩ := claimLaw_iff.mp law
    obtain ⟨bound, free, -⟩ := freeClaimNumber_some e
    have nodup : (k :: s.claims.map (·.number)).Nodup :=
      List.nodup_cons.mpr ⟨by simpa using free, List.pairwise_map.mpr (sorted.imp Nat.ne_of_lt)⟩
    have within : ∀ x ∈ k :: s.claims.map (·.number), x ∈ List.range 16 := by
      simpa [bound] using below
    have count := (List.subperm_of_subset nodup within).length_le
    simp only [List.length_cons, List.length_map, List.length_range] at count
    omega

/-- A table that is not full has a free number. -/
theorem freeClaimNumber_isSome {l : List Claim} (room : l.length < 16) : ∃ k, freeClaimNumber l = some k := by
  refine Option.ne_none_iff_exists'.mp fun none => ?_
  have used : ∀ k ∈ List.range 16, k ∈ l.map (·.number) := by
    simpa [freeClaimNumber, Config.maxClaims] using none
  have count := (List.subperm_of_subset List.nodup_range used).length_le
  simp only [List.length_range, List.length_map] at count
  omega

/-- The claim in the way is the one of the lowest number. -/
theorem holder?_eq {s : State} (law : s.claimLaw = true) {n : Nat} {scope : ClaimPair} {c : Claim} (hc : c ∈ s.claims)
    (meets : c.overlaps n scope = true) (least : ∀ d ∈ s.claims, d.overlaps n scope = true → c.number ≤ d.number) :
    s.holder? n scope = some c := by
  obtain ⟨sorted, -, -⟩ := claimLaw_iff.mp law
  obtain ⟨before, after, split⟩ := List.append_of_mem hc
  rw [State.holder?, List.find?_eq_some_iff_append]
  refine ⟨meets, before, after, split, fun d hd => ?_⟩
  rw [split, List.pairwise_append] at sorted
  have lower := sorted.2.2 d hd c (.head _)
  have mem : d ∈ s.claims := split ▸ List.mem_append_left _ hd
  have apart : ¬d.overlaps n scope = true := fun overlap => absurd (least d mem overlap) (by omega)
  simpa using apart

/-! ### The claims under the part's own work -/

/-- The claims of the first state stand, and every other one of the second is a case's. -/
def ClaimsGrow (s t : State) : Prop :=
  (∀ c ∈ s.claims, c ∈ t.claims) ∧ ∀ c ∈ t.claims, c ∈ s.claims ∨ ∃ n, c.owner = .auto n

theorem claimsGrow_of_eq {s t : State} (claims : t.claims = s.claims) : ClaimsGrow s t :=
  ⟨fun _ hc => claims ▸ hc, fun _ hc => .inl (claims ▸ hc)⟩

theorem ClaimsGrow.trans {s t u : State} (h : ClaimsGrow s t) (k : ClaimsGrow t u) : ClaimsGrow s u :=
  ⟨fun c hc => k.1 c (h.1 c hc), fun c hc => (k.2 c hc).elim (h.2 c) .inr⟩

theorem mem_addClaim {s : State} {c d : Claim} : d ∈ (s.addClaim c).claims ↔ d = c ∨ d ∈ s.claims := by
  rw [State.addClaim, State.setClaims_claims, insertClaim_eq, List.mem_orderedInsert]

theorem WorkMove.claimsGrow {s t : State} (h : WorkMove s t) : ClaimsGrow s t := by
  cases h with
  | contexts | occupy | controller | unpresent | present => exact claimsGrow_of_eq rfl
  | grant k p kind => exact claimsGrow_of_eq (only_grantTo s k p kind).claims_eq
  | submit p t => exact claimsGrow_of_eq (only_submit s p t).claims_eq
  | askAuto k n p _ =>
    unfold State.askAuto
    split
    next j _ =>
      refine ⟨fun c hc => mem_addClaim.mpr (.inr hc), fun c hc => ?_⟩
      obtain rfl | stands := mem_addClaim.mp hc
      · exact .inr ⟨k, rfl⟩
      · exact .inl stands
    next => exact claimsGrow_of_eq rfl
  | leave o => exact claimsGrow_of_eq (only_leaveService s o).claims_eq

theorem WorkSteps.claimsGrow {s t : State} (h : WorkSteps s t) : ClaimsGrow s t :=
  h.lift (fun _ => claimsGrow_of_eq rfl) ClaimsGrow.trans WorkMove.claimsGrow

/-- The release of claims, its announcement and the close of the event. -/
theorem released_claims (s : State) (keep : Claim → Bool) :
    (∀ c ∈ s.claims, keep c = true → c ∈ (s.keepClaims keep).announce.settle.claims) ∧
    ∀ c ∈ (s.keepClaims keep).announce.settle.claims, (c ∈ s.claims ∧ keep c = true) ∨ ∃ n, c.owner = .auto n := by
  obtain ⟨stand, new⟩ := (workSteps_announce (s.keepClaims keep)).claimsGrow
  rw [(only_settle _).claims_eq]
  exact ⟨fun c hc kept => stand c (List.mem_filter.mpr ⟨hc, kept⟩), fun c hc =>
    (new c hc).imp_left List.mem_filter.mp⟩

/-! ### TAKE -/

theorem performTake_read {s : State} (keys : s.keyLaw = true) {p : Nat} {scope : ClaimPair} {r : Station}
    (read : readScope p = some scope) (member : r ∈ s.table.stations) :
    performTake r.number p s = s.takeScope r scope := by
  obtain ⟨-, below, -⟩ := keyLaw_iff.mp keys
  have ok : stationOk r.number = true := stationOk_iff.mpr (by have := below r member; omega)
  simp only [performTake, read, ok, if_true, station?_of_mem keys member]

theorem performTake_refused {s : State} (keys : s.keyLaw = true) {n p : Nat} {st : Status}
    (first : FirstApplies (s.takeChecks n p) st) : performTake n p s = s.refuse st := by
  obtain ⟨range, rfl⟩ | ⟨inside, rest⟩ := first
  · unfold performTake
    split
    next => rfl
    next scope read =>
      have pair : ¬(p ≠ 255 ∧ 7 < p) := mt readScope_none.mpr (by simp [read])
      rw [if_neg]
      rw [stationOk_iff]
      omega
  obtain ⟨scope, read⟩ := Option.ne_none_iff_exists'.mp (mt readScope_none.mp (not_or.mp inside).2)
  obtain ⟨absent, rfl⟩ | ⟨enlisted, rest⟩ := rest
  · have ok : stationOk n = true := stationOk_iff.mpr (by omega)
    simp only [performTake, read, ok, if_true, station?_none.mpr absent]
  obtain ⟨⟨one, r, member, rfl, none⟩, rfl⟩ | ⟨-, ⟨⟩⟩ := rest
  rw [performTake_read keys read member, State.takeScope, if_neg ((scopeReaches_fails read).mpr ⟨one, none⟩)]

/-- A TAKE that no check refuses comes to the Claim Table. -/
theorem performTake_accepted {s : State} (keys : s.keyLaw = true) {n p : Nat}
    (none : NoneApplies (s.takeChecks n p)) : ∃ scope r, readScope p = some scope ∧ r.number = n ∧
      r.scopeReaches scope = true ∧ performTake n p s = s.takeScope r scope := by
  obtain ⟨scope, read⟩ := Option.ne_none_iff_exists'.mp (mt readScope_none.mp (not_or.mp (none _ (.head _))).2)
  have enlisted := none _ (.tail _ (.head _))
  have reaches := none _ (.tail _ (.tail _ (.head _)))
  simp only [not_forall, not_not] at enlisted
  obtain ⟨r, member, rfl⟩ := enlisted
  refine ⟨scope, r, read, rfl, ?_, performTake_read keys read member⟩
  by_contra fails
  obtain ⟨one, absent⟩ := (scopeReaches_fails read).mp fails
  exact reaches ⟨one, r, member, rfl, absent⟩

theorem State.claimAnswer_busy {s : State} {n : Nat} {scope : ClaimPair} {c : Claim} (held : s.holder? n scope = some c) :
    s.claimAnswer n scope = .busy c := by
  unfold State.claimAnswer
  rw [held]

theorem State.claimAnswer_free {s : State} {n : Nat} {scope : ClaimPair}
    (free : ∀ c ∈ s.claims, ¬c.overlaps n scope = true) :
    (∀ k, freeClaimNumber s.claims = some k → s.claimAnswer n scope = .granted k) ∧
    (freeClaimNumber s.claims = none → s.claimAnswer n scope = .full) := by
  have none : s.holder? n scope = none := by simpa [State.holder?] using free
  unfold State.claimAnswer
  rw [none]
  exact ⟨fun k number => by rw [number], fun full => by rw [full]⟩

theorem State.takeScope_of {s : State} {r : Station} {scope : ClaimPair} (reaches : r.scopeReaches scope = true) :
    (∀ c, s.claimAnswer r.number scope = .busy c → s.takeScope r scope = (s, .held, .claimEntry c)) ∧
    (s.claimAnswer r.number scope = .full → s.takeScope r scope = s.refuse .full) ∧
    ∀ k, s.claimAnswer r.number scope = .granted k → s.takeScope r scope =
      (s.addClaim { number := k, station := r.number, pair := scope, owner := .operator }).ok (.claimNumber k) := by
  unfold State.takeScope
  rw [if_pos reaches]
  exact ⟨fun c busy => by rw [busy], fun full => by rw [full], fun k granted => by rw [granted]⟩

/-! ### DROP -/

theorem performDrop_refused {s : State} (law : s.claimLaw = true) {n : Nat} {st : Status}
    (first : FirstApplies (s.dropChecks n) st) : performDrop n s = s.refuse st := by
  obtain ⟨range, rfl⟩ | ⟨inside, rest⟩ := first
  · exact if_neg (by rw [inRange_iff]; omega)
  have ok : inRange 0 15 n = true := inRange_iff.mpr (by omega)
  obtain ⟨absent, rfl⟩ | ⟨present, rest⟩ := rest
  · simp only [performDrop, ok, if_true, claim?_none.mpr absent]
  obtain ⟨⟨c, hc, rfl, other⟩, rfl⟩ | ⟨-, ⟨⟩⟩ := rest
  have notOperator : (c.owner == .operator) = false := by simpa using other
  simp only [performDrop, ok, if_true, claim?_of_mem law hc, notOperator, Bool.false_eq_true, if_false]

theorem performDrop_accepted {s : State} (law : s.claimLaw = true) {n : Nat} (none : NoneApplies (s.dropChecks n)) :
    performDrop n s = (s.dropClaim n).ok .empty := by
  have inside := none _ (.head _)
  have present := none _ (.tail _ (.head _))
  have operator := none _ (.tail _ (.tail _ (.head _)))
  have ok : inRange 0 15 n = true := inRange_iff.mpr (by simpa using inside)
  simp only [not_forall, not_not] at present
  obtain ⟨c, hc, rfl⟩ := present
  have owner : (c.owner == .operator) = true := by
    by_contra other
    exact operator ⟨c, hc, rfl, by simpa using other⟩
  simp only [performDrop, ok, if_true, claim?_of_mem law hc, owner]

theorem dropClaim_only (s : State) (n : Nat) :
    Only [.port, .survey, .pool, .telegrams, .sweeper, .arbiter, .claims, .contexts] s (s.dropClaim n) :=
  (((only_keepClaims s _).up).trans (only_announce _).up).trans (only_settle _).up

/-- Settles O35: the overlap comes first, then the numbers; a release is work after the claim has gone. -/
theorem takeAndDropClaims : Obligations.TakeAndDropClaims := by
  refine fun s idle keys law => ⟨fun n p => ⟨fun st first => refuses_of_eq rfl idle (performTake_refused keys first),
      fun none => ?take⟩, fun n => ⟨fun st first => refuses_of_eq rfl idle (performDrop_refused law first), fun none => ?drop⟩⟩
  case take =>
    obtain ⟨scope, r, read, rfl, reaches, eq⟩ := performTake_accepted keys none
    obtain ⟨held, full, granted⟩ := State.takeScope_of (s := s) reaches
    simp only [claimMeets_iff read]
    refine ⟨fun c hc meets least => answers_of_eq rfl idle ?_, fun free => ?_⟩
    · rw [eq, held c (State.claimAnswer_busy (holder?_eq law hc meets least))]
    obtain ⟨some, none⟩ := State.claimAnswer_free free
    refine ⟨fun many => refuses_of_eq rfl idle ?_, fun room scope' read' => ?_⟩
    · rw [eq, full (none (freeClaimNumber_none law many))]
      rfl
    obtain rfl : scope = scope' := Option.some.inj (read.symm.trans read')
    obtain ⟨k, number⟩ := freeClaimNumber_isSome room
    obtain ⟨bound, unused, lower⟩ := freeClaimNumber_some number
    refine ⟨_, k, answers_of_eq rfl idle (eq.trans (granted k (some k number))), bound, unused, lower,
      only_addClaim s _, fun c => ?_⟩
    rw [mem_addClaim, or_comm]
  case drop =>
    have only := dropClaim_only s n
    obtain ⟨stand, from_⟩ := released_claims s fun c => c.number != n
    refine ⟨s.dropClaim n, answers_of_eq rfl idle (performDrop_accepted law none), fun c hc => ?_,
      fun c hc other => stand c hc (by simpa using other), only.table_eq, only.line_eq, only.settings_eq, only.strays_eq⟩
    rintro ⟨same, owner⟩
    obtain ⟨-, kept⟩ | ⟨k, auto⟩ := from_ c hc
    · simp [same] at kept
    · rw [owner] at auto
      cases auto

end Sys2Proof.Machine
end

section
/-! PROOFS. The operator actions: O36, O37. -/

namespace Sys2Proof.Machine

/-! ### The pairs of an action -/

theorem performer_operatorActions {n p : Nat} {e : Instr × TelegramKind} (he : e ∈ operatorActions n p) :
    performer e.1 = some (performOperator n p (some e.2)) := by
  simp only [operatorActions, List.mem_cons, List.not_mem_nil, or_false] at he
  rcases he with rfl | rfl | rfl | rfl | rfl <;> rfl

theorem actsOn_iff {p : Nat} {q : Pair} : actsOn p q = true ↔ p = 255 ∨ q.val = p := by
  simp [actsOn]

/-- The pairs of a scope that reaches a station are those of its parts that the action is on. -/
theorem mem_pairsOf {p : Nat} {scope : ClaimPair} (read : readScope p = some scope) {r : Station}
    (reaches : r.scopeReaches scope = true) {x : Pair} :
    x ∈ r.pairsOf scope ↔ ∃ q ∈ r.parts, actsOn p q.pair = true ∧ q.pair = x := by
  cases scope with
  | all => simp [Station.pairsOf, actsOn_iff, readScope_all.mp read]
  | one y =>
    obtain rfl := readScope_one.mp read
    have notAll : y.val ≠ 255 := by omega
    obtain ⟨q, member, rfl⟩ := reachedBy_iff.mp reaches
    simp only [Station.pairsOf, List.mem_singleton, actsOn_iff, notAll, false_or, Fin.val_inj]
    exact ⟨fun same => ⟨q, member, rfl, same.symm⟩, fun ⟨_, _, acts, same⟩ => same ▸ acts⟩

/-- The action acts on some pair of which a condition holds. -/
def State.actsWhere (s : State) (n p : Nat) (f : Pair → Prop) : Prop :=
  ∃ r ∈ s.table.stations, r.number = n ∧ ∃ q ∈ r.parts, actsOn p q.pair = true ∧ f q.pair

theorem actsWhere_iff {s : State} (keys : s.keyLaw = true) {p : Nat} {scope : ClaimPair} {r : Station}
    (read : readScope p = some scope) (member : r ∈ s.table.stations) (reaches : r.scopeReaches scope = true)
    {f : Pair → Prop} {g : Pair → Bool} (fails : ∀ x, ¬g x = true ↔ f x) :
    (!((r.pairsOf scope).all g)) = true ↔ s.actsWhere r.number p f := by
  rw [Bool.not_eq_true', List.all_eq_false]
  constructor
  · rintro ⟨x, pair, bad⟩
    obtain ⟨q, part, acts, rfl⟩ := (mem_pairsOf read reaches).mp pair
    exact ⟨r, member, rfl, q, part, acts, (fails _).mp bad⟩
  · rintro ⟨r', member', same, q, part, acts, bad⟩
    obtain rfl := eq_of_number_eq keys member' member same
    exact ⟨q.pair, (mem_pairsOf read reaches).mpr ⟨q, part, acts, rfl⟩, (fails _).mpr bad⟩

theorem driving_fails {s : State} {p : Pair} : ¬s.driving p = true ↔ (s.sc p).role ≠ .driving := by
  simp [State.driving]

theorem operatorCovers_fails {s : State} {n : Nat} {p : Pair} : ¬s.operatorCovers n p = true ↔
    ∀ c ∈ s.claims, ¬(c.owner = .operator ∧ c.station = n ∧ (c.pair = .all ∨ c.pair = .one p)) := by
  have covers (c : Claim) : c.pair.overlaps (.one p) = true ↔ c.pair = .all ∨ c.pair = .one p := by
    cases c.pair <;> simp [ClaimPair.overlaps]
  simp only [State.operatorCovers, List.any_eq_true, not_exists, not_and, Bool.and_eq_true, beq_iff_eq, Claim.covers,
    Claim.overlaps, covers]

theorem hasPlace_fails {c : TelegramController} : ¬c.hasPlace = true ↔
    8 ≤ c.queue.length ∧ ∀ t ∈ c.queue, t.submitter ≠ .sweep := by
  simp only [TelegramController.hasPlace, ne_eq, ← Telegram.isPoll_iff, Bool.or_eq_true, decide_eq_true_eq,
    List.any_eq_true, not_or, not_exists, not_and, Nat.not_lt]
  rfl

theorem operatorFits_fails {r : Station} {k : TelegramKind} : ¬r.operatorFits k = true ↔
    (k = .cut ∨ k = .reconnect) ∧ r.kind = .repeater := by
  unfold Station.operatorFits Station.isUnit
  cases r.kind <;> simp
  tauto

/-! ### Refusals -/

theorem operatorRefusal_eq (s : State) (r : Station) (scope : ClaimPair) (k : TelegramKind) :
    s.operatorRefusal r scope k =
      if !(r.scopeReaches scope && r.operatorFits k) then some .range
      else if !((r.pairsOf scope).all (s.operatorCovers r.number)) then some .noClaim
      else if !((r.pairsOf scope).all s.driving) then some .role
      else if !((r.pairsOf scope).all fun p => (s.tc p).hasPlace) then some .full
      else none := rfl

theorem performOperator_read {s : State} (keys : s.keyLaw = true) {p : Nat} {scope : ClaimPair} {r : Station}
    (k : TelegramKind) (read : readScope p = some scope) (member : r ∈ s.table.stations) :
    (∀ st, s.operatorRefusal r scope k = some st → performOperator r.number p (some k) s = s.refuse st) ∧
    (s.operatorRefusal r scope k = none →
      performOperator r.number p (some k) s = (s.operate r scope k, .queued, .empty)) := by
  obtain ⟨-, below, -⟩ := keyLaw_iff.mp keys
  have ok : stationOk r.number = true := stationOk_iff.mpr (by have := below r member; omega)
  simp only [performOperator, read, ok, if_true, station?_of_mem keys member]
  exact ⟨fun st refusal => by rw [refusal], fun legal => by rw [legal]⟩

theorem operatorChecks_first {s : State} (keys : s.keyLaw = true) {n p : Nat} {k : TelegramKind} {st : Status}
    (first : FirstApplies (s.operatorChecks n p k) st) : performOperator n p (some k) s = s.refuse st := by
  obtain ⟨range, rfl⟩ | ⟨inside, rest⟩ := first
  · unfold performOperator
    split
    next scope _ read _ =>
      have pair : ¬(p ≠ 255 ∧ 7 < p) := mt readScope_none.mpr (by simp [read])
      rw [if_neg]
      rw [stationOk_iff]
      omega
    next => rfl
  obtain ⟨scope, read⟩ := Option.ne_none_iff_exists'.mp (mt readScope_none.mp (not_or.mp inside).2)
  obtain ⟨absent, rfl⟩ | ⟨enlisted, rest⟩ := rest
  · have ok : stationOk n = true := stationOk_iff.mpr (by omega)
    simp only [performOperator, read, ok, if_true, station?_none.mpr absent]
  simp only [not_forall, not_not] at enlisted
  obtain ⟨r, member, rfl⟩ := enlisted
  refine (performOperator_read keys k read member).1 st ?_
  rw [operatorRefusal_eq]
  obtain ⟨⟨r', member', same, bad⟩, rfl⟩ | ⟨fits, rest⟩ := rest
  · obtain rfl := eq_of_number_eq keys member' member same
    rw [← scopeReaches_fails read, ← operatorFits_fails, ← not_and_or, ← Bool.and_eq_true, Bool.not_eq_true,
      ← Bool.not_eq_true'] at bad
    rw [if_pos bad]
  have both : (r.scopeReaches scope && r.operatorFits k) = true := by
    by_contra bad
    rw [Bool.and_eq_true, not_and_or, scopeReaches_fails read, operatorFits_fails] at bad
    exact fits ⟨r, member, rfl, bad⟩
  have reaches := ((Bool.and_eq_true _ _).mp both).1
  rw [if_neg (by simp [both])]
  have claim := actsWhere_iff keys read member reaches (fun x => operatorCovers_fails (s := s) (n := r.number) (p := x))
  have role := actsWhere_iff keys read member reaches (fun x => driving_fails (s := s) (p := x))
  have place := actsWhere_iff keys read member reaches (fun x => hasPlace_fails (c := s.tc x))
  obtain ⟨uncovered, rfl⟩ | ⟨covered, rest⟩ := rest
  · rw [if_pos (claim.mpr uncovered)]
  rw [if_neg (mt claim.mp covered)]
  obtain ⟨idle, rfl⟩ | ⟨drives, rest⟩ := rest
  · rw [if_pos (role.mpr idle)]
  rw [if_neg (mt role.mp drives)]
  obtain ⟨full, rfl⟩ | ⟨-, ⟨⟩⟩ := rest
  rw [if_pos (place.mpr full)]

/-- Settles O36: the operands are read in order, and each check of the rule is the model's test. -/
theorem operatorActionRefusals : Obligations.OperatorActionRefusals := by
  refine fun n p s idle keys => ⟨fun e he st first =>
    refuses_of_eq (performer_operatorActions he) idle (operatorChecks_first keys first), fun a spare limit => ?_⟩
  refine refuses_of_eq rfl idle ?_
  have none : readIsolate a = none := by
    unfold readIsolate
    split
    next => exact absurd rfl spare
    next => exact absurd rfl limit
    next => rfl
  unfold performIsolate performOperator
  rw [none]
  cases readScope p <;> rfl

/-! ### An accepted action -/

theorem operatorChecks_none {s : State} (keys : s.keyLaw = true) {n p : Nat} {k : TelegramKind}
    (none : NoneApplies (s.operatorChecks n p k)) : ∃ scope, ∃ r ∈ s.table.stations, readScope p = some scope ∧
      r.number = n ∧ r.scopeReaches scope = true ∧ (∀ x ∈ r.pairsOf scope, s.driving x = true) ∧
      performOperator n p (some k) s = (s.operate r scope k, .queued, .empty) := by
  have enlisted := none _ (.tail _ (.head _))
  have fits := none _ (.tail _ (.tail _ (.head _)))
  have covered := none _ (.tail _ (.tail _ (.tail _ (.head _))))
  have drives := none _ (.tail _ (.tail _ (.tail _ (.tail _ (.head _)))))
  have room := none _ (.tail _ (.tail _ (.tail _ (.tail _ (.tail _ (.head _))))))
  obtain ⟨scope, read⟩ := Option.ne_none_iff_exists'.mp (mt readScope_none.mp (not_or.mp (none _ (.head _))).2)
  simp only [not_forall, not_not] at enlisted
  obtain ⟨r, member, rfl⟩ := enlisted
  have both : (r.scopeReaches scope && r.operatorFits k) = true := by
    by_contra bad
    rw [Bool.and_eq_true, not_and_or, scopeReaches_fails read, operatorFits_fails] at bad
    exact fits ⟨r, member, rfl, bad⟩
  have reaches := ((Bool.and_eq_true _ _).mp both).1
  have claim := actsWhere_iff keys read member reaches (fun x => operatorCovers_fails (s := s) (n := r.number) (p := x))
  have role := actsWhere_iff keys read member reaches (fun x => driving_fails (s := s) (p := x))
  have place := actsWhere_iff keys read member reaches (fun x => hasPlace_fails (c := s.tc x))
  refine ⟨scope, r, member, read, rfl, reaches, fun x pair => ?_, (performOperator_read keys k read member).2 ?_⟩
  · have all := mt role.mp drives
    rw [Bool.not_eq_true', Bool.not_eq_false, List.all_eq_true] at all
    exact all x pair
  · rw [operatorRefusal_eq, if_neg (by simp [both]), if_neg (mt claim.mp covered), if_neg (mt role.mp drives),
      if_neg (mt place.mp room)]

/-- The record after an operator action on some pairs. -/
def Station.operated (n : Nat) (k : TelegramKind) (l : List Pair) (r : Station) : Station :=
  if r.number = n then { r with parts := r.parts.map fun q => if q.pair ∈ l then q.operate k else q } else r

theorem operated_cons {n : Nat} {k : TelegramKind} {p : Pair} {l : List Pair} (new : p ∉ l) (r : Station) :
    Station.operated n k l (if r.number = n then r.updatePart p (·.operate k) else r) = Station.operated n k (p :: l) r := by
  unfold Station.operated Station.updatePart
  by_cases named : r.number = n
  · rw [if_pos named, if_pos named, if_pos named]
    simp only [List.map_map]
    congr 1
    refine List.map_congr_left fun q _ => ?_
    by_cases same : q.pair = p
    · have absent : (q.operate k).pair ∉ l := same ▸ new
      simp [same, absent]
    · simp [same]
  · rw [if_neg named, if_neg named, if_neg named]

theorem updatePart_table (s : State) (n : Nat) (p : Pair) (f : PairPart → PairPart) :
    (s.updatePart n p f).table = { s.table with
      stations := s.table.stations.map fun r => if r.number = n then r.updatePart p f else r } := by
  unfold State.updatePart State.updateStation
  simp only [beq_iff_eq, State.setTable_table]

theorem operateOn_table (n : Nat) (k : TelegramKind) (s : State) (p : Pair) :
    (State.operateOn n k s p).table = (s.updatePart n p (·.operate k)).table := by
  unfold State.operateOn
  dsimp only
  split
  · exact (only_submit _ p _).table_eq
  · rfl

theorem operateAll_table (n : Nat) (k : TelegramKind) : ∀ (l : List Pair) (s : State), l.Nodup →
    (l.foldl (State.operateOn n k) s).table = { s.table with
      stations := s.table.stations.map (Station.operated n k l) }
  | [], s, _ => by
    have same : Station.operated n k [] = id := funext fun r => by simp [Station.operated]
    rw [same, List.map_id]
    rfl
  | p :: l, s, nodup => by
    obtain ⟨new, nodup⟩ := List.nodup_cons.mp nodup
    rw [List.foldl_cons, operateAll_table n k l _ nodup, operateOn_table, updatePart_table]
    simp only [List.map_map]
    congr 1
    exact List.map_congr_left fun r _ => operated_cons new r

theorem Station.part?_updatePart (r : Station) (p q : Pair) {f : PairPart → PairPart} (pair : ∀ y, (f y).pair = y.pair) :
    (r.updatePart p f).part? q = if q = p then (r.part? q).map f else r.part? q := by
  have test : (fun y : PairPart => (if y.pair == p then f y else y).pair == q) = fun y => y.pair == q := by
    funext y
    split <;> simp [pair]
  unfold Station.part? Station.updatePart
  rw [List.find?_map]
  simp only [Function.comp_def, test]
  cases found : r.parts.find? (·.pair == q) with
  | none => simp
  | some y =>
    have on : y.pair = q := by simpa using List.find?_some found
    by_cases e : q = p <;> simp [e, on]

theorem part?_updatePart (s : State) (n : Nat) (p q : Pair) {f : PairPart → PairPart} (pair : ∀ y, (f y).pair = y.pair) :
    (s.updatePart n p f).part? n q = if q = p then (s.part? n q).map f else s.part? n q := by
  have test : (fun r : Station => (if r.number = n then r.updatePart p f else r).number == n) =
      fun r => r.number == n := by
    funext r
    split <;> rfl
  have found : (s.updatePart n p f).station? n = (s.station? n).map (·.updatePart p f) := by
    rw [State.station?, updatePart_table, List.find?_map]
    simp only [Function.comp_def, test]
    cases e : s.station? n with
    | none => rw [State.station?] at e; simp [e]
    | some r =>
      have named := (station?_some e).2
      rw [State.station?] at e
      simp [e, named]
  unfold State.part?
  rw [found]
  cases s.station? n with
  | none => simp
  | some r => exact r.part?_updatePart p q pair

theorem operateOn_eq {n : Nat} {k : TelegramKind} {s : State} {p : Pair} {y : PairPart} (part : s.part? n p = some y)
    (drives : s.driving p = true) : State.operateOn n k s p = (s.updatePart n p (·.operate k)).setTc p
      ((s.tc p).submit { dest := n, kind := k, submitter := .operator ((y.issue + 1) % 256) }) := by
  have updated : (s.updatePart n p (·.operate k)).part? n p = some (y.operate k) := by
    rw [part?_updatePart s n p p (f := (·.operate k)) fun _ => rfl, if_pos rfl, part]
    rfl
  unfold State.operateOn
  simp only [updated]
  exact if_pos drives

theorem operateOn_part? (n : Nat) (k : TelegramKind) (s : State) {p q : Pair} (other : q ≠ p) :
    (State.operateOn n k s p).part? n q = s.part? n q := by
  have same : (State.operateOn n k s p).part? n q = (s.updatePart n p (·.operate k)).part? n q := by
    simp only [State.part?, State.station?, operateOn_table]
  rw [same, part?_updatePart s n p q (f := (·.operate k)) fun _ => rfl, if_neg other]

theorem operateOn_tc (n : Nat) (k : TelegramKind) (s : State) {p q : Pair} (other : q ≠ p) :
    (State.operateOn n k s p).tc q = s.tc q := by
  unfold State.operateOn
  dsimp only
  split
  · unfold State.submit
    split
    · rw [tc_setTc, if_neg other]
      rfl
    · rfl
  · rfl

theorem submit_has (c : TelegramController) (t : Telegram) : (c.submit t).has t := by
  unfold TelegramController.submit
  split
  · exact .inl (mem_enqueue.mpr (.inl rfl))
  · split
    · exact .inl (mem_enqueue.mpr (.inl rfl))
    · exact .inr (mem_enqueue.mpr (.inl rfl))

theorem operateAll_tc_other (n : Nat) (k : TelegramKind) {q : Pair} : ∀ (l : List Pair) (s : State), q ∉ l →
    (l.foldl (State.operateOn n k) s).tc q = s.tc q
  | [], _, _ => rfl
  | p :: l, s, absent => by
    have other : q ≠ p := fun same => absent (same ▸ List.mem_cons_self)
    replace absent : q ∉ l := fun member => absent (List.mem_cons_of_mem _ member)
    rw [List.foldl_cons, operateAll_tc_other n k l _ absent, operateOn_tc n k s other]

theorem operateAll_has (n : Nat) (k : TelegramKind) {q : Pair} {y : PairPart} {l : List Pair} {s : State}
    (nodup : l.Nodup) (member : q ∈ l) (drives : s.driving q = true) (part : s.part? n q = some y) :
    ((l.foldl (State.operateOn n k) s).tc q).has
      { dest := n, kind := k, submitter := .operator ((y.issue + 1) % 256) } := by
  induction l generalizing s with
  | nil => cases member
  | cons p l ih =>
    obtain ⟨new, nodup⟩ := List.nodup_cons.mp nodup
    rw [List.foldl_cons]
    by_cases same : q = p
    · subst same
      rw [operateAll_tc_other n k l _ new, operateOn_eq part drives, tc_setTc, if_pos rfl]
      exact submit_has _ _
    · have drives' : (State.operateOn n k s p).driving q = true := by
        rw [State.driving, State.sc, (only_operateOn n k s p).survey_eq]
        exact drives
      refine ih nodup ((List.mem_cons.mp member).resolve_left same) drives' ?_
      rw [operateOn_part? n k s same, part]

/-! ### A telegram stays until its exchange ends -/

theorem bears_sent {s : State} {p q : Pair} {w : Telegram} (enlisted : s.enlisted w.dest) (h : (s.tc q).bears w) :
    ((s.sendHead p).tc q).bears w := by
  unfold State.sendHead
  dsimp only
  split
  next t rest drives none queue =>
    by_cases e : q = p
    · subst e
      obtain (queued | waits) | ⟨o, out, -⟩ := h
      · rw [queue] at queued
        obtain rfl | behind := List.mem_cons.mp queued
        · obtain ⟨r, member, named⟩ := enlisted
          have found : ((s.setTc q { s.tc q with queue := rest }).station? w.dest).isSome = true :=
            station?_isSome_iff.mpr (List.mem_map.mpr ⟨r, member, named⟩)
          split
          next r _ =>
            unfold State.launch
            simp only [tc_setTc, if_true]
            exact .inr ⟨_, rfl, rfl⟩
          next absent =>
            rw [absent] at found
            cases found
        · split
          · unfold State.launch
            simp only [tc_setTc, if_true]
            exact .inl (.inl behind)
          · simp only [tc_setTc, if_true]
            exact .inl (.inl behind)
      · split
        · unfold State.launch
          simp only [tc_setTc, if_true]
          exact .inl (.inr waits)
        · simp only [tc_setTc, if_true]
          exact .inl (.inr waits)
      · rw [none] at out
        cases out
    · split
      · unfold State.launch
        simpa only [tc_setTc, e, if_false] using h
      · simpa only [tc_setTc, e, if_false] using h
  next => exact h

theorem bears_advanced {s : State} {p q : Pair} {w : Telegram} (h : (s.tc q).bears w) :
    ((s.advanceCursor p).tc q).bears w := by
  unfold State.advanceCursor
  split
  · split
    · change ((s.setTc p _).tc q).bears w
      rw [tc_setTc]
      split
      next e =>
        subst e
        exact h.imp_left (.imp_left fun queued => mem_enqueue.mpr (.inr queued))
      next => exact h
    · exact h
  · exact h

theorem bears_settle {s : State} {q : Pair} {w : Telegram} (enlisted : s.enlisted w.dest) (h : (s.tc q).bears w) :
    (s.settle.tc q).bears w := by
  refine (settle_keeps (I := fun s => s.enlisted w.dest ∧ (s.tc q).bears w) (fun s p h => ⟨h.1, ?_⟩)
    (fun s p h => ⟨h.1.of_table (only_sendHead s p).table_eq, bears_sent h.1 h.2⟩)
    (fun s p h => ⟨h.1.of_table (only_advanceCursor s p).table_eq, bears_advanced h.2⟩) (fun s v h => h)
    ⟨enlisted, h⟩).2
  rw [State.fillPair, tc_setTc]
  split
  next e =>
    subst e
    exact bears_fill.mpr h.2
  next => exact h.2

theorem pairsOf_nodup {s : State} (parts : s.partsLaw = true) {r : Station} (member : r ∈ s.table.stations)
    (scope : ClaimPair) : (r.pairsOf scope).Nodup := by
  cases scope with
  | one p => exact List.nodup_singleton p
  | all =>
    have sorted := partsLaw_iff.mp parts r member
    exact (List.pairwise_map.mp sorted).imp fun lt => Fin.ne_of_lt lt

theorem part?_of_mem {s : State} (keys : s.keyLaw = true) (parts : s.partsLaw = true) {r : Station}
    (member : r ∈ s.table.stations) {q : PairPart} (part : q ∈ r.parts) : s.part? r.number q.pair = some q := by
  have sorted := partsLaw_iff.mp parts r member
  unfold State.part?
  rw [station?_of_mem keys member]
  refine find_of_mem PairPart.pair ?_ part
  rw [Station.partPairs, List.map_map, List.pairwise_map] at sorted
  exact sorted.imp fun lt => Fin.ne_of_lt lt

/-- Settles O37: the parts are written pair by pair, and a telegram placed is not lost at the close of the event. -/
theorem operatorActionPlacesTelegrams : Obligations.OperatorActionPlacesTelegrams := by
  intro n p s idle keys parts e he none
  obtain ⟨scope, r, member, read, rfl, reaches, drives, accepted⟩ := operatorChecks_none keys none
  have nodup := pairsOf_nodup parts member scope
  have table := (only_settle _).table_eq.trans (operateAll_table r.number e.2 _ s nodup)
  refine ⟨_, answers_of_eq (performer_operatorActions he) idle accepted, only_operate s r scope e.2, ?_, ?_⟩
  · refine table.trans (congrArg (fun l => ({ s.table with stations := l } : StationTable))
      (List.map_congr_left fun x hx => ?_))
    unfold Station.operated
    by_cases named : x.number = r.number
    · obtain rfl := eq_of_number_eq keys hx member named
      rw [if_pos rfl, if_pos rfl]
      refine congrArg (fun l => ({ x with parts := l } : Station)) (List.map_congr_left fun q part => ?_)
      have acts : q.pair ∈ x.pairsOf scope ↔ actsOn p q.pair = true := by
        rw [mem_pairsOf read reaches]
        exact ⟨fun ⟨_, _, acts, same⟩ => same ▸ acts, fun acts => ⟨q, part, acts, rfl⟩⟩
      by_cases on : actsOn p q.pair = true
      · rw [if_pos (acts.mpr on), if_pos on]
        rfl
      · rw [if_neg (mt acts.mp on), if_neg on]
    · rw [if_neg named, if_neg named]
  · rintro x hx named q part acts w rfl
    obtain rfl := eq_of_number_eq keys hx member named
    have pair := (mem_pairsOf read reaches).mpr ⟨q, part, acts, rfl⟩
    have placed := operateAll_has x.number e.2 nodup pair (drives _ pair) (part?_of_mem keys parts member part)
    have enlisted : ((x.pairsOf scope).foldl (State.operateOn x.number e.2) s).enlisted x.number := by
      rw [State.enlisted, operateAll_table x.number e.2 _ s nodup]
      refine ⟨_, List.mem_map_of_mem member, ?_⟩
      simp [Station.operated]
    obtain (queued | waits) | out := bears_settle (w := { dest := x.number, kind := e.2, submitter := _ }) enlisted (.inl placed)
    · exact .inl queued
    · exact .inr (.inl waits)
    · exact .inr (.inr out)

end Sys2Proof.Machine
end

section
/-! PROOFS. What a finding makes of the Case List: O51. -/

namespace Sys2Proof.Machine

/-! ### The deciding cause and the level -/

theorem highestCause_nil {m : PerCause Level} {l : List Cause} : highestCause m l = none ↔ l = [] := by
  cases l with
  | nil => exact iff_of_true rfl rfl
  | cons c l =>
    refine iff_of_false (fun none => ?_) (List.cons_ne_nil c l)
    unfold highestCause at none
    split at none
    · cases none
    · split at none <;> cases none

/-- The cause found is of the highest level in a list, and the first of its equals. -/
theorem highestCause_some {m : PerCause Level} : ∀ {l : List Cause} {c : Cause},
    l.Pairwise (fun c d => causeRank c < causeRank d) → highestCause m l = some c →
    c ∈ l ∧ ∀ d ∈ l, m.get c < m.get d ∨ (m.get c = m.get d ∧ causeRank c ≤ causeRank d)
  | [], _, _, found => by cases found
  | x :: l, c, ranks, found => by
    obtain ⟨first, ranks⟩ := List.pairwise_cons.mp ranks
    unfold highestCause at found
    split at found
    next none =>
      cases found
      rw [highestCause_nil.mp none]
      simp
    next d best =>
      obtain ⟨member, least⟩ := highestCause_some ranks best
      split at found
      next le =>
        cases found
        refine ⟨.head _, fun e he => ?_⟩
        obtain rfl | he := List.mem_cons.mp he
        · exact .inr ⟨rfl, le_rfl⟩
        · have rank := first e he
          have level : m.get d ≤ m.get e := (least e he).elim le_of_lt fun same => same.1.le
          rcases (le.trans level).lt_or_eq with lt | eq
          · exact .inl lt
          · exact .inr ⟨eq, by omega⟩
      next gt =>
        cases found
        refine ⟨.tail _ member, fun e he => ?_⟩
        obtain rfl | he := List.mem_cons.mp he
        · exact .inl (not_le.mp gt)
        · exact least e he

theorem mem_causeOrder (c : Cause) : c ∈ causeOrder := by cases c <;> decide

theorem causeOrder_ranks : causeOrder.Pairwise fun c d => causeRank c < causeRank d := by decide

theorem decidingCause_some {m : PerCause Level} {e : Evidence} {c : Cause} (found : decidingCause m e = some c) :
    decides m e c := by
  obtain ⟨member, least⟩ := highestCause_some (causeOrder_ranks.filter _) found
  exact ⟨(List.mem_filter.mp member).2, fun d has => least d (List.mem_filter.mpr ⟨mem_causeOrder d, has⟩)⟩

theorem decides_unique {m : PerCause Level} {e : Evidence} {c d : Cause} (hc : decides m e c) (hd : decides m e d) :
    c = d := by
  have rank : causeRank c = causeRank d := by
    obtain lt | ⟨same, le⟩ := hc.2 d hd.1 <;> obtain lt' | ⟨same', le'⟩ := hd.2 c hc.1
    · exact absurd lt (not_lt.mpr lt'.le)
    · exact absurd lt (not_lt.mpr same'.le)
    · exact absurd lt' (not_lt.mpr same.le)
    · exact le_antisymm le le'
  cases c <;> cases d <;> first | rfl | cases rank

theorem decidingCause_isSome {m : PerCause Level} {e : Evidence} {d : Cause} (has : e.has d = true) :
    ∃ c, decidingCause m e = some c := by
  refine Option.ne_none_iff_exists'.mp fun none => ?_
  have member : d ∈ causeOrder.filter e.has := List.mem_filter.mpr ⟨mem_causeOrder d, has⟩
  rw [highestCause_nil.mp none] at member
  cases member

/-- The deciding cause of the rule is the model's. -/
theorem decidingCause_eq {m : PerCause Level} {e : Evidence} {c : Cause} (h : decides m e c) :
    decidingCause m e = some c := by
  obtain ⟨d, found⟩ := decidingCause_isSome (m := m) h.1
  rw [found, decides_unique (decidingCause_some found) h]

/-- The level of a case is the highest that the map gives any of its causes (R129). -/
theorem levelOf_highest {m : PerCause Level} {e : Evidence} (caused : e.some? = true) :
    (∃ d, e.has d = true ∧ levelOf m e = m.get d) ∧ ∀ d, e.has d = true → levelOf m e ≤ m.get d := by
  obtain ⟨x, has⟩ := Evidence.some?_iff.mp caused
  obtain ⟨c, found⟩ := decidingCause_isSome (m := m) has
  obtain ⟨has', least⟩ := decidingCause_some found
  have level : levelOf m e = m.get c := by rw [levelOf, found]
  rw [level]
  exact ⟨⟨c, has', rfl⟩, fun d hd => (least d hd).elim le_of_lt fun same => same.1.le⟩

theorem Evidence.has_add_none {f : CauseFound} {c : Cause} (has : (Evidence.none.add f).has c = true) : c = f.cause := by
  cases f <;> cases c <;> first | rfl | cases has

theorem levelOf_single (m : PerCause Level) (f : CauseFound) : levelOf m (Evidence.none.add f) = m.get f.cause := by
  obtain ⟨⟨d, has, level⟩, -⟩ := levelOf_highest (m := m) (Evidence.some?_add Evidence.none f)
  rw [level, Evidence.has_add_none has]

/-! ### A finding -/

theorem findCase_merges {s : State} (lawful : s.CasesLawful) {c : Case} (hc : c ∈ s.arbiter.cases) (f : CauseFound)
    (round : Nat) : s.findCase c.station c.pair f round = s.mergeCase c f := by
  unfold State.findCase
  rw [caseAt?_of_mem (caseLaw_iff.mpr lawful) hc]

theorem findCase_opens {s : State} {n : Nat} {p : Pair} (none : ∀ c ∈ s.arbiter.cases, ¬(c.station = n ∧ c.pair = p))
    (room : s.arbiter.cases.length < 32) (f : CauseFound) (round : Nat) :
    s.findCase n p f round = s.openCase n p f round := by
  unfold State.findCase
  rw [caseAt?_none.mpr none]
  exact if_pos room

theorem findCase_full {s : State} {n : Nat} {p : Pair} (none : ∀ c ∈ s.arbiter.cases, ¬(c.station = n ∧ c.pair = p))
    (full : 32 ≤ s.arbiter.cases.length) (f : CauseFound) (round : Nat) :
    s.findCase n p f round = s.raise .caseFull := by
  unfold State.findCase
  rw [caseAt?_none.mpr none]
  exact if_neg (Nat.not_lt.mpr full)

/-- The next case number comes first in rotating order after the last assigned (R128). -/
theorem nextCaseNumber_first {l : List Case} {last m : Nat} (bound : last ≤ 255) (least : 1 ≤ m) (most : m ≤ 255)
    (free : ∀ c ∈ l, c.number ≠ m) :
    (nextCaseNumber l last + 254 - last) % 255 ≤ (m + 254 - last) % 255 := by
  have at_m : (last + (m + 254 - last) % 255) % 255 + 1 = m := by omega
  unfold nextCaseNumber
  split
  next i found =>
    obtain ⟨-, inside, before⟩ := List.find?_range_eq_some.mp found
    have place : ((last + i) % 255 + 1 + 254 - last) % 255 = i := by
      have := List.mem_range.mp inside
      omega
    rw [place]
    by_contra later
    have used := before ((m + 254 - last) % 255) (by omega)
    simp only [at_m, Bool.not_not, List.any_eq_true, beq_iff_eq] at used
    obtain ⟨c, hc, same⟩ := used
    exact free c hc same
  next full =>
    have used := List.find?_eq_none.mp full ((m + 254 - last) % 255) (List.mem_range.mpr (by omega))
    simp only [at_m, Bool.not_eq_true, Bool.not_eq_false', List.any_eq_true, beq_iff_eq] at used
    obtain ⟨c, hc, same⟩ := used
    exact absurd same (free c hc)

theorem Case.merge_eq (m : PerCause Level) (f : CauseFound) (c : Case) : c.merge m f =
    { c with evidence := c.evidence.add f, level := (c.merge m f).level, state := (c.merge m f).state } := by
  unfold Case.merge
  dsimp only
  split <;> (try split) <;> simp_all

theorem Case.merge_held {m : PerCause Level} {f : CauseFound} {c : Case} (held : c.isHeld = true) :
    (c.evidence.has f.cause = true → (c.merge m f).level = c.level ∧ (c.merge m f).state = c.state) ∧
    (c.evidence.has f.cause = false →
      (c.merge m f).level = levelOf m (c.evidence.add f) ∧ (c.merge m f).state = .pending) := by
  obtain ⟨o, state⟩ := Case.isHeld_iff.mp held
  unfold Case.merge
  rw [state]
  constructor <;> intro has <;> simp [has]

theorem Case.merge_pending {m : PerCause Level} {f : CauseFound} {c : Case} (state : c.state = .pending) :
    (c.merge m f).level = levelOf m (c.evidence.add f) ∧ (c.merge m f).state = .pending := by
  unfold Case.merge
  rw [state]
  exact ⟨rfl, rfl⟩

theorem mergeCase_arbiter {s : State} (lawful : s.CasesLawful) {c : Case} (hc : c ∈ s.arbiter.cases) (f : CauseFound) :
    (s.mergeCase c f).arbiter = { s.arbiter with cases := s.arbiter.cases.map fun d =>
      if d.number = c.number then { d with
        evidence := c.evidence.add f, level := (c.merge s.arbiter.policy.levelMap f).level,
        state := (c.merge s.arbiter.policy.levelMap f).state } else d } := by
  have merged : (s.mergeCase c f).arbiter =
      (s.updateCase c.number (Case.merge s.arbiter.policy.levelMap f)).arbiter := by
    unfold State.mergeCase
    dsimp only
    split <;> rfl
  rw [merged]
  refine congrArg (fun l => ({ s.arbiter with cases := l } : CaseArbiter)) (List.map_congr_left fun d hd => ?_)
  by_cases same : d.number = c.number
  · obtain rfl := lawful.eq_of_number hd hc same
    rw [if_pos rfl, if_pos (by simp)]
    exact d.merge_eq _ f
  · rw [if_neg same, if_neg (by simpa using same)]

theorem mergeCase_port (s : State) (c : Case) (f : CauseFound) :
    (c.isHeld = true → c.evidence.has f.cause = false → (s.mergeCase c f).port.attention.caseNew = true) ∧
    (c.isHeld = false ∨ c.evidence.has f.cause = true → (s.mergeCase c f).port = s.port) := by
  have reopens : c.reopens f = (c.isHeld && !c.evidence.has f.cause) := rfl
  unfold State.mergeCase
  dsimp only
  rw [reopens]
  refine ⟨fun held new => ?_, fun or => ?_⟩
  · rw [held, new]
    rfl
  · rw [if_neg]
    · rfl
    · rw [Bool.and_eq_true, Bool.not_eq_true']
      rintro ⟨held, new⟩
      obtain idle | old := or
      · rw [idle] at held
        cases held
      · rw [old] at new
        cases new

theorem caseAt?_openCase (s : State) (n : Nat) (p : Pair) (f : CauseFound) (round : Nat) :
    ((s.openCase n p f round).caseAt? n p).isSome = true :=
  caseAt?_isSome.mpr ⟨_, mem_openCase.mpr (.inl rfl), rfl, rfl⟩

/-! ### Pair parts -/

theorem part?_of_table {s t : State} (table : t.table = s.table) (n : Nat) (p : Pair) : t.part? n p = s.part? n p := by
  simp only [State.part?, State.station?, table]

theorem station?_updatePart (s : State) (n m : Nat) (p : Pair) (f : PairPart → PairPart) :
    (s.updatePart n p f).station? m = if m = n then (s.station? m).map (·.updatePart p f) else s.station? m := by
  have test : (fun r : Station => (if r.number = n then r.updatePart p f else r).number == m) =
      fun r => r.number == m := by
    funext r
    split <;> rfl
  rw [State.station?, updatePart_table, List.find?_map]
  simp only [Function.comp_def, test]
  cases e : s.table.stations.find? fun r => r.number == m with
  | none => rw [State.station?, e]; simp
  | some r =>
    have named : r.number = m := by simpa using List.find?_some e
    rw [State.station?, e]
    by_cases same : m = n <;> simp [same, named]

/-- A part of another station, or on another pair, is not changed. -/
theorem part?_updatePart_other (s : State) {n m : Nat} {p q : Pair} {f : PairPart → PairPart}
    (pair : ∀ y, (f y).pair = y.pair) (other : m ≠ n ∨ q ≠ p) : (s.updatePart n p f).part? m q = s.part? m q := by
  by_cases same : m = n
  · subst same
    rw [part?_updatePart s m p q pair, if_neg (other.resolve_left fun h => h rfl)]
  · simp only [State.part?, station?_updatePart, if_neg same]

theorem part?_updatePart_self (s : State) (n : Nat) (p : Pair) {f : PairPart → PairPart}
    (pair : ∀ y, (f y).pair = y.pair) : (s.updatePart n p f).part? n p = (s.part? n p).map f := by
  rw [part?_updatePart s n p p pair, if_pos rfl]

theorem part?_refreshHealth (s : State) (n : Nat) (p : Pair) : (s.refreshHealth n p).part? n p =
    (s.part? n p).map fun y => { y with health := healthOf (s.caseAt? n p).isSome y } :=
  part?_updatePart_self s n p fun _ => rfl

/-- The case of an opening in the list, before the health of its pair part is set. -/
def State.listed (s : State) (n : Nat) (p : Pair) (f : CauseFound) (round : Nat) : State :=
  s.setArbiter { s.arbiter with
    cases := insertCase (s.newCase n p f round) s.arbiter.cases,
    counter := nextCaseNumber s.arbiter.cases s.arbiter.counter }

theorem openCase_eq (s : State) (n : Nat) (p : Pair) (f : CauseFound) (round : Nat) :
    s.openCase n p f round = ((s.listed n p f round).refreshHealth n p).raise .caseNew := rfl

theorem part?_openCase (s : State) (n : Nat) (p : Pair) (f : CauseFound) (round : Nat) :
    (s.openCase n p f round).part? n p = (s.part? n p).map fun y => { y with health := .suspect } := by
  have suspect : ((s.listed n p f round).caseAt? n p).isSome = true := caseAt?_openCase s n p f round
  have health (y : PairPart) : healthOf ((s.listed n p f round).caseAt? n p).isSome y = .suspect :=
    healthOf_suspect.mpr suspect
  rw [openCase_eq]
  change ((s.listed n p f round).refreshHealth n p).part? n p = _
  rw [part?_refreshHealth]
  simp only [health]
  rfl

/-- Settles O51: the finding is an opening, a full list, or a merge by the case's state. -/
theorem findingOpensOrMerges : Obligations.FindingOpensOrMerges := by
  refine fun n p f round s law => ⟨fun none room bound => ⟨s.newCase n p f round, ?opened⟩,
    fun none full => findCase_full none full f round, fun c hc station pair => ?merged⟩
  case opened =>
    obtain ⟨range, free⟩ := nextCaseNumber_free (l := s.arbiter.cases) (last := s.arbiter.counter) (by omega)
    rw [findCase_opens none room]
    refine ⟨fun d => mem_openCase, rfl, rfl, rfl, levelOf_single _ f, rfl, rfl, rfl, rfl,
      ⟨range.1, range.2, free, fun m least most free => nextCaseNumber_first bound least most free⟩, rfl, rfl,
      fun q part => ?_⟩
    rw [part?_openCase, Option.map_eq_some_iff] at part
    obtain ⟨y, -, rfl⟩ := part
    rfl
  case merged =>
    subst station pair
    have lawful := caseLaw_iff.mp law
    have caused := levelOf_highest (m := s.arbiter.policy.levelMap) (Evidence.some?_add c.evidence f)
    rw [findCase_merges lawful hc]
    refine ⟨_, _, mergeCase_arbiter lawful hc f, Case.merge_inService, fun held => (Case.merge_held held).1,
      fun reopened => ?_, (mergeCase_port s c f).1, (mergeCase_port s c f).2, (only_mergeCase s c f).up⟩
    have merged : (c.merge s.arbiter.policy.levelMap f).level =
        levelOf s.arbiter.policy.levelMap (c.evidence.add f) ∧
        (c.merge s.arbiter.policy.levelMap f).state = .pending :=
      reopened.elim Case.merge_pending fun ⟨held, new⟩ => (Case.merge_held held).2 new
    rw [merged.1]
    exact ⟨merged.2, caused⟩

end Sys2Proof.Machine
end

section
/-! PROOFS. The judgement of an alarm word: O52. -/

namespace Sys2Proof.Machine

/-! ### Indicators -/

theorem pairIndicators_bit (p : Pair) (i : Nat) :
    (pairIndicators p).getLsbD i = true ↔ i = 2 * p.val ∨ i = 2 * p.val + 1 := by
  have three : ∀ j, (3#16).getLsbD j = true ↔ j = 0 ∨ j = 1 := by
    intro j
    rcases j with _ | _ | j
    · decide
    · decide
    · refine iff_of_false (fun bit => ?_) (by omega)
      rw [BitVec.getLsbD_ofNat, Bool.and_eq_true, Nat.testBit_add, Nat.testBit_add] at bit
      simp at bit
  have bound := p.isLt
  rw [pairIndicators, BitVec.getLsbD_shiftLeft, Bool.and_eq_true, Bool.and_eq_true, three]
  simp only [decide_eq_true_eq, Bool.not_eq_true', decide_eq_false_iff_not]
  omega

theorem ownIndicators_bit (r : Station) (i : Nat) :
    r.ownIndicators.getLsbD i = true ↔ ∃ q ∈ r.parts, i = 2 * q.pair.val ∨ i = 2 * q.pair.val + 1 := by
  have fold : ∀ (l : List PairPart) (w : AlarmWord),
      (l.foldl (fun w q => w ||| pairIndicators q.pair) w).getLsbD i = true ↔
        w.getLsbD i = true ∨ ∃ q ∈ l, i = 2 * q.pair.val ∨ i = 2 * q.pair.val + 1 := by
    intro l
    induction l with
    | nil => simp
    | cons q l ih =>
      intro w
      rw [List.foldl_cons, ih, BitVec.getLsbD_or, Bool.or_eq_true, pairIndicators_bit]
      simp only [List.mem_cons, exists_eq_or_imp, or_assoc]
  rw [Station.ownIndicators, fold]
  simp

theorem indicator_small {q : Pair} {i : Nat} (own : i = 2 * q.val ∨ i = 2 * q.val + 1) : i < 16 := by omega

theorem watched_bit (r : Station) (i : Nat) : r.watched.getLsbD i = true ↔
    r.mask.getLsbD i = false ∧ ∃ q ∈ r.parts, i = 2 * q.pair.val ∨ i = 2 * q.pair.val + 1 := by
  rw [Station.watched, BitVec.getLsbD_and, Bool.and_eq_true, ownIndicators_bit, BitVec.getLsbD_not]
  constructor
  · rintro ⟨clear, own⟩
    simp only [Bool.and_eq_true, decide_eq_true_eq, Bool.not_eq_true'] at clear
    exact ⟨clear.2, own⟩
  · rintro ⟨clear, q, hq, own⟩
    simp only [clear, indicator_small own, decide_true, Bool.not_false, Bool.and_self, true_and]
    exact ⟨q, hq, own⟩

theorem equalIn_iff {m a b : AlarmWord} :
    equalIn m a b = true ↔ ∀ i, m.getLsbD i = true → a.getLsbD i = b.getLsbD i := by
  rw [equalIn, beq_iff_eq]
  constructor
  · intro zero i bit
    have same := congrArg (·.getLsbD i) zero
    simpa [bit] using same
  · intro same
    refine BitVec.eq_of_getLsbD_eq fun i _ => ?_
    rw [BitVec.getLsbD_and, BitVec.getLsbD_xor, BitVec.getLsbD_zero]
    cases bit : m.getLsbD i with
    | false => simp
    | true => simp [same i bit]

/-- The model's comparison of two words is the rule's (R103). -/
theorem watchEqual_iff {r : Station} {a b : AlarmWord} : equalIn r.watched a b = true ↔ watchEqual r a b := by
  rw [equalIn_iff]
  constructor
  · exact fun same q hq i own clear => same i ((watched_bit r i).mpr ⟨clear, q, hq, own⟩)
  · intro same i bit
    obtain ⟨clear, q, hq, own⟩ := (watched_bit r i).mp bit
    exact same q hq i own clear

theorem mem_pairsDiffering {r : Station} {a b : AlarmWord} {p : Pair} :
    p ∈ r.pairsDiffering a b ↔ watchedOn r p fun i => a.getLsbD i ≠ b.getLsbD i := by
  have bits (i : Nat) : (r.watched &&& pairIndicators p).getLsbD i = true ↔
      (∃ q ∈ r.parts, q.pair = p) ∧ (i = 2 * p.val ∨ i = 2 * p.val + 1) ∧ r.mask.getLsbD i = false := by
    rw [BitVec.getLsbD_and, Bool.and_eq_true, watched_bit, pairIndicators_bit]
    constructor
    · rintro ⟨⟨clear, q, hq, own⟩, here⟩
      exact ⟨⟨q, hq, by ext; omega⟩, here, clear⟩
    · rintro ⟨⟨q, hq, rfl⟩, here, clear⟩
      exact ⟨⟨clear, q, hq, here⟩, here⟩
  simp only [Station.pairsDiffering, List.mem_filter, mem_allPairs, true_and, Bool.not_eq_true', ← Bool.not_eq_true,
    equalIn_iff, bits, watchedOn, not_forall, exists_prop]
  constructor
  · rintro ⟨i, ⟨part, own, clear⟩, differ⟩
    exact ⟨part, i, own, clear, differ⟩
  · rintro ⟨part, i, own, clear, differ⟩
    exact ⟨i, ⟨part, own, clear⟩, differ⟩

theorem pairsDiffering_rising (r : Station) (a b : AlarmWord) :
    rising ((r.pairsDiffering a b).map (·.val)) = true := by
  have sorted : allPairs.Pairwise fun p q => p.val < q.val := by decide
  exact (rising_iff _).mpr (List.pairwise_map.mpr (sorted.filter _))

theorem mem_pairsWatched {r : Station} {p : Pair} : p ∈ r.pairsWatched ↔ watchedOn r p fun _ => True := by
  rw [Station.pairsWatched, mem_pairsDiffering]
  refine and_congr_right fun _ => exists_congr fun i => and_congr_right fun own => and_congr_right fun _ => ?_
  refine iff_of_true ?_ trivial
  have ones : (~~~0#16).getLsbD i = true := by rw [BitVec.getLsbD_not]; simp [indicator_small own]
  change (0#16).getLsbD i ≠ (~~~0#16).getLsbD i
  rw [ones, BitVec.getLsbD_zero]
  decide

/-! ### The three modes -/

theorem Station.judge_matching {r : Station} (matching : r.mode = .matching) (w : AlarmWord) : r.judge w =
    if equalIn r.watched w r.pattern then
      if r.matchSeen then
        if r.armed then ({ r with settled := some w, armed := false, latched := some w }, some r.pairsWatched)
        else ({ r with settled := some w }, none)
      else ({ r with settled := some w, matchSeen := true }, none)
    else ({ r with settled := some w, matchSeen := false, armed := true }, none) := by
  have mode : r.judge w = r.judgeMatch w := by
    unfold Station.judge
    rw [matching]
  rw [mode]
  rfl

/-- Settles O52: the model's comparisons are the rule's, branch by branch. -/
theorem watchJudgesWord : Obligations.WatchJudgesWord := by
  refine fun r w => ⟨fun off => ?_, fun event => ⟨fun first => ?_, fun v settled => ⟨fun equal => ?_, fun differ => ⟨fun c
    candidate again => ?_, fun fresh => ?_⟩⟩⟩, fun matching => ⟨fun differ => ?_, fun equal unseen => ?_,
    fun equal seen unarmed => ?_, fun equal seen armed => ?_⟩⟩
  · simp only [Station.judge, off]
  · simp only [Station.judge, event, Station.judgeEvent, first]
  · simp only [Station.judge, event, Station.judgeEvent, settled, watchEqual_iff.mpr equal, if_true]
  · refine ⟨r.pairsDiffering v w, ?_, pairsDiffering_rising r v w, fun p => mem_pairsDiffering⟩
    simp only [Station.judge, event, Station.judgeEvent, settled, mt watchEqual_iff.mp differ, if_false, candidate,
      Option.any_some, watchEqual_iff.mpr again, if_true, Bool.false_eq_true]
  · have none : (r.candidate.any fun c => equalIn r.watched w c) = false := by
      rw [Option.any_eq_false]
      exact fun c candidate => by simpa using mt watchEqual_iff.mp (fresh c candidate)
    simp only [Station.judge, event, Station.judgeEvent, settled, mt watchEqual_iff.mp differ, if_false, none,
      Bool.false_eq_true]
  · rw [Station.judge_matching matching, if_neg (mt watchEqual_iff.mp differ)]
  · rw [Station.judge_matching matching, if_pos (watchEqual_iff.mpr equal), if_neg (by simp [unseen])]
  · rw [Station.judge_matching matching, if_pos (watchEqual_iff.mpr equal), if_pos seen, if_neg (by simp [unarmed])]
  · have rises : rising (r.pairsWatched.map (·.val)) = true := pairsDiffering_rising r _ _
    refine ⟨r.pairsWatched, ?_, rises, fun p => mem_pairsWatched⟩
    rw [Station.judge_matching matching, if_pos (watchEqual_iff.mpr equal), if_pos seen, if_pos armed]

end Sys2Proof.Machine
end

section
/-! PROOFS. The reply timer on a first try and of a POLL: O41, O43. -/

namespace Sys2Proof.Machine

/-! ### A first try -/

theorem State.expireReply_idle {s : State} {p : Pair} (idle : (s.tc p).outstanding = none) : s.expireReply p = s := by
  unfold State.expireReply
  rw [idle]

theorem State.expireReply_out {s : State} {p : Pair} {o : Outstanding} (out : (s.tc p).outstanding = some o) :
    s.expireReply p = if o.telegram.isPoll then s.failPoll p o.telegram
      else if o.attempt == 1 then s.retry p o.telegram
      else s.failExchange p o.telegram := by
  unfold State.expireReply
  rw [out]

theorem Telegram.isPoll_false {t : Telegram} (h : t.submitter ≠ .sweep) : t.isPoll = false := by
  simpa using mt Telegram.isPoll_iff.mp h

theorem State.retry_eq {s : State} {t : Telegram} {x : Station} (found : s.station? t.dest = some x) (p : Pair) :
    s.retry p t = s.launch p t x 2 := by
  unfold State.retry
  rw [found]

/-- Settles O41: the telegram is launched again, or no timer runs. -/
theorem firstExpiryRetries : Obligations.FirstExpiryRetries := by
  refine fun p s => ⟨fun idle => congrArg Host.Outcome.next (State.expireReply_idle idle),
    fun o x out notPoll first found => congrArg Host.Outcome.next ?_⟩
  rw [State.expireReply_out out, Telegram.isPoll_false notPoll, if_neg (by decide), if_pos (by simp [first]),
    State.retry_eq found]
  rfl

/-! ### What a finding leaves in the Case List -/

/-- The open case holds the finding's evidence after it. -/
theorem findCase_evidence {s : State} {n : Nat} {p : Pair} {c : Case} (open_ : s.caseAt? n p = some c) (f : CauseFound)
    (round : Nat) : ∃ d ∈ (s.findCase n p f round).arbiter.cases,
      d.number = c.number ∧ d.station = n ∧ d.pair = p ∧ d.evidence = c.evidence.add f := by
  obtain ⟨hc, rfl, rfl⟩ := caseAt?_some open_
  have merged : (s.findCase c.station c.pair f round).arbiter.cases =
      s.arbiter.cases.map (·.on c.number (Case.merge s.arbiter.policy.levelMap f)) := by
    unfold State.findCase
    rw [open_]
    unfold State.mergeCase
    dsimp only
    split <;> rfl
  obtain ⟨number, station, pair⟩ := c.merge_sameCase s.arbiter.policy.levelMap f
  rw [merged]
  refine ⟨_, List.mem_map_of_mem hc, ?_⟩
  rw [Case.on_self rfl]
  exact ⟨number, station, pair, Case.merge_evidence _ _ _⟩

/-- A finding that has a case, or room for one, is in the Case List after it. -/
theorem findCase_found {s : State} {n : Nat} {p : Pair}
    (room : (∃ c ∈ s.arbiter.cases, c.station = n ∧ c.pair = p) ∨ s.arbiter.cases.length < 32) (f : CauseFound)
    (round : Nat) : ∃ d ∈ (s.findCase n p f round).arbiter.cases, d.station = n ∧ d.pair = p ∧
      ∃ e : Evidence, d.evidence = e.add f := by
  cases found : s.caseAt? n p with
  | some c =>
    obtain ⟨d, hd, -, station, pair, evidence⟩ := findCase_evidence found f round
    exact ⟨d, hd, station, pair, _, evidence⟩
  | none =>
    have absent := caseAt?_none.mp found
    have room := room.resolve_left fun ⟨c, hc, at_⟩ => absent c hc at_
    rw [findCase_opens absent room]
    exact ⟨_, mem_openCase.mpr (.inl rfl), rfl, rfl, _, rfl⟩

theorem Evidence.add_silent (e : Evidence) (k : TelegramKind) : (e.add (.silent k)).silent = some k := rfl

/-- A SILENT finding is found, and stays found while the cases keep their evidence and the causes of attention
stay. -/
theorem silentFound {s u t : State} {n : Nat} {p : Pair} {k : TelegramKind} {round : Nat}
    (cases : u.arbiter.cases = s.arbiter.cases)
    (evidence : ∀ d ∈ (u.findCase n p (.silent k) round).arbiter.cases, ∃ c ∈ t.arbiter.cases,
      c.station = d.station ∧ c.pair = d.pair ∧ c.evidence = d.evidence)
    (full : (u.findCase n p (.silent k) round).port.attention.caseFull = true → t.port.attention.caseFull = true) :
    SilentFound s t n p k := by
  refine ⟨fun room => ?_, fun absent many => full ?_⟩
  · rw [← cases] at room
    obtain ⟨d, hd, station, pair, e, added⟩ := findCase_found room (.silent k) round
    obtain ⟨c, hc, station', pair', evidence⟩ := evidence d hd
    exact ⟨c, hc, station'.trans station, pair'.trans pair, by rw [evidence, added, Evidence.add_silent]⟩
  · rw [findCase_full (cases ▸ absent) (cases ▸ many)]
    rfl

theorem silentFound_settle {s u : State} {n : Nat} {p : Pair} {k : TelegramKind}
    (cases : u.arbiter.cases = s.arbiter.cases) (round : Nat) :
    SilentFound s (u.findCase n p (.silent k) round).settle n p k := by
  have only := only_settle (u.findCase n p (.silent k) round)
  refine silentFound (round := round) cases (fun d hd => ⟨d, ?_, rfl, rfl, rfl⟩) fun full => ?_
  · rwa [only.arbiter_eq]
  · rwa [only.port_eq]

/-- A record after a finding is the record but for its pair parts. -/
theorem station?_findCase {s : State} {n m : Nat} {p : Pair} {f : CauseFound} {round : Nat} {x : Station}
    (found : s.station? m = some x) :
    ∃ y, (s.findCase n p f round).station? m = some y ∧ y = { x with parts := y.parts } := by
  have kept {t : State} (table : t.table = s.table) : ∃ y, t.station? m = some y ∧ y = { x with parts := y.parts } :=
    ⟨x, by rwa [State.station?, table], rfl⟩
  unfold State.findCase
  split
  · exact kept (only_mergeCase s _ f).table_eq
  · split
    · rw [openCase_eq]
      have opened : (((s.listed n p f round).refreshHealth n p).raise .caseNew).station? m =
          ((s.listed n p f round).refreshHealth n p).station? m := rfl
      have before : (s.listed n p f round).station? m = some x := found
      rw [opened, State.refreshHealth, station?_updatePart, before]
      split
      · exact ⟨_, rfl, rfl⟩
      · exact ⟨x, rfl, rfl⟩
    · exact kept rfl

/-! ### The reply timer of a POLL -/

theorem station?_of_table {s t : State} (table : t.table = s.table) (n : Nat) : t.station? n = s.station? n := by
  rw [State.station?, table, State.station?]

theorem station?_setSilent {s : State} {n : Nat} {x : Station} (found : s.station? n = some x) (v : Nat) :
    (s.setSilent n v).station? n = some { x with silent := v } := by
  have named := (station?_some found).2
  have test : (fun r : Station => (if r.number == n then { r with silent := v } else r).number == n) =
      fun r => r.number == n := by
    funext r
    split <;> rfl
  rw [State.station?] at found
  rw [State.station?, State.setSilent, State.updateStation, State.setTable_table, List.find?_map]
  simp only [Function.comp_def, test, found, Option.map_some, named, beq_self_eq_true, if_true]

/-- The state in which a POLL's expiry finds silence. -/
def State.counted (s : State) (p : Pair) (n v : Nat) : State := (s.endExchange p).setSilent n v

theorem failPoll_eq {s : State} {t : Telegram} {x : Station} (found : s.station? t.dest = some x) (p : Pair) :
    s.failPoll p t = (if (if x.silent < 3 then x.silent + 1 else 3) == 3
      then (s.counted p t.dest (if x.silent < 3 then x.silent + 1 else 3)).silentCase t.dest p .status
      else s.counted p t.dest (if x.silent < 3 then x.silent + 1 else 3)).settle := by
  have found' : (s.endExchange p).station? t.dest = some x := found
  unfold State.failPoll
  simp only [found']
  rfl

theorem silentCase_eq {s : State} {n : Nat} {x : Station} (found : s.station? n = some x) (p : Pair)
    (k : TelegramKind) : s.silentCase n p k = s.findCase n p (.silent k) (s.sc p).roundCounter := by
  unfold State.silentCase
  rw [found]
  rfl

theorem silent_count (v : Nat) : (if v < 3 then v + 1 else 3) = min (v + 1) 3 := by
  split <;> omega

theorem counted_arbiter (s : State) (p : Pair) (n v : Nat) : (s.counted p n v).arbiter = s.arbiter := rfl

theorem counted_only (s : State) (p : Pair) (n v : Nat) :
    Only [.port, .table, .telegrams, .sweeper, .arbiter] s (s.counted p n v) :=
  ((only_setTc s p _).up (m := [.port, .table, .telegrams, .sweeper, .arbiter])).trans (only_setSilent _ n v).up

/-- Settles O43: the count is written, and at 3 the finding is made. -/
theorem pollExpiryCountsSilence : Obligations.PollExpiryCountsSilence := by
  intro p o x s out poll found
  have expires : s.expireReply p = s.failPoll p o.telegram := by
    rw [State.expireReply_out out, if_pos (Telegram.isPoll_iff.mpr poll)]
  have counted : (s.counted p o.telegram.dest (min (x.silent + 1) 3)).station? o.telegram.dest = _ :=
    station?_setSilent (s := s.endExchange p) found (min (x.silent + 1) 3)
  have only := counted_only s p o.telegram.dest (min (x.silent + 1) 3)
  rw [failPoll_eq found, silent_count] at expires
  by_cases third : 2 ≤ x.silent
  · rw [if_pos (by simpa using third), silentCase_eq counted] at expires
    obtain ⟨y, station, same⟩ := station?_findCase (p := p) (f := .silent .status) (n := o.telegram.dest)
      (round := ((s.counted p o.telegram.dest (min (x.silent + 1) 3)).sc p).roundCounter) counted
    refine ⟨_, y, congrArg Host.Outcome.next expires, ?_, by rw [same], fun _ => ?_, fun less => by omega, ?_⟩
    · rw [station?_of_table (only_settle _).table_eq]
      exact station
    · exact silentFound_settle (congrArg CaseArbiter.cases (counted_arbiter s p _ _)) _
    · exact (only.trans (only_findCase _ _ p _ _).up).trans (only_settle _).up
  · rw [if_neg (by simp; omega)] at expires
    refine ⟨_, _, congrArg Host.Outcome.next expires, (station?_of_table (only_settle _).table_eq _).trans counted, rfl,
      fun many => absurd many third, fun _ => ⟨(only_settle _).arbiter_eq, (only_settle _).port_eq⟩,
      only.trans (only_settle _).up⟩

end Sys2Proof.Machine
end

section
/-! PROOFS. The start of a sweep: O44. -/

namespace Sys2Proof.Machine

/-! ### Poll pairs -/

theorem Station.part?_of_mem {s : State} (parts : s.partsLaw = true) {r : Station} (member : r ∈ s.table.stations)
    {q : PairPart} (part : q ∈ r.parts) : r.part? q.pair = some q := by
  have sorted := partsLaw_iff.mp parts r member
  rw [Station.partPairs, List.map_map, List.pairwise_map] at sorted
  exact find_of_mem PairPart.pair (sorted.imp fun lt => Fin.ne_of_lt lt) part

theorem Station.part?_some {r : Station} {p : Pair} {q : PairPart} (h : r.part? p = some q) : q ∈ r.parts ∧ q.pair = p :=
  ⟨List.mem_of_find?_eq_some h, by simpa using List.find?_some h⟩

/-- The connection of a branch's unit on a pair, as the records hold it. -/
theorem connectionOf_iff {s : State} (law : s.geometryLaw = true) (parts : s.partsLaw = true) {b : Branch} {p : Pair}
    {v : Connection} : s.connectionOf b p = some v ↔
      ∃ u ∈ s.table.stations, u.kind = .branching b ∧ ∃ q ∈ u.parts, q.pair = p ∧ q.connection = some v := by
  constructor
  · intro h
    unfold State.connectionOf at h
    split at h
    next => cases h
    next u found =>
      obtain ⟨member, kind⟩ := unit?_some found
      split at h
      next => cases h
      next q part => exact ⟨u, member, kind, q, (Station.part?_some part).1, (Station.part?_some part).2, h⟩
  · rintro ⟨u, member, kind, q, part, rfl, connection⟩
    unfold State.connectionOf
    rw [unit?_of_mem law member kind]
    dsimp only
    rw [Station.part?_of_mem parts member part]
    exact connection

theorem linkUp_iff {s : State} (law : s.geometryLaw = true) (parts : s.partsLaw = true) {p : Pair} {r : Station} :
    s.linkUp p r ↔ ∀ b, r.segment = .branch b → s.connectionOf b p = some .connected := by
  simp only [connectionOf_iff law parts]
  rfl

theorem canPoll_iff {s : State} (law : s.geometryLaw = true) (parts : s.partsLaw = true) {p : Pair} {r : Station} :
    s.canPoll r p = true ↔ s.reachesToPoll p r := by
  have driving : s.driving p = true ↔ (s.sc p).role = .driving := by simp [State.driving]
  unfold State.canPoll State.reachesToPoll
  rw [Bool.and_eq_true, Bool.and_eq_true, driving, reachedBy_iff, linkUp_iff law parts, and_assoc]
  refine and_congr_right fun _ => and_congr_right fun _ => ?_
  cases r.segment with
  | trunk => simp
  | branch b => simp

/-- The poll pair of the model is that of the rule (R101). -/
theorem pollPair?_iff {s : State} (law : s.geometryLaw = true) (parts : s.partsLaw = true) {p : Pair} {r : Station} :
    s.pollPair? r = some p ↔ s.polls p r := by
  have sorted : allPairs.Pairwise (· < ·) := by decide
  unfold State.pollPair? State.polls
  rw [List.find?_eq_some_iff_append, canPoll_iff law parts]
  refine and_congr_right fun _ => ?_
  constructor
  · rintro ⟨before, after, split, none⟩ q lower
    have member : q ∈ before := by
      have all := mem_allPairs q
      rw [split] at sorted all
      obtain ⟨-, tail, -⟩ := List.pairwise_append.mp sorted
      obtain front | rear := List.mem_append.mp all
      · exact front
      · obtain rfl | rear := List.mem_cons.mp rear
        · exact absurd lower (lt_irrefl _)
        · exact absurd ((List.pairwise_cons.mp tail).1 q rear) (lt_asymm lower)
    rw [← canPoll_iff law parts]
    simpa using none q member
  · intro none
    obtain ⟨before, after, split⟩ := List.append_of_mem (mem_allPairs p)
    refine ⟨before, after, split, fun q hq => ?_⟩
    rw [split] at sorted
    have lower := (List.pairwise_append.mp sorted).2.2 q hq p (.head _)
    simpa using mt (canPoll_iff law parts).mp (none q lower)

theorem pollPair?_congr {s t : State} (table : t.table = s.table) (survey : t.survey = s.survey) (r : Station) :
    t.pollPair? r = s.pollPair? r := by
  have same : t.canPoll r = s.canPoll r := by
    funext p
    simp only [State.canPoll, State.driving, State.sc, survey, State.connectionOf, State.unit?, table]
  rw [State.pollPair?, same, State.pollPair?]

/-! ### The sweep while the pairs are pumped -/

/-- What pumping keeps of the sweep: all but the cursors. -/
def PollSweeper.agrees (v w : PollSweeper) : Prop :=
  w.pollTimer = v.pollTimer ∧ w.running = v.running ∧ w.sweepPending = v.sweepPending

theorem agrees_sendHead (s : State) (p : Pair) : (s.sendHead p).sweeper = s.sweeper := (only_sendHead s p).sweeper_eq

theorem advanceCursor_sweeper (s : State) (p : Pair) :
    (s.advanceCursor p).sweeper = s.sweeper ∨ s.driving p = true ∧ ∃ v, (s.advanceCursor p).sweeper =
      { s.sweeper with cursors := s.sweeper.cursors.set p v } := by
  unfold State.advanceCursor
  split
  next free =>
    have drives : s.driving p = true := by
      simp only [State.cursorFree, Bool.and_eq_true] at free
      exact free.1.1.1.2
    split
    · exact .inr ⟨drives, _, rfl⟩
    · exact .inr ⟨drives, _, rfl⟩
  · exact .inl rfl

theorem pumpAll_agrees {v : PollSweeper} {s : State} (h : v.agrees s.sweeper) : v.agrees s.pumpAll.sweeper := by
  refine pumpAll_keeps (I := fun s => v.agrees s.sweeper) (fun _ _ h => h) (fun s p h => ?_) (fun s p h => ?_) h
  · rwa [agrees_sendHead]
  · obtain same | ⟨-, c, same⟩ := advanceCursor_sweeper s p
    · rwa [same]
    · rw [same]
      exact h

/-- A pair that does not drive keeps its cursor. -/
theorem pumpAll_idle {s : State} {p : Pair} (idle : s.driving p = false) :
    s.pumpAll.sweeper.cursors.get p = s.sweeper.cursors.get p := by
  have driving {t : State} (survey : t.survey = s.survey) (q : Pair) : t.driving q = s.driving q :=
    driving_of_survey survey q
  refine (pumpAll_keeps (I := fun t => t.survey = s.survey ∧ t.sweeper.cursors.get p = s.sweeper.cursors.get p)
    (fun _ _ h => h) (fun t q h => ?_) (fun t q h => ?_) ⟨rfl, rfl⟩).2
  · exact ⟨(only_sendHead t q).survey_eq.trans h.1, (congrArg (·.cursors.get p) (agrees_sendHead t q)).trans h.2⟩
  · refine ⟨(only_advanceCursor t q).survey_eq.trans h.1, ?_⟩
    obtain same | ⟨drives, c, same⟩ := advanceCursor_sweeper t q
    · rw [same]
      exact h.2
    · rw [same]
      refine Eq.trans ?_ h.2
      change (t.sweeper.cursors.set q c).get p = _
      rw [Oct.get_set]
      refine if_neg fun e => ?_
      rw [driving h.1, ← e, idle] at drives
      cases drives

/-! ### The close of a sweep's start -/

theorem stopIfOver_sweeper (s : State) : s.stopIfOver.sweeper =
    { s.sweeper with running := s.sweeper.running && !allPairs.all s.cursorPassed } := by
  unfold State.stopIfOver
  split
  next ended =>
    obtain ⟨-, passed⟩ := Bool.and_eq_true_iff.mp ended
    rw [passed, Bool.not_true, Bool.and_false]
    rfl
  next on =>
    have same : (s.sweeper.running && !allPairs.all s.cursorPassed) = s.sweeper.running := by
      rw [State.sweepOver, Bool.and_eq_true, not_and] at on
      cases running : s.sweeper.running
      · rfl
      · simp [on running]
    rw [same]

/-- A sweep started in place of the pending one (R100). -/
def State.resweep (s : State) : State := (s.setSweeper { s.sweeper with sweepPending := false }).startSweep

theorem resweep_sweeper (s : State) : s.resweep.sweeper =
    { s.sweeper with running := true, sweepPending := false, cursors := Oct.fill 0 } := rfl

theorem resweep_timer (s : State) : s.resweep.sweeper.pollTimer = s.sweeper.pollTimer := rfl

theorem resweep_survey (s : State) : s.resweep.survey = s.survey := rfl

/-- The state that the close of an event stops when its sweep is over. -/
def State.settling (s : State) : State :=
  if s.pumpAll.sweepOver && s.pumpAll.sweeper.sweepPending then s.pumpAll.resweep.pumpAll else s.pumpAll

theorem settle_eq (s : State) : s.settle = s.settling.stopIfOver := by
  unfold State.settle State.settling
  dsimp only
  split <;> rfl

/-- A running sweep: what the close of the event leaves of it. -/
structure State.Sweeping (s t : State) : Prop where
  timer : t.sweeper.pollTimer = s.sweeper.pollTimer
  running : t.sweeper.running = true
  pending : s.sweeper.sweepPending = false → t.sweeper.sweepPending = false
  idle : ∀ p, s.driving p = false → t.sweeper.cursors.get p = 0

theorem sweeping_pumpAll {s : State} (running : s.sweeper.running = true) (start : ∀ p, s.sweeper.cursors.get p = 0) :
    s.Sweeping s.pumpAll := by
  obtain ⟨timer, runs, pending⟩ := pumpAll_agrees (v := s.sweeper) (s := s) ⟨rfl, rfl, rfl⟩
  exact ⟨timer, runs.trans running, pending.trans, fun p idle => (pumpAll_idle idle).trans (start p)⟩

theorem settling_sweeping {s : State} (running : s.sweeper.running = true)
    (start : ∀ p, s.sweeper.cursors.get p = 0) : s.Sweeping s.settling := by
  have first := sweeping_pumpAll running start
  unfold State.settling
  split
  · have second : s.pumpAll.resweep.Sweeping s.pumpAll.resweep.pumpAll := by
      refine sweeping_pumpAll ?_ fun p => ?_
      · rw [resweep_sweeper]
      · rw [resweep_sweeper]
        exact Oct.get_fill 0 p
    have survey := (resweep_survey s.pumpAll).trans (only_pumpAll s).survey_eq
    exact ⟨(second.timer.trans (resweep_timer _)).trans first.timer, second.running,
      fun _ => second.pending (by rw [resweep_sweeper]),
      fun p idle => second.idle p ((driving_of_survey survey p).trans idle)⟩
  · exact first

/-- A sweep that gives way to none is pumped once. -/
theorem settling_once {s : State} (clear : s.sweeper.sweepPending = false) : s.settling = s.pumpAll := by
  obtain ⟨-, -, pending⟩ := pumpAll_agrees (v := s.sweeper) (s := s) ⟨rfl, rfl, rfl⟩
  refine if_neg ?_
  rw [pending, clear, Bool.and_false]
  decide

theorem cursorPassed_iff {s : State} {p : Pair} : s.cursorPassed p = true ↔
    (s.sc p).role = .driving → ∀ r ∈ s.table.stations, r.number < s.sweeper.cursors.get p := by
  simp only [State.cursorPassed, State.driving, Bool.or_eq_true, Bool.not_eq_true', beq_eq_false_iff_ne, ne_eq,
    List.all_eq_true, decide_eq_true_eq]
  tauto

/-! ### One pair pumped -/

theorem sendHead_tc_other {s : State} {p q : Pair} (other : q ≠ p) : (s.sendHead p).tc q = s.tc q := by
  unfold State.sendHead
  dsimp only
  split
  · split
    · unfold State.launch
      simp only [tc_setTc, other, if_false]
    · simp only [tc_setTc, other, if_false]
  · rfl

theorem advanceCursor_other {s : State} {p q : Pair} (other : q ≠ p) : (s.advanceCursor p).tc q = s.tc q ∧
    (s.advanceCursor p).sweeper.cursors.get q = s.sweeper.cursors.get q := by
  unfold State.advanceCursor
  split
  · split
    · constructor
      · change ((s.setTc p _).tc q) = _
        rw [tc_setTc, if_neg other]
      · change (s.sweeper.cursors.set p _).get q = _
        rw [Oct.get_set, if_neg other]
    · refine ⟨rfl, ?_⟩
      change (s.sweeper.cursors.set p _).get q = _
      rw [Oct.get_set, if_neg other]
  · exact ⟨rfl, rfl⟩

/-- The second state has the first's records, surveys and sweep, and its controller and cursor of one pair. -/
structure State.SamePair (s t : State) (p : Pair) : Prop where
  table : t.table = s.table
  survey : t.survey = s.survey
  sweep : s.sweeper.agrees t.sweeper
  tc : t.tc p = s.tc p
  cursor : t.sweeper.cursors.get p = s.sweeper.cursors.get p

theorem State.SamePair.fill {s t : State} {p q : Pair} (other : p ≠ q) (h : s.SamePair t p) :
    s.SamePair (t.fillPair q) p :=
  ⟨h.table, h.survey, h.sweep, by rw [State.fillPair, tc_setTc, if_neg other, h.tc], h.cursor⟩

theorem State.SamePair.send {s t : State} {p q : Pair} (other : p ≠ q) (h : s.SamePair t p) :
    s.SamePair (t.sendHead q) p := by
  have only := only_sendHead t q
  refine ⟨only.table_eq.trans h.table, only.survey_eq.trans h.survey, ?_, (sendHead_tc_other other).trans h.tc, ?_⟩
  · rw [agrees_sendHead]
    exact h.sweep
  · rw [agrees_sendHead]
    exact h.cursor

theorem State.SamePair.advance {s t : State} {p q : Pair} (other : p ≠ q) (h : s.SamePair t p) :
    s.SamePair (t.advanceCursor q) p := by
  have only := only_advanceCursor t q
  obtain ⟨tc, cursor⟩ := advanceCursor_other (s := t) other
  refine ⟨only.table_eq.trans h.table, only.survey_eq.trans h.survey, ?_, tc.trans h.tc, cursor.trans h.cursor⟩
  obtain same | ⟨-, c, same⟩ := advanceCursor_sweeper t q
  · rw [same]
    exact h.sweep
  · rw [same]
    exact h.sweep

theorem State.SamePair.pump {s t : State} {p q : Pair} (other : p ≠ q) (h : s.SamePair t p) : s.SamePair (t.pump q) p :=
  (((((((h.fill other).send other).fill other).advance other).send other).fill other).advance other)

theorem State.SamePair.pumps {s : State} {p : Pair} : ∀ {l : List Pair} {t : State}, p ∉ l → s.SamePair t p →
    s.SamePair (l.foldl State.pump t) p
  | [], _, _, h => h
  | q :: l, t, absent, h => by
    have other : p ≠ q := fun same => absent (same ▸ List.mem_cons_self)
    exact State.SamePair.pumps (l := l) (fun member => absent (List.mem_cons_of_mem _ member)) (h.pump other)

/-- What is kept by the pumping of other pairs and comes about when the pair is pumped stands after all are. -/
theorem pumpAll_pair {s : State} {p : Pair} : ∃ t, s.SamePair t p ∧ (t.pump p).SamePair s.pumpAll p := by
  have nodup : allPairs.Nodup := by decide
  obtain ⟨before, after, split⟩ := List.append_of_mem (mem_allPairs p)
  rw [split] at nodup
  have absent := List.nodup_middle.mp nodup
  obtain ⟨notIn, -⟩ := List.nodup_cons.mp absent
  rw [List.mem_append, not_or] at notIn
  refine ⟨before.foldl State.pump s, State.SamePair.pumps notIn.1 ⟨rfl, rfl, ⟨rfl, rfl, rfl⟩, rfl, rfl⟩, ?_⟩
  rw [State.pumpAll, split, List.foldl_append, List.foldl_cons]
  exact State.SamePair.pumps notIn.2 ⟨rfl, rfl, ⟨rfl, rfl, rfl⟩, rfl, rfl⟩

/-- The pair waits to queue a POLL: its sweep runs, and its controller has room for one. -/
structure State.Awaiting (s t : State) (p : Pair) : Prop where
  table : t.table = s.table
  survey : t.survey = s.survey
  running : t.sweeper.running = true
  room : (t.tc p).roomForPoll
  cursor : t.sweeper.cursors.get p = 0

theorem fill_of_empty {c : TelegramController} (empty : c.waitLine = []) : c.fill = c := by
  unfold TelegramController.fill
  rw [empty]
  cases c
  cases empty
  rfl

theorem State.Awaiting.fill {s t : State} {p : Pair} (h : s.Awaiting t p) : s.Awaiting (t.fillPair p) p := by
  obtain ⟨-, -, empty⟩ := h.room
  refine ⟨h.table, h.survey, h.running, ?_, h.cursor⟩
  rw [State.fillPair, tc_setTc, if_pos rfl, fill_of_empty empty]
  exact h.room

/-- Sending takes at most the head of the queue. -/
theorem sendHead_queue (s : State) (p : Pair) : ((s.sendHead p).tc p).waitLine = (s.tc p).waitLine ∧
    ((s.sendHead p).tc p).queue.Sublist (s.tc p).queue := by
  unfold State.sendHead
  dsimp only
  split
  next t rest drives none queue =>
    rw [queue]
    split
    · unfold State.launch
      simp only [tc_setTc, if_true]
      exact ⟨trivial, List.sublist_cons_self _ _⟩
    · simp only [tc_setTc, if_true]
      exact ⟨trivial, List.sublist_cons_self _ _⟩
  next => exact ⟨rfl, List.Sublist.refl _⟩

theorem State.Awaiting.send {s t : State} {p : Pair} (h : s.Awaiting t p) : s.Awaiting (t.sendHead p) p := by
  obtain ⟨noPoll, few, empty⟩ := h.room
  obtain ⟨waits, queue⟩ := sendHead_queue t p
  have only := only_sendHead t p
  refine ⟨only.table_eq.trans h.table, only.survey_eq.trans h.survey, ?_, ⟨fun w hw => noPoll w (queue.mem hw),
    queue.length_le.trans_lt few, waits.trans empty⟩, ?_⟩
  · rw [agrees_sendHead]
    exact h.running
  · rw [agrees_sendHead]
    exact h.cursor

theorem State.Awaiting.free {s t : State} {p : Pair} (h : s.Awaiting t p) (drives : s.driving p = true) :
    t.cursorFree p = true := by
  obtain ⟨noPoll, few, empty⟩ := h.room
  have noPoll : (t.tc p).queue.any (·.isPoll) = false := by
    rw [List.any_eq_false]
    exact fun w hw => by simpa using mt Telegram.isPoll_iff.mp (noPoll w hw)
  have room : decide ((t.tc p).queue.length < Config.maxQueued) = true := decide_eq_true few
  simp only [State.cursorFree, h.running, driving_of_survey h.survey, drives, noPoll, empty, room]
  rfl

/-- The first of a sorted list that meets a test is the one of the lowest number. -/
theorem find?_least {l : List Station} (sorted : l.Pairwise fun r q => r.number < q.number) {f : Station → Bool}
    {r : Station} (member : r ∈ l) (meets : f r = true) (least : ∀ q ∈ l, f q = true → r.number ≤ q.number) :
    l.find? f = some r := by
  obtain ⟨before, after, split⟩ := List.append_of_mem member
  rw [List.find?_eq_some_iff_append]
  refine ⟨meets, before, after, split, fun q hq => ?_⟩
  rw [split] at sorted
  have lower := (List.pairwise_append.mp sorted).2.2 q hq r (.head _)
  have apart : ¬f q = true := fun on => absurd (least q (split ▸ List.mem_append_left _ hq) on) (by omega)
  simpa using apart

/-- The POLL of a station. -/
def pollOf (n : Nat) : Telegram := { dest := n, kind := .status, submitter := .sweep }

/-- The pair has its first POLL, and its cursor stands beyond the station. -/
structure State.Polled (s t : State) (p : Pair) (r : Station) : Prop where
  table : t.table = s.table
  empty : (t.tc p).waitLine = []
  bears : (t.tc p).bears (pollOf r.number)
  beyond : r.number < t.sweeper.cursors.get p

theorem State.Polled.fill {s t : State} {p : Pair} {r : Station} (h : s.Polled t p r) : s.Polled (t.fillPair p) p r := by
  have same : (t.fillPair p).tc p = t.tc p := by rw [State.fillPair, tc_setTc, if_pos rfl, fill_of_empty h.empty]
  exact ⟨h.table, same ▸ h.empty, same ▸ h.bears, h.beyond⟩

theorem State.Polled.send {s t : State} {p : Pair} {r : Station} (member : r ∈ s.table.stations)
    (h : s.Polled t p r) : s.Polled (t.sendHead p) p r := by
  refine ⟨(only_sendHead t p).table_eq.trans h.table, (sendHead_queue t p).1.trans h.empty,
    bears_sent ⟨r, h.table ▸ member, rfl⟩ h.bears, ?_⟩
  rw [agrees_sendHead]
  exact h.beyond

theorem advanceCursor_found {s : State} {p : Pair} {r : Station} (free : s.cursorFree p = true)
    (found : (s.table.stations.find? fun r =>
      decide (s.sweeper.cursors.get p ≤ r.number) && s.pollPair? r == some p) = some r) :
    s.advanceCursor p = (s.setTc p { s.tc p with queue := enqueue (pollOf r.number) (s.tc p).queue }).setCursor p
      (r.number + 1) := by
  unfold State.advanceCursor
  rw [if_pos free, found]
  rfl

theorem advanceCursor_past {s : State} {p : Pair} (free : s.cursorFree p = true)
    (none : (s.table.stations.find? fun r =>
      decide (s.sweeper.cursors.get p ≤ r.number) && s.pollPair? r == some p) = none) :
    s.advanceCursor p = s.setCursor p 256 := by
  unfold State.advanceCursor
  rw [if_pos free, none]

theorem setCursor_get (s : State) (p : Pair) (v : Nat) : (s.setCursor p v).sweeper.cursors.get p = v :=
  Oct.get_set_self _ _ _

/-- A cursor that advances does not come back before a station. -/
theorem advanceCursor_beyond {s : State} {p : Pair} {n : Nat} (bound : n < 256) (h : n < s.sweeper.cursors.get p) :
    n < (s.advanceCursor p).sweeper.cursors.get p := by
  cases free : s.cursorFree p with
  | false =>
    rw [State.advanceCursor, free]
    exact h
  | true =>
    cases found : s.table.stations.find? fun r =>
        decide (s.sweeper.cursors.get p ≤ r.number) && s.pollPair? r == some p with
    | none =>
      rw [advanceCursor_past free found, setCursor_get]
      exact bound
    | some r =>
      have further : s.sweeper.cursors.get p ≤ r.number := by
        have meets := List.find?_some found
        rw [Bool.and_eq_true, decide_eq_true_eq] at meets
        exact meets.1
      rw [advanceCursor_found free found, setCursor_get]
      omega

theorem advanceCursor_waitLine (s : State) (p : Pair) : ((s.advanceCursor p).tc p).waitLine = (s.tc p).waitLine := by
  cases free : s.cursorFree p with
  | false => rw [State.advanceCursor, free]; rfl
  | true =>
    cases found : s.table.stations.find? fun r =>
        decide (s.sweeper.cursors.get p ≤ r.number) && s.pollPair? r == some p with
    | none => rw [advanceCursor_past free found]; rfl
    | some r =>
      rw [advanceCursor_found free found]
      change ((s.setTc p _).tc p).waitLine = _
      rw [tc_setTc, if_pos rfl]

theorem State.Polled.advance {s t : State} {p : Pair} {r : Station} (bound : r.number < 256) (h : s.Polled t p r) :
    s.Polled (t.advanceCursor p) p r :=
  ⟨(only_advanceCursor t p).table_eq.trans h.table, (advanceCursor_waitLine t p).trans h.empty, bears_advanced h.bears,
    advanceCursor_beyond bound h.beyond⟩

/-- The pair polls no station, and its cursor has passed. -/
structure State.Past (s t : State) (p : Pair) : Prop where
  table : t.table = s.table
  survey : t.survey = s.survey
  cursor : t.sweeper.cursors.get p = 256

theorem poll_none {s t : State} {p : Pair} (table : t.table = s.table) (survey : t.survey = s.survey)
    (none : ∀ r ∈ s.table.stations, s.pollPair? r ≠ some p) (v : Nat) :
    (t.table.stations.find? fun r => decide (v ≤ r.number) && t.pollPair? r == some p) = .none := by
  rw [List.find?_eq_none, table]
  intro r hr
  rw [pollPair?_congr table survey, Bool.and_eq_true, beq_iff_eq]
  exact fun polled => none r hr polled.2

theorem State.Past.advance {s t : State} {p : Pair} (none : ∀ r ∈ s.table.stations, s.pollPair? r ≠ some p)
    (h : s.Past t p) : s.Past (t.advanceCursor p) p := by
  have only := only_advanceCursor t p
  refine ⟨only.table_eq.trans h.table, only.survey_eq.trans h.survey, ?_⟩
  cases free : t.cursorFree p with
  | false =>
    rw [State.advanceCursor, free]
    exact h.cursor
  | true => rw [advanceCursor_past free (poll_none h.table h.survey none _), setCursor_get]

theorem State.Past.send {s t : State} {p : Pair} (h : s.Past t p) : s.Past (t.sendHead p) p := by
  have only := only_sendHead t p
  exact ⟨only.table_eq.trans h.table, only.survey_eq.trans h.survey, by rw [agrees_sendHead]; exact h.cursor⟩

theorem State.Past.fill {s t : State} {p : Pair} (h : s.Past t p) : s.Past (t.fillPair p) p :=
  ⟨h.table, h.survey, h.cursor⟩

/-- A pair that awaits its POLL queues the one to the first station that it polls. -/
theorem State.Awaiting.polled {s t : State} {p : Pair} (h : s.Awaiting t p) (keys : s.keyLaw = true)
    (drives : s.driving p = true) {r : Station} (member : r ∈ s.table.stations) (polls : s.pollPair? r = some p)
    (least : ∀ q ∈ s.table.stations, s.pollPair? q = some p → r.number ≤ q.number) : s.Polled (t.pump p) p r := by
  obtain ⟨sorted, below, -⟩ := keyLaw_iff.mp keys
  have bound := below r member
  have ready := h.fill.send.fill
  have found : (((t.fillPair p).sendHead p).fillPair p).table.stations.find? (fun q =>
      decide ((((t.fillPair p).sendHead p).fillPair p).sweeper.cursors.get p ≤ q.number) &&
        (((t.fillPair p).sendHead p).fillPair p).pollPair? q == some p) = some r := by
    simp only [ready.cursor, pollPair?_congr ready.table ready.survey, ready.table]
    refine find?_least sorted member (by simp [polls]) fun q hq on => least q hq ?_
    simpa using on
  have placed : s.Polled ((((t.fillPair p).sendHead p).fillPair p).advanceCursor p) p r := by
    refine ⟨(only_advanceCursor _ p).table_eq.trans ready.table, (advanceCursor_waitLine _ p).trans ready.room.2.2, ?_, ?_⟩
    · rw [advanceCursor_found (ready.free drives) found]
      change (State.tc (State.setTc _ p _) p).bears _
      rw [tc_setTc, if_pos rfl]
      exact .inl (.inl (mem_enqueue.mpr (.inl rfl)))
    · rw [advanceCursor_found (ready.free drives) found, setCursor_get]
      exact Nat.lt_succ_self _
  exact (placed.send member).fill.advance bound

/-- A pair that awaits its POLL and polls no station passes. -/
theorem State.Awaiting.past {s t : State} {p : Pair} (h : s.Awaiting t p) (drives : s.driving p = true)
    (none : ∀ r ∈ s.table.stations, s.pollPair? r ≠ some p) : s.Past (t.pump p) p := by
  have ready := h.fill.send.fill
  have only := only_advanceCursor (((t.fillPair p).sendHead p).fillPair p) p
  have past : s.Past ((((t.fillPair p).sendHead p).fillPair p).advanceCursor p) p := by
    refine ⟨only.table_eq.trans ready.table, only.survey_eq.trans ready.survey, ?_⟩
    rw [advanceCursor_past (ready.free drives) (poll_none ready.table ready.survey none _), setCursor_get]
  exact past.send.fill.advance none

/-! ### The poll timer -/

/-- A sweep that the poll timer starts, before the close of the event (R100). -/
def State.sweepStarted (s : State) : State :=
  (s.setSweeper { s.sweeper with pollTimer := s.line.pollPeriod }).startSweep

theorem sweepStarted_sweeper (s : State) : s.sweepStarted.sweeper =
    { s.sweeper with pollTimer := s.line.pollPeriod, running := true, cursors := Oct.fill 0 } := rfl

theorem sweepStarted_only (s : State) : Only [.sweeper] s s.sweepStarted :=
  (only_setSweeper s _).trans (only_startSweep _)

theorem expirePoll_running {s : State} (running : s.sweeper.running = true) : s.expirePoll =
    s.setSweeper { s.sweeper with pollTimer := s.line.pollPeriod, sweepPending := true } := by
  unfold State.expirePoll
  exact if_pos running

theorem expirePoll_still {s : State} (still : s.sweeper.running = false) :
    s.expirePoll = s.sweepStarted.settling.stopIfOver := by
  rw [← settle_eq]
  unfold State.expirePoll
  refine if_neg ?_
  change ¬s.sweeper.running = true
  rw [still]
  decide

/-- What the first pumping of a sweep makes of a pair that can take a POLL. -/
theorem sweepStarted_pair {s : State} {p : Pair} (room : (s.tc p).roomForPoll) :
    ∃ t, s.Awaiting t p ∧ (t.pump p).SamePair s.sweepStarted.pumpAll p := by
  obtain ⟨t, before, after⟩ := pumpAll_pair (s := s.sweepStarted) (p := p)
  obtain ⟨-, running, -⟩ := before.sweep
  refine ⟨t, ⟨before.table, before.survey, running, ?_, ?_⟩, after⟩
  · rw [before.tc]
    exact room
  · rw [before.cursor]
    exact Oct.get_fill 0 p

theorem only_settling (s : State) : Only [.telegrams, .sweeper] s s.settling := by
  unfold State.settling
  split
  · refine (only_pumpAll s).trans (Only.trans ?_ (only_pumpAll _))
    exact ((only_setSweeper _ _).trans (only_startSweep _)).up
  · exact only_pumpAll s

theorem running_iff {s : State} : (!allPairs.all s.cursorPassed) = true ↔
    ∃ p, (s.sc p).role = .driving ∧ ∃ r ∈ s.table.stations, s.sweeper.cursors.get p ≤ r.number := by
  simp only [Bool.not_eq_true', List.all_eq_false, mem_allPairs, true_and, cursorPassed_iff, not_forall, exists_prop,
    Nat.not_lt]

/-- Settles O44: the sweep starts or is pending; what the close leaves of it is read off the pumping of each pair. -/
theorem pollTimerStartsSweep : Obligations.PollTimerStartsSweep := by
  refine fun s => ⟨fun running => congrArg Host.Outcome.next (expirePoll_running running), fun still =>
    ⟨s.expirePoll, rfl, only_expirePoll s, ?_⟩⟩
  have sweeping : s.sweepStarted.Sweeping s.sweepStarted.settling := by
    refine settling_sweeping ?_ fun p => ?_
    · rw [sweepStarted_sweeper]
    · rw [sweepStarted_sweeper]
      exact Oct.get_fill 0 p
  have started := sweepStarted_only s
  have only := only_settling s.sweepStarted
  have table := only.table_eq.trans started.table_eq
  have survey := only.survey_eq.trans started.survey_eq
  have clear (law : s.flagLaw = true) : s.sweepStarted.sweeper.sweepPending = false := by
    have flag := (flagLaw_iff.mp law).2
    exact flag.resolve_left (by simp [still])
  have tc : s.expirePoll.tc = s.sweepStarted.settling.tc := by
    rw [expirePoll_still still]
    funext p
    rw [State.tc, (only_stopIfOver _).telegrams_eq]
    rfl
  have cursors : s.expirePoll.sweeper.cursors = s.sweepStarted.settling.sweeper.cursors := by
    rw [expirePoll_still still, stopIfOver_sweeper]
  have timer : s.expirePoll.sweeper.pollTimer = s.sweepStarted.settling.sweeper.pollTimer := by
    rw [expirePoll_still still, stopIfOver_sweeper]
  have pending : s.expirePoll.sweeper.sweepPending = s.sweepStarted.settling.sweeper.sweepPending := by
    rw [expirePoll_still still, stopIfOver_sweeper]
  have running : s.expirePoll.sweeper.running = !allPairs.all s.sweepStarted.settling.cursorPassed := by
    rw [expirePoll_still still, stopIfOver_sweeper, sweeping.running, Bool.true_and]
  refine ⟨timer.trans sweeping.timer, fun law => pending.trans (sweeping.pending (clear law)), ?_, fun p other => ?_,
    fun law parts flags p role room => ⟨fun r member polls least => ?_, fun none => ?_⟩⟩
  · rw [running, running_iff, cursors, table]
    simp only [State.sc, survey]
  · rw [cursors]
    refine sweeping.idle p ?_
    rw [driving_of_survey started.survey_eq]
    simpa using driving_fails.mpr other
  all_goals
    have drives : s.driving p = true := by simpa [State.driving] using role
    obtain ⟨t, awaiting, after⟩ := sweepStarted_pair room
  · have placed := awaiting.polled (geometry_parts law).1 drives member ((pollPair?_iff law parts).mpr polls)
      fun q hq on => least q hq ((pollPair?_iff law parts).mp on)
    rw [cursors, tc, settling_once (clear flags), after.tc, after.cursor]
    refine ⟨placed.beyond, ?_⟩
    rintro w rfl
    obtain (queued | waits) | out := placed.bears
    · exact .inl queued
    · rw [placed.empty] at waits
      cases waits
    · exact .inr out
  · have past := awaiting.past drives fun r hr on => none r hr ((pollPair?_iff law parts).mp on)
    rw [cursors, settling_once (clear flags), after.cursor, past.cursor]

end Sys2Proof.Machine
end

section
/-! PROOFS. One echo entry: O50. -/

namespace Sys2Proof.Machine

/-! ### The pair part of an entry -/

/-- A part written on a pair, with one that stands on the pair. -/
theorem part?_updatePart_on (s : State) (n m : Nat) (p q : Pair) {f : PairPart → PairPart}
    (pair : ∀ y, y.pair = p → (f y).pair = p) : (s.updatePart n p f).part? m q =
      if m = n ∧ q = p then (s.part? m q).map f else s.part? m q := by
  have test : (fun y : PairPart => (if y.pair == p then f y else y).pair == q) = fun y => y.pair == q := by
    funext y
    split
    next on => rw [pair y (by simpa using on), show y.pair = p by simpa using on]
    next => rfl
  have record (r : Station) : (r.updatePart p f).part? q = if q = p then (r.part? q).map f else r.part? q := by
    unfold Station.part? Station.updatePart
    rw [List.find?_map]
    simp only [Function.comp_def, test]
    cases found : r.parts.find? (·.pair == q) with
    | none => simp
    | some y =>
      have on : y.pair = q := by simpa using List.find?_some found
      by_cases e : q = p <;> simp [e, on]
  unfold State.part?
  rw [station?_updatePart]
  by_cases same : m = n
  · subst same
    cases s.station? m with
    | none => simp
    | some r =>
      rw [if_pos rfl]
      refine (record r).trans ?_
      simp
  · simp [same]

/-- The pair part that an entry measures (R66 to R68). -/
def PairPart.taken (q : PairPart) (peak : Option (Int × Int)) (round : Nat) (prev : Option Int) : PairPart :=
  match peak with
  | some (gain, offset) => q.measured gain offset round prev
  | none => q.missed

/-- An entry worked on the pair part that it measures. -/
def State.entered (s : State) (p : Pair) (n round : Nat) (z : PairPart) : State :=
  if z.isolation == .inLine then (s.updatePart n p fun _ => z).judgeEntry p n round z
  else (s.updatePart n p fun _ => z).refreshHealth n p

theorem workEntry_eq {s : State} {p : Pair} {e : EchoEntry} {q : PairPart} (part : s.part? e.station p = some q)
    (round : Nat) (prev : Option Int) : State.workEntry p round (s, prev) e =
      (s.entered p e.station round (q.taken e.peak round prev), (q.taken e.peak round prev).deviation.or prev) := by
  unfold State.workEntry State.entered PairPart.taken
  simp only [part]
  cases e.peak with
  | none => cases q.missed.deviation <;> rfl
  | some m => cases (q.measured m.1 m.2 round prev).deviation <;> rfl

section Taken

variable (q : PairPart) (peak : Option (Int × Int)) (round : Nat) (prev : Option Int)

/-- What an entry leaves of the pair part. -/
theorem taken_stands : (q.taken peak round prev).pair = q.pair ∧ (q.taken peak round prev).baseline = q.baseline ∧
    (q.taken peak round prev).isolation = q.isolation ∧ (q.taken peak round prev).connection = q.connection ∧
    (q.taken peak round prev).operator = q.operator ∧ (q.taken peak round prev).issue = q.issue ∧
    (q.taken peak round prev).confirm = q.confirm := by
  cases peak <;> exact ⟨rfl, rfl, rfl, rfl, rfl, rfl, rfl⟩

theorem taken_measured (gain offset : Int) :
    (q.taken (some (gain, offset)) round prev).latest = some { gain := gain, offset := offset, round := round } ∧
    (q.taken (some (gain, offset)) round prev).missing = 0 ∧
    (q.taken (some (gain, offset)) round prev).step = q.baseline.map fun b => gain - b - prev.getD 0 :=
  ⟨rfl, rfl, rfl⟩

theorem taken_missed : (q.taken none round prev).latest = none ∧
    (q.taken none round prev).missing = min (q.missing + 1) 15 ∧ (q.taken none round prev).step = none := by
  refine ⟨rfl, ?_, rfl⟩
  change (if q.missing < 15 then q.missing + 1 else 15) = _
  split <;> omega

end Taken

/-! ### The judgement of an entry -/

/-- The step exceeds the threshold, up or down (R70). -/
def exceeds (threshold v : Int) : Prop := threshold ≤ v ∨ v ≤ -threshold

theorem roundIs_lost {z : PairPart} (missed : z.latest = none) (k : Int) : z.roundIs k = .lost := by
  unfold PairPart.roundIs
  rw [missed]
  rfl

theorem roundIs_unjudged {z : PairPart} (measured : z.latest.isSome = true) (none : z.step = none) (k : Int) :
    z.roundIs k = .unjudged := by
  obtain ⟨l, latest⟩ := Option.isSome_iff_exists.mp measured
  unfold PairPart.roundIs
  rw [latest, none]
  rfl

theorem roundIs_judged {z : PairPart} {v : Int} (measured : z.latest.isSome = true) (step : z.step = some v) (k : Int) :
    (exceeds k v → z.roundIs k = .exceeds v) ∧ (¬exceeds k v → z.roundIs k = .clean) := by
  obtain ⟨l, latest⟩ := Option.isSome_iff_exists.mp measured
  unfold PairPart.roundIs exceeds
  rw [latest, step]
  simp only [Option.isNone_some, Bool.false_eq_true, if_false]
  exact ⟨fun beyond => if_pos (by omega), fun within => if_neg (by omega)⟩

/-- The judgement written on the pair part, before its finding. -/
def State.confirmed (s : State) (n : Nat) (p : Pair) (count : Nat) : State :=
  (s.updatePart n p fun q => { q with confirm := count }).refreshHealth n p

/-- The confirm count that a judgement leaves. -/
def State.countOf (s : State) (p : Pair) (z : PairPart) : Nat :=
  (z.roundIs (s.settings.get p).stepThreshold).confirm (s.settings.get p).confirmRounds z.confirm

/-- The finding of a judgement. -/
def State.foundIn (s : State) (p : Pair) (z : PairPart) : Option CauseFound :=
  (z.roundIs (s.settings.get p).stepThreshold).cause z.missing

theorem judgeEntry_none {s : State} {p : Pair} {z : PairPart} (none : s.foundIn p z = none) (n round : Nat) :
    s.judgeEntry p n round z = s.confirmed n p (s.countOf p z) := by
  unfold State.foundIn at none
  unfold State.judgeEntry
  dsimp only
  rw [none]
  rfl

theorem judgeEntry_some {s : State} {p : Pair} {z : PairPart} {f : CauseFound} (found : s.foundIn p z = some f)
    (n round : Nat) : s.judgeEntry p n round z =
      if ((s.confirmed n p (s.countOf p z)).caseAt? n p).isSome || (s.settings.get p).confirmRounds ≤ s.countOf p z
      then (s.confirmed n p (s.countOf p z)).findCase n p f round
      else s.confirmed n p (s.countOf p z) := by
  unfold State.foundIn at found
  unfold State.judgeEntry
  dsimp only
  rw [found]
  rfl

theorem caseAt?_of_arbiter {s t : State} (arbiter : t.arbiter = s.arbiter) (n : Nat) (p : Pair) :
    t.caseAt? n p = s.caseAt? n p := by
  rw [State.caseAt?, arbiter, State.caseAt?]

/-- The part after a finding has the health of its fields when it had it before. -/
theorem part?_findCase {s : State} {n : Nat} {p : Pair} {y : PairPart} (part : s.part? n p = some y)
    (health : y.health = healthOf (s.caseAt? n p).isSome y) (f : CauseFound) (round : Nat) :
    (s.findCase n p f round).part? n p =
      some { y with health := healthOf ((s.findCase n p f round).caseAt? n p).isSome y } := by
  have same {b : Bool} (h : b = (s.caseAt? n p).isSome) : some y = some { y with health := healthOf b y } := by
    rw [h, ← health]
  cases found : s.caseAt? n p with
  | some c =>
    have merges : s.findCase n p f round = s.mergeCase c f := by
      unfold State.findCase
      rw [found]
    rw [merges, part?_of_table (only_mergeCase s c f).table_eq, part]
    refine same ?_
    rw [found]
    refine caseAt?_isSome.mpr (((samePlaces_mergeCase s c f).openAt n p).mpr (caseAt?_isSome.mp ?_))
    rw [found]
    rfl
  | none =>
    have absent := caseAt?_none.mp found
    by_cases room : s.arbiter.cases.length < 32
    · rw [findCase_opens absent room, part?_openCase, part, caseAt?_openCase]
      rfl
    · rw [findCase_full absent (by omega)]
      exact part.trans (same (by rfl))

theorem part?_findCase_other {s : State} {n m : Nat} {p q : Pair} (other : m ≠ n ∨ q ≠ p) (f : CauseFound) (round : Nat) :
    (s.findCase n p f round).part? m q = s.part? m q := by
  cases found : s.caseAt? n p with
  | some c =>
    have merges : s.findCase n p f round = s.mergeCase c f := by
      unfold State.findCase
      rw [found]
    rw [merges, part?_of_table (only_mergeCase s c f).table_eq]
  | none =>
    have absent := caseAt?_none.mp found
    by_cases room : s.arbiter.cases.length < 32
    · rw [findCase_opens absent room, openCase_eq]
      exact part?_updatePart_other (s.listed n p f round) (fun _ => rfl) other
    · rw [findCase_full absent (by omega)]
      rfl

theorem part?_refreshHealth_other (s : State) {n m : Nat} {p q : Pair} (other : m ≠ n ∨ q ≠ p) :
    (s.refreshHealth n p).part? m q = s.part? m q := part?_updatePart_other s (fun _ => rfl) other

theorem part?_confirmed {s : State} {n : Nat} {p : Pair} {y : PairPart} (part : s.part? n p = some y) (count : Nat) :
    (s.confirmed n p count).part? n p = some { y with
      confirm := count, health := healthOf (s.caseAt? n p).isSome { y with confirm := count } } := by
  rw [State.confirmed, part?_refreshHealth, part?_updatePart_self s n p (f := fun q => { q with confirm := count })
    fun _ => rfl, part]
  rfl

theorem confirmed_arbiter (s : State) (n : Nat) (p : Pair) (count : Nat) :
    (s.confirmed n p count).arbiter = s.arbiter := rfl

theorem confirmed_port (s : State) (n : Nat) (p : Pair) (count : Nat) : (s.confirmed n p count).port = s.port := rfl

theorem confirmed_only (s : State) (n : Nat) (p : Pair) (count : Nat) : Only [.table] s (s.confirmed n p count) :=
  (only_updatePart s n p _).trans (only_refreshHealth _ n p)

/-- The judgement of an entry: the part with its confirm count, and the finding made on it or not. -/
theorem judgeEntry_cases (s : State) (p : Pair) (n round : Nat) (z : PairPart) :
    s.judgeEntry p n round z = s.confirmed n p (s.countOf p z) ∨
    ∃ f, s.foundIn p z = some f ∧
      s.judgeEntry p n round z = (s.confirmed n p (s.countOf p z)).findCase n p f round := by
  cases found : s.foundIn p z with
  | none => exact .inl (judgeEntry_none found n round)
  | some f =>
    rw [judgeEntry_some found]
    split
    · exact .inr ⟨f, rfl, rfl⟩
    · exact .inl rfl

theorem part?_judgeEntry {s : State} {p : Pair} {n : Nat} {z : PairPart} (part : s.part? n p = some z) (round : Nat) :
    (s.judgeEntry p n round z).part? n p = some { z with
      confirm := s.countOf p z,
      health := healthOf ((s.judgeEntry p n round z).caseAt? n p).isSome { z with confirm := s.countOf p z } } := by
  have confirmed := part?_confirmed part (s.countOf p z)
  obtain judged | ⟨f, -, judged⟩ := judgeEntry_cases s p n round z
  · rw [judged, confirmed, caseAt?_of_arbiter (confirmed_arbiter s n p _)]
  · rw [judged, part?_findCase confirmed (by rw [caseAt?_of_arbiter (confirmed_arbiter s n p _)]; rfl)]
    rfl

theorem part?_judgeEntry_other {s : State} {p q : Pair} {n m : Nat} (other : m ≠ n ∨ q ≠ p) (z : PairPart) (round : Nat) :
    (s.judgeEntry p n round z).part? m q = s.part? m q := by
  have confirmed : (s.confirmed n p (s.countOf p z)).part? m q = s.part? m q :=
    (part?_refreshHealth_other _ other).trans
      (part?_updatePart_other s (f := fun y => { y with confirm := s.countOf p z }) (fun _ => rfl) other)
  obtain judged | ⟨f, -, judged⟩ := judgeEntry_cases s p n round z
  · rw [judged, confirmed]
  · rw [judged, part?_findCase_other other, confirmed]

theorem judgeEntry_only (s : State) (p : Pair) (n round : Nat) (z : PairPart) :
    Only [.port, .table, .arbiter] s (s.judgeEntry p n round z) := by
  obtain judged | ⟨f, -, judged⟩ := judgeEntry_cases s p n round z
  · rw [judged]
    exact (confirmed_only s n p _).up
  · rw [judged]
    exact (confirmed_only s n p _).up.trans (only_findCase _ n p f round).up

/-- A finding on the part of an open case merges into it. -/
theorem judgeEntry_merges {s : State} {p : Pair} {n : Nat} {z : PairPart} {f : CauseFound} {c : Case}
    (found : s.foundIn p z = some f) (open_ : s.caseAt? n p = some c) (round : Nat) :
    ∃ d ∈ (s.judgeEntry p n round z).arbiter.cases,
      d.number = c.number ∧ d.station = n ∧ d.pair = p ∧ d.evidence = c.evidence.add f := by
  have open' : (s.confirmed n p (s.countOf p z)).caseAt? n p = some c := open_
  rw [judgeEntry_some found, open', Option.isSome_some, Bool.true_or, if_pos rfl]
  exact findCase_evidence open' f round

/-- A finding on a part without a case waits for the confirm rounds, and then opens one as the list has room. -/
theorem judgeEntry_opens {s : State} {p : Pair} {n : Nat} {z : PairPart} {f : CauseFound}
    (found : s.foundIn p z = some f) (none : s.caseAt? n p = none) (round : Nat) :
    ((s.settings.get p).confirmRounds ≤ s.countOf p z → s.arbiter.cases.length < 32 →
      (s.judgeEntry p n round z).port.attention.caseNew = true ∧
      ∃ d ∈ (s.judgeEntry p n round z).arbiter.cases, d.station = n ∧ d.pair = p ∧
        d.evidence = Evidence.none.add f ∧ d.openedRound = round ∧ d.state = .pending) ∧
    ((s.settings.get p).confirmRounds ≤ s.countOf p z → 32 ≤ s.arbiter.cases.length →
      (s.judgeEntry p n round z).arbiter = s.arbiter ∧
      (s.judgeEntry p n round z).port.attention.caseFull = true) ∧
    (s.countOf p z < (s.settings.get p).confirmRounds →
      (s.judgeEntry p n round z).arbiter = s.arbiter ∧ (s.judgeEntry p n round z).port = s.port) := by
  have none' : (s.confirmed n p (s.countOf p z)).caseAt? n p = .none := none
  have absent := caseAt?_none.mp none'
  rw [judgeEntry_some found, none', Option.isSome_none, Bool.false_or]
  refine ⟨fun enough room => ?_, fun enough full => ?_, fun few => ?_⟩
  · rw [if_pos (by simpa using enough), findCase_opens absent room]
    exact ⟨rfl, _, mem_openCase.mpr (.inl rfl), rfl, rfl, rfl, rfl, rfl⟩
  · rw [if_pos (by simpa using enough), findCase_full absent full]
    exact ⟨rfl, rfl⟩
  · rw [if_neg (by simpa using few)]
    exact ⟨rfl, rfl⟩

theorem judgeEntry_nothing {s : State} {p : Pair} {z : PairPart} (none : s.foundIn p z = none) (n round : Nat) :
    (s.judgeEntry p n round z).arbiter = s.arbiter ∧ (s.judgeEntry p n round z).port = s.port := by
  rw [judgeEntry_none none]
  exact ⟨rfl, rfl⟩

/-! ### The entry -/

section Entered

variable {s : State} {p : Pair} {n : Nat} {q z : PairPart}

theorem part?_taken (part : s.part? n p = some q) (pair : z.pair = p) :
    (s.updatePart n p fun _ => z).part? n p = some z := by
  rw [part?_updatePart_on s n n p p fun _ _ => pair, if_pos ⟨rfl, rfl⟩, part]
  rfl

/-- The confirm count that an entry leaves. -/
def State.confirmOf (s : State) (p : Pair) (z : PairPart) : Nat :=
  if z.isolation = .inLine then s.countOf p z else z.confirm

theorem entered_inLine (line : z.isolation = .inLine) (n round : Nat) :
    s.entered p n round z = (s.updatePart n p fun _ => z).judgeEntry p n round z := if_pos (by simp [line])

theorem entered_isolated (line : z.isolation ≠ .inLine) (n round : Nat) :
    s.entered p n round z = (s.updatePart n p fun _ => z).refreshHealth n p := if_neg (by simpa using line)

theorem part?_entered (part : s.part? n p = some q) (pair : z.pair = p) (round : Nat) :
    (s.entered p n round z).part? n p = some { z with
      confirm := s.confirmOf p z,
      health := healthOf ((s.entered p n round z).caseAt? n p).isSome { z with confirm := s.confirmOf p z } } := by
  have taken := part?_taken part pair
  unfold State.confirmOf
  by_cases line : z.isolation = .inLine
  · rw [entered_inLine line, part?_judgeEntry taken, if_pos line]
    rfl
  · rw [entered_isolated line, part?_refreshHealth, taken, if_neg line]
    rfl

theorem part?_entered_other (pair : z.pair = p) {m : Nat} {v : Pair} (other : m ≠ n ∨ v ≠ p) (round : Nat) :
    (s.entered p n round z).part? m v = s.part? m v := by
  have taken : (s.updatePart n p fun _ => z).part? m v = s.part? m v := by
    rw [part?_updatePart_on s n m p v fun _ _ => pair, if_neg]
    rintro ⟨rfl, rfl⟩
    exact other.elim (fun h => h rfl) fun h => h rfl
  by_cases line : z.isolation = .inLine
  · rw [entered_inLine line, part?_judgeEntry_other other, taken]
  · rw [entered_isolated line]
    exact (part?_refreshHealth_other _ other).trans taken

theorem entered_only (n round : Nat) : Only [.port, .table, .arbiter] s (s.entered p n round z) := by
  have taken := (only_updatePart s n p fun _ => z).up (m := [.port, .table, .arbiter])
  by_cases line : z.isolation = .inLine
  · rw [entered_inLine line]
    exact taken.trans (judgeEntry_only _ p n round z)
  · rw [entered_isolated line]
    exact taken.trans (only_refreshHealth _ n p).up

/-- An entry without a finding leaves the Case List and the port. -/
theorem entered_nothing (nothing : z.isolation = .inLine → s.foundIn p z = none) (n round : Nat) :
    (s.entered p n round z).arbiter = s.arbiter ∧ (s.entered p n round z).port = s.port := by
  by_cases line : z.isolation = .inLine
  · rw [entered_inLine line]
    exact judgeEntry_nothing (s := s.updatePart n p fun _ => z) (nothing line) n round
  · rw [entered_isolated line]
    exact ⟨rfl, rfl⟩

end Entered

/-- The confirm count and the finding of an entry with no echo. -/
theorem judged_lost {s : State} {p : Pair} {z : PairPart} (missed : z.latest = none) :
    s.countOf p z = min (z.confirm + 1) (s.settings.get p).confirmRounds ∧ s.foundIn p z = some (.lost z.missing) := by
  rw [State.countOf, State.foundIn, roundIs_lost missed]
  exact ⟨rfl, rfl⟩

/-- The confirm count and the finding of an entry with an echo that has no step. -/
theorem judged_unjudged {s : State} {p : Pair} {z : PairPart} (measured : z.latest.isSome = true) (none : z.step = none) :
    s.countOf p z = z.confirm ∧ s.foundIn p z = .none := by
  rw [State.countOf, State.foundIn, roundIs_unjudged measured none]
  exact ⟨rfl, rfl⟩

/-- The confirm count and the finding of an entry with a step. -/
theorem judged_step {s : State} {p : Pair} {z : PairPart} {v : Int} (measured : z.latest.isSome = true)
    (step : z.step = some v) :
    (exceeds (s.settings.get p).stepThreshold v →
      s.countOf p z = min (z.confirm + 1) (s.settings.get p).confirmRounds ∧ s.foundIn p z = some (.step v)) ∧
    (¬exceeds (s.settings.get p).stepThreshold v → s.countOf p z = 0 ∧ s.foundIn p z = .none) := by
  obtain ⟨beyond, within⟩ := roundIs_judged measured step (s.settings.get p).stepThreshold
  rw [State.countOf, State.foundIn]
  exact ⟨fun h => by rw [beyond h]; exact ⟨rfl, rfl⟩, fun h => by rw [within h]; exact ⟨rfl, rfl⟩⟩

theorem taken_deviation (q : PairPart) (peak : Option (Int × Int)) (round : Nat) (prev : Option Int) :
    (∀ m b, peak = some m → q.baseline = some b → (q.taken peak round prev).deviation = some (m.1 - b)) ∧
    (peak = none ∨ q.baseline = none → (q.taken peak round prev).deviation = none) := by
  refine ⟨?_, ?_⟩
  · rintro m b rfl baseline
    change (match some (_ : Latest), q.baseline with
      | some l, some b => some (l.gain - b)
      | _, _ => none) = _
    rw [baseline]
  · rintro (rfl | baseline)
    · rfl
    · unfold PairPart.deviation
      rw [(taken_stands q peak round prev).2.1, baseline]
      cases (q.taken peak round prev).latest <;> rfl

theorem taken_latest (q : PairPart) (m : Int × Int) (round : Nat) (prev : Option Int) :
    (q.taken (some m) round prev).latest.isSome = true := rfl

/-- Settles O50: the part is measured, judged while the station is IN LINE, and its finding made. -/
theorem echoEntryMeasuresAndJudges : Obligations.EchoEntryMeasuresAndJudges := by
  intro p round prev e q s part
  have pair : q.pair = p := by
    unfold State.part? at part
    split at part
    next r found => exact (Station.part?_some part).2
    next => cases part
  obtain ⟨pair', baseline, isolation, connection, operator, issue, confirm⟩ := taken_stands q e.peak round prev
  rw [pair] at pair'
  have station := part?_entered part pair' round
  have line' : (q.taken e.peak round prev).isolation = .inLine ↔ q.isolation = .inLine := by rw [isolation]
  have counts (line : q.isolation = .inLine) :
      s.confirmOf p (q.taken e.peak round prev) = s.countOf p (q.taken e.peak round prev) := if_pos (line'.mpr line)
  have lost (missed : e.peak = none) := judged_lost (s := s) (p := p) (z := q.taken e.peak round prev) (by rw [missed]; rfl)
  have measured (echo : e.peak ≠ none) : (q.taken e.peak round prev).latest.isSome = true := by
    obtain ⟨m, peak⟩ := Option.ne_none_iff_exists'.mp echo
    rw [peak]
    exact taken_latest q m round prev
  have stepEcho {v : Int} (step : (q.taken e.peak round prev).step = some v) : e.peak ≠ none := by
    intro missed
    rw [missed] at step
    cases step
  refine ⟨_, _, (workEntry_eq part round prev).trans (Prod.ext rfl ?deviation), station, entered_only e.station round,
    fun n v other => part?_entered_other pair' other round, fun gain offset echo => ?echo, fun missed => ?missed,
    ⟨baseline, isolation, connection, operator, issue⟩, fun line => ?isolated, fun line => ⟨fun missed => ?lost,
    fun echo noStep => ?unjudged, fun v step => ⟨fun beyond => ?beyond, fun within => ?within⟩⟩, rfl,
    fun evidence found => ?found, fun nothing => ?nothing⟩
  case deviation =>
    obtain ⟨both, none⟩ := taken_deviation q e.peak round prev
    dsimp only
    cases peak : e.peak with
    | none =>
      rw [peak] at none
      rw [none (.inl rfl)]
      rfl
    | some m =>
      rw [peak] at none both
      cases base : q.baseline with
      | none =>
        rw [none (.inr base)]
        rfl
      | some b =>
        rw [both m b rfl base]
        rfl
  case echo =>
    have measured := taken_measured q round prev gain offset
    rw [← echo] at measured
    exact measured
  case missed =>
    have missing := taken_missed q round prev
    rw [← missed] at missing
    exact missing
  case isolated => exact (if_neg (mt line'.mp line)).trans confirm
  case lost => exact (counts line).trans ((lost missed).1.trans (by rw [confirm]))
  case unjudged => exact (counts line).trans ((judged_unjudged (measured echo) noStep).1.trans confirm)
  case beyond =>
    exact (counts line).trans (((judged_step (measured (stepEcho step)) step).1 beyond).1.trans (by rw [confirm]))
  case within => exact (counts line).trans ((judged_step (measured (stepEcho step)) step).2 within).1
  case found =>
    obtain ⟨line, cause⟩ := found
    obtain ⟨f, finding, holds⟩ : ∃ f, s.foundIn p (q.taken e.peak round prev) = some f ∧
        ∀ w : Evidence, evidence (w.add f) := by
      obtain ⟨missed, rfl⟩ | ⟨v, step, beyond, rfl⟩ := cause
      · exact ⟨_, (lost missed).2, fun w => rfl⟩
      · exact ⟨_, ((judged_step (measured (stepEcho step)) step).1 beyond).2, fun w => rfl⟩
    rw [entered_inLine (line'.mpr line)]
    refine ⟨fun c open_ => ?_, fun none => ?_⟩
    · obtain ⟨d, hd, number, station, pair, added⟩ := judgeEntry_merges
        (s := s.updatePart e.station p fun _ => q.taken e.peak round prev) finding open_ round
      exact ⟨d, hd, number, station, pair, added ▸ holds _⟩
    · obtain ⟨opens, full, few⟩ := judgeEntry_opens
        (s := s.updatePart e.station p fun _ => q.taken e.peak round prev) finding none round
      refine ⟨fun enough room => ?_, fun enough many => full ((counts line).symm.trans enough).ge many,
        fun less => few ((counts line).symm.trans_lt less)⟩
      obtain ⟨new, d, hd, station, pair, added, opened, state⟩ := opens ((counts line).symm.trans enough).ge room
      exact ⟨new, d, hd, station, pair, added ▸ holds _, opened, state⟩
  case nothing =>
    refine entered_nothing (fun line => ?_) e.station round
    obtain ⟨echo, within⟩ := nothing.resolve_left fun isolated => isolated (line'.mp line)
    cases step : (q.taken e.peak round prev).step with
    | none => exact (judged_unjudged (measured echo) step).2
    | some v => exact ((judged_step (measured echo) step).2 (within v step)).2

end Sys2Proof.Machine
end

section
/-! PROOFS. A case that leaves service, and what the work that follows keeps of it; the claim wait timer: O45. -/

namespace Sys2Proof.Machine

/-! ### The work that follows a case's leaving service -/

/-- The part's own work takes cases off the stack, and puts none on it. -/
theorem activateTop_stack (s : State) : s.activateTop.arbiter.stack = s.arbiter.stack := by
  unfold State.activateTop
  split
  next stack => rfl
  next stack => rfl

theorem activateTop_lastServed (s : State) : s.activateTop.arbiter.lastServed = s.arbiter.lastServed := by
  unfold State.activateTop
  split
  next stack => rfl
  next stack => rfl

theorem leaveService_stack (s : State) (o : Outcome) : (s.leaveService o).arbiter.stack <:+ s.arbiter.stack := by
  unfold State.leaveService
  split
  · exact List.suffix_rfl
  · rw [activateTop_stack]
    exact List.tail_suffix _

theorem WorkMove.stack {s t : State} (h : WorkMove s t) : t.arbiter.stack <:+ s.arbiter.stack := by
  have same {u : State} (arbiter : u.arbiter = s.arbiter) : u.arbiter.stack <:+ s.arbiter.stack := by
    rw [arbiter]
  cases h with
  | contexts | occupy | controller | unpresent | present => exact same rfl
  | grant k p kind => exact same (only_grantTo s k p kind).arbiter_eq
  | submit p t => exact same (only_submit s p t).arbiter_eq
  | askAuto k n p _ =>
    unfold State.askAuto
    split
    · exact List.suffix_rfl
    · exact List.suffix_rfl
  | leave o => exact leaveService_stack s o

theorem WorkSteps.stack {s t : State} (h : WorkSteps s t) : t.arbiter.stack <:+ s.arbiter.stack :=
  h.lift (R := fun s t => t.arbiter.stack <:+ s.arbiter.stack) (fun _ => List.suffix_rfl) (fun h k => k.trans h)
    WorkMove.stack

/-- The context of the level is empty, and no case on the stack is of the level. -/
def State.closed (s : State) (l : Level) : Prop :=
  s.context l = none ∧ ∀ d ∈ s.arbiter.cases, d.number ∈ s.arbiter.stack → d.level ≠ l

theorem closed_of_cases {s t : State} {l : Level} (h : s.closed l) (none : t.context l = none) (cases : CasesKept s t)
    (stack : t.arbiter.stack <:+ s.arbiter.stack) : t.closed l := by
  obtain ⟨g, cases, kept⟩ := cases
  refine ⟨none, fun d hd on => ?_⟩
  rw [cases] at hd
  obtain ⟨c, hc, rfl⟩ := List.mem_map.mp hd
  have same := kept c
  have number : (g c).number = c.number := by rw [same]
  have level : (g c).level = c.level := by rw [same]
  rw [level]
  exact h.2 c hc (number ▸ stack.mem on)

theorem context_setContext (s : State) (l m : Level) (c : Option Context) :
    (s.setContext l c).context m = if m = l then c else s.context m := by
  rw [State.context, State.setContext, State.setContexts_contexts, Oct.get_set]
  rfl

theorem context_updateContext (s : State) (l m : Level) (f : Context → Context) :
    (s.updateContext l f).context m = if m = l then (s.context l).map f else s.context m :=
  context_setContext s l m _

theorem context_of_eq {s t : State} (contexts : t.contexts = s.contexts) (l : Level) : t.context l = s.context l := by
  rw [State.context, contexts, State.context]

theorem updateContext_none {s : State} {l : Level} (none : s.context l = none) (m : Level) (f : Context → Context) :
    (s.updateContext m f).context l = .none := by
  rw [context_updateContext]
  split
  next e =>
    rw [e] at none
    rw [none]
    rfl
  next => exact none

theorem updateContext_contexts {s : State} {l : Level} {c : Context} (h : s.context l = some c) (f : Context → Context) :
    (s.updateContext l f).contexts = s.contexts.set l (some (f c)) := by
  change s.contexts.set l ((s.context l).map f) = _
  rw [h]
  rfl

theorem grantTo_contexts (s : State) (k : CorrelatorNo) (p : Pair) (kind : RoundKind) :
    (s.grantTo k p kind).contexts = s.contexts ∨ ∃ n l, (s.roundDefinition p).focus = some (n, l) ∧
      (s.grantTo k p kind).contexts = (s.updateContext l fun c => { c with phase := .measuring }).contexts := by
  unfold State.grantTo
  dsimp only
  split
  next n l focus => exact .inr ⟨n, l, focus, rfl⟩
  next => exact .inl rfl

theorem WorkMove.closed {s t : State} {l : Level} (h : WorkMove s t) (hs : s.closed l) : t.closed l := by
  refine closed_of_cases hs ?_ h.casesKept h.stack
  have same {u : State} (contexts : u.contexts = s.contexts) : u.context l = none := (context_of_eq contexts l).trans hs.1
  cases h with
  | controller | unpresent | present => exact same rfl
  | contexts v kept =>
    have empty := kept l
    rw [hs.1] at empty
    change v.get l = none
    simpa using empty
  | occupy k c member top =>
    rw [context_setContext, if_neg]
    · exact hs.1
    · have on : k.number ∈ s.arbiter.stack := List.mem_of_mem_head? (by rw [top]; rfl)
      exact fun e => hs.2 k member on e.symm
  | grant k p kind =>
    obtain contexts | ⟨n, m, -, contexts⟩ := grantTo_contexts s k p kind
    · exact same contexts
    · exact (context_of_eq contexts l).trans (updateContext_none hs.1 m _)
  | submit p t => exact same (only_submit s p t).contexts_eq
  | askAuto k n p _ => exact same (only_askAuto s k n p).contexts_eq
  | leave o =>
    unfold State.leaveService
    split
    · exact hs.1
    next c _ =>
      rw [context_of_eq (only_activateTop _).contexts_eq]
      change ((s.setCaseState c.number (.held o)).setContext c.level none).context l = none
      rw [context_setContext]
      split
      · rfl
      · exact hs.1

theorem WorkSteps.closed {s t : State} {l : Level} (h : WorkSteps s t) (hs : s.closed l) : t.closed l :=
  h.keeps (I := fun s => s.closed l) WorkMove.closed hs

/-- Every attention cause of the first set is one of the second. -/
structure AttentionSet.Within (a b : AttentionSet) : Prop where
  caseNew : a.caseNew = true → b.caseNew = true
  caseHeld : a.caseHeld = true → b.caseHeld = true
  stray : a.stray = true → b.stray = true
  contention : a.contention = true → b.contention = true
  caseFull : a.caseFull = true → b.caseFull = true
  operatorDone : a.operatorDone = true → b.operatorDone = true

theorem AttentionSet.Within.refl (a : AttentionSet) : a.Within a := ⟨id, id, id, id, id, id⟩

theorem AttentionSet.Within.trans {a b c : AttentionSet} (h : a.Within b) (k : b.Within c) : a.Within c :=
  ⟨k.caseNew ∘ h.caseNew, k.caseHeld ∘ h.caseHeld, k.stray ∘ h.stray, k.contention ∘ h.contention, k.caseFull ∘ h.caseFull,
    k.operatorDone ∘ h.operatorDone⟩

theorem AttentionSet.within_add (a : AttentionSet) (c : AttentionCause) : a.Within (a.add c) := by
  cases c <;> constructor <;> first | exact id | exact fun _ => rfl

theorem WorkMove.attention {s t : State} (h : WorkMove s t) : s.port.attention.Within t.port.attention := by
  have same {u : State} (port : u.port = s.port) : s.port.attention.Within u.port.attention := by
    rw [port]
    exact .refl _
  cases h with
  | contexts | occupy | controller | unpresent | present => exact same rfl
  | grant k p kind => exact same (only_grantTo s k p kind).port_eq
  | submit p t => exact same (only_submit s p t).port_eq
  | askAuto k n p _ => exact same (only_askAuto s k n p).port_eq
  | leave o =>
    unfold State.leaveService
    split
    · exact .refl _
    · rw [(only_activateTop _).port_eq]
      exact AttentionSet.within_add s.port.attention .caseHeld

theorem WorkSteps.attention {s t : State} (h : WorkSteps s t) : s.port.attention.Within t.port.attention :=
  h.lift (R := fun s t => s.port.attention.Within t.port.attention) (fun _ => .refl _) .trans WorkMove.attention

/-! ### Leaving service -/

/-- The case on top, in a list of cases and a stack in order. -/
theorem attended_of_top {s : State} (cases : s.caseLaw = true) (stack : s.stackLaw = true) {k : Case}
    (hk : k ∈ s.arbiter.cases) (top : s.arbiter.stack.head? = some k.number) : ∃ rest, s.Attended (k :: rest) := by
  obtain ⟨l, attended⟩ := ordered_iff.mpr ⟨cases, stack⟩
  rw [attended.listed.stack] at top
  cases l with
  | nil => cases top
  | cons c rest =>
    obtain rfl := attended.lawful.eq_of_number (attended.listed.mem c List.mem_cons_self) hk (Option.some.inj top)
    exact ⟨rest, attended⟩

/-- A case out of service is not on the stack. -/
theorem State.Ordered.notOnStack {s : State} (h : s.Ordered) {c : Case} (hc : c ∈ s.arbiter.cases)
    (idle : c.inService = false) : c.number ∉ s.arbiter.stack := by
  obtain ⟨l, attended⟩ := h
  rw [attended.listed.stack]
  intro on
  obtain ⟨d, hd, number⟩ := List.mem_map.mp on
  rw [← attended.lawful.eq_of_number (attended.listed.mem d hd) hc number, attended.served.inService d hd] at idle
  cases idle

/-- The state right after the case on top has left service. -/
theorem leaveService_top {s : State} {k : Case} {rest : List Case} (attended : s.Attended (k :: rest)) (o : Outcome) :
    { k with state := .held o } ∈ (s.leaveService o).arbiter.cases ∧ (s.leaveService o).closed k.level ∧
    (s.leaveService o).port.attention.caseHeld = true ∧ (s.leaveService o).Ordered := by
  obtain ⟨m, left, -⟩ := attended_leaveService attended o
  have hk := attended.listed.mem k List.mem_cons_self
  have before : { k with state := .held o } ∈ (s.setCaseState k.number (.held o)).arbiter.cases := by
    rw [setCaseState_cases]
    exact List.mem_map.mpr ⟨k, hk, Case.on_self rfl⟩
  obtain ⟨lawful, listed⟩ := listed_leave (o := o) attended
    (t := (((s.setCaseState k.number (.held o)).setContext k.level none).setArbiter
      { (s.setCaseState k.number (.held o)).arbiter with stack := s.arbiter.stack.tail }).raise .caseHeld) rfl rfl
  have idle : ({ k with state := .held o } : Case) ∉ rest := fun member => by
    have serves := attended.served.2 _ member
    cases serves
  have closed : ((((s.setCaseState k.number (.held o)).setContext k.level none).setArbiter
      { (s.setCaseState k.number (.held o)).arbiter with stack := s.arbiter.stack.tail }).raise .caseHeld).closed
        k.level := by
    refine ⟨(context_setContext (s.setCaseState k.number (.held o)) k.level k.level none).trans (if_pos rfl),
      fun d hd on => ?_⟩
    rw [listed.stack] at on
    obtain ⟨c, hc, number⟩ := List.mem_map.mp on
    rw [← lawful.eq_of_number (listed.mem c hc) hd number]
    exact ((List.pairwise_cons.mp attended.listed.levels).1 c hc).ne'
  have eq : s.leaveService o = ((((s.setCaseState k.number (.held o)).setContext k.level none).setArbiter
      { (s.setCaseState k.number (.held o)).arbiter with stack := s.arbiter.stack.tail }).raise .caseHeld).activateTop := by
    unfold State.leaveService
    rw [attended.topCase?]
    rfl
  refine ⟨?_, ?_, ?_, ⟨m, left⟩⟩
  · rw [eq]
    exact idle_activateTop lawful listed before idle
  · rw [eq]
    refine closed_of_cases closed ?_ (casesKept_activateTop _) ?_
    · rw [context_of_eq (only_activateTop _).contexts_eq]
      exact closed.1
    · rw [activateTop_stack]
  · rw [eq, (only_activateTop _).port_eq]
    rfl

/-- The work concluded after the case on top has left service leaves it so (R141, R166). -/
theorem workSteps_leaves {s t : State} {k : Case} {rest : List Case} (attended : s.Attended (k :: rest)) (o : Outcome)
    (work : WorkSteps (s.leaveService o) t) : LeftService t k o := by
  obtain ⟨held, closed, raised, ordered⟩ := leaveService_top attended o
  obtain ⟨ordered', stand⟩ := work.idleCasesKept ordered
  have held' := stand _ held rfl
  exact ⟨held', ordered'.notOnStack (c := { k with state := .held o }) held' rfl, (work.closed closed).1,
    work.attention.caseHeld raised⟩

theorem conclude_none (s : State) : conclude (s, none) = s := by
  unfold conclude
  cases s.arbiter.stack.length <;> rfl

theorem conclude_top {s : State} {k : Case} {rest : List Case} (attended : s.Attended (k :: rest)) (o : Outcome) :
    conclude (s, some o) = concludeWithin rest.length (s.leaveService o).resume := by
  have stack : s.arbiter.stack.length = rest.length + 1 := by
    rw [attended.listed.stack, List.length_map, List.length_cons]
  unfold conclude
  rw [stack]
  rfl

/-- A case on top that ends leaves service with its outcome (R166). -/
theorem conclude_leaves {s : State} {k : Case} {rest : List Case} (attended : s.Attended (k :: rest)) (o : Outcome) :
    LeftService (conclude (s, some o)) k o := by
  rw [conclude_top attended]
  exact workSteps_leaves attended o ((workSteps_resume _).trans (workSteps_concludeWithin _ _))

theorem LeftService.settle {t : State} {k : Case} {o : Outcome} (h : LeftService t k o) : LeftService t.settle k o := by
  have only := only_settle t
  obtain ⟨held, off, none, raised⟩ := h
  rw [LeftService, only.arbiter_eq, only.port_eq, context_of_eq only.contexts_eq]
  exact ⟨held, off, none, raised⟩

/-! ### Events told to a context -/

theorem writeAction_stack (s : State) (c : Context) (e : ContextEvent) :
    (s.writeAction c e).arbiter.stack = s.arbiter.stack := by
  unfold State.writeAction
  split
  · split
    · split <;> rfl
    · rfl
  · rfl

theorem working_writeAction (s : State) (c : Context) (e : ContextEvent) (l : Level) :
    (s.writeAction c e).working l = s.working l := by
  rw [State.working, writeAction_context, writeAction_stack, State.working]

theorem working_iff {s : State} {l : Level} {c : Context} (h : s.context l = some c) :
    s.working l = true ↔ s.arbiter.stack.head? = some c.caseNumber := by
  unfold State.working
  rw [h]
  cases stack : s.arbiter.stack with
  | nil => simp
  | cons k rest =>
    rw [List.head?_cons, Option.some.injEq]
    exact beq_iff_eq.trans ⟨Eq.symm, Eq.symm⟩

/-- A suspended context records its event (R168). -/
theorem tell_suspended {s : State} {l : Level} {c : Context} (h : s.context l = some c)
    (suspended : s.arbiter.stack.head? ≠ some c.caseNumber) (e : ContextEvent) :
    s.tell l e = (s.writeAction c e).updateContext l fun c => { c with recorded := some e } := by
  have notWorking : (s.writeAction c e).working l = false := by
    rw [working_writeAction]
    simpa using mt (working_iff h).mp suspended
  unfold State.tell
  rw [h]
  dsimp only
  rw [notWorking]

/-- The working context takes its event (R160 to R165). -/
theorem tell_working {s : State} {l : Level} {c : Context} {k : Case} (h : s.context l = some c)
    (top : s.arbiter.stack.head? = some c.caseNumber) {e : ContextEvent}
    (found : (s.writeAction c e).case? c.caseNumber = some k) :
    s.tell l e = conclude ((s.writeAction c e).takeEvent c k e) := by
  have working : (s.writeAction c e).working l = true := by
    rw [working_writeAction]
    exact (working_iff h).mpr top
  unfold State.tell
  rw [h]
  dsimp only
  rw [working, found]

/-! ### The claim wait timer -/

theorem expireClaimWait_still {s : State} {l : Level} (still : (s.context l).bind (·.timer) = none) :
    s.expireClaimWait l = s := by
  unfold State.expireClaimWait
  split
  next => rfl
  next c h =>
    rw [h, Option.bind_some] at still
    rw [still]
    rfl

/-- The level's claim wait timer stopped. -/
def State.timerStopped (s : State) (l : Level) : State := s.updateContext l fun c => { c with timer := none }

theorem timerStopped_context {s : State} {l : Level} {c : Context} (h : s.context l = some c) :
    (s.timerStopped l).context l = some { c with timer := none } := by
  rw [State.timerStopped, context_updateContext, if_pos rfl, h]
  rfl

theorem timerStopped_contexts {s : State} {l : Level} {c : Context} (h : s.context l = some c) :
    (s.timerStopped l).contexts = s.contexts.set l (some { c with timer := none }) := by
  change s.contexts.set l ((s.context l).map _) = _
  rw [h]
  rfl

theorem timerStopped_arbiter (s : State) (l : Level) : (s.timerStopped l).arbiter = s.arbiter := rfl

theorem timerStopped_case? (s : State) (l : Level) (n : Nat) : (s.timerStopped l).case? n = s.case? n := rfl

theorem timerStopped_table (s : State) (l : Level) : (s.timerStopped l).table = s.table := rfl

theorem expireClaimWait_running {s : State} {l : Level} {c : Context} {w : Nat} (h : s.context l = some c)
    (timer : c.timer = some w) : s.expireClaimWait l = ((s.timerStopped l).tell l .expired).settle := by
  unfold State.expireClaimWait
  rw [h]
  dsimp only
  rw [timer, State.timerStopped]
  exact if_pos rfl

theorem writeAction_expired (s : State) (c : Context) : s.writeAction c .expired = s := by
  unfold State.writeAction
  rfl

theorem takeEvent_expired {s : State} {c : Context} (step : c.step = .claim) (k : Case) :
    s.takeEvent c k .expired = (s, some .blocked) := by
  unfold State.takeEvent
  rw [step]

theorem exec_claimWaitExpiry (s : State) (l : Level) : exec (.claimWaitExpiry l) s = .next (s.expireClaimWait l) := rfl

/-- The expiry of a suspended context's timer is recorded (R168). -/
theorem expireClaimWait_suspended {s : State} {l : Level} {c : Context} {w : Nat} (h : s.context l = some c)
    (timer : c.timer = some w) (suspended : s.arbiter.stack.head? ≠ some c.caseNumber) :
    Only [.telegrams, .sweeper, .contexts] s (s.expireClaimWait l) ∧
    (s.expireClaimWait l).contexts = s.contexts.set l (some { c with timer := none, recorded := some .expired }) := by
  have told := tell_suspended (timerStopped_context h) (by rwa [timerStopped_arbiter]) .expired
  rw [writeAction_expired] at told
  rw [expireClaimWait_running h timer, told]
  constructor
  · exact (((only_updateContext s l _).trans (only_updateContext _ l _)).up).trans (only_settle _).up
  · rw [(only_settle _).contexts_eq, updateContext_contexts (timerStopped_context h), timerStopped_contexts h, Oct.set_set]

/-- The working context whose timer expires ends BLOCKED (R163). -/
theorem expireClaimWait_working {s : State} {l : Level} {c : Context} {w : Nat} {k : Case} (cases : s.caseLaw = true)
    (stack : s.stackLaw = true) (h : s.context l = some c) (timer : c.timer = some w) (step : c.step = .claim)
    (hk : k ∈ s.arbiter.cases) (number : k.number = c.caseNumber) (top : s.arbiter.stack.head? = some k.number) :
    LeftService (s.expireClaimWait l) k .blocked := by
  obtain ⟨rest, attended⟩ := attended_of_top cases stack hk top
  have found : ((s.timerStopped l).writeAction { c with timer := none } .expired).case? c.caseNumber = some k := by
    rw [writeAction_expired, timerStopped_case?, ← number]
    exact case?_of_mem cases hk
  have top' : (s.timerStopped l).arbiter.stack.head? = some c.caseNumber := by rw [timerStopped_arbiter, top, number]
  have told := tell_working (c := { c with timer := none }) (timerStopped_context h) top' found
  rw [writeAction_expired, takeEvent_expired (c := { c with timer := none }) step] at told
  rw [expireClaimWait_running h timer, told]
  have attended' : (s.timerStopped l).Attended (k :: rest) := attended.of_eq rfl rfl
  exact (conclude_leaves attended' .blocked).settle

/-- Settles O45: a suspended context records the expiry; the working one ends BLOCKED. -/
theorem claimWaitExpiryBlocks : Obligations.ClaimWaitExpiryBlocks := by
  intro l s
  rw [exec_claimWaitExpiry]
  refine ⟨fun still => congrArg Host.Outcome.next (expireClaimWait_still still),
    fun c w h timer suspended => ⟨_, rfl, expireClaimWait_suspended h timer suspended⟩,
    fun c w k cases stack h timer step hk number level top => ?_⟩
  obtain ⟨held, off, none, raised⟩ := expireClaimWait_working cases stack h timer step hk number top
  have only := only_expireClaimWait s l
  refine ⟨_, rfl, held, level ▸ none, off, raised, ?_, only.line_eq, only.settings_eq, only.strays_eq⟩
  rw [expireClaimWait_running h timer, (only_settle _).table_eq, (only_tell _ _ _).table_eq, timerStopped_table]

end Sys2Proof.Machine
end

section
/-! PROOFS. The grant of a case: O34. -/

namespace Sys2Proof.Machine

/-! ### What the work leaves of the stations last served, and of the contexts -/

theorem WorkMove.lastServed {s t : State} (h : WorkMove s t) : t.arbiter.lastServed = s.arbiter.lastServed := by
  have same {u : State} (arbiter : u.arbiter = s.arbiter) : u.arbiter.lastServed = s.arbiter.lastServed := by
    rw [arbiter]
  cases h with
  | contexts | occupy | controller | unpresent | present => rfl
  | grant k p kind => exact same (only_grantTo s k p kind).arbiter_eq
  | submit p t => exact same (only_submit s p t).arbiter_eq
  | askAuto k n p _ =>
    unfold State.askAuto
    split <;> rfl
  | leave o =>
    unfold State.leaveService
    split
    · rfl
    · exact activateTop_lastServed _

theorem WorkSteps.lastServed {s t : State} (h : WorkSteps s t) : t.arbiter.lastServed = s.arbiter.lastServed :=
  h.lift (R := fun s t => t.arbiter.lastServed = s.arbiter.lastServed) (fun _ => rfl) (fun h k => k.trans h)
    WorkMove.lastServed

theorem Phased.isSome {s t : State} (h : Phased s t) (l : Level) : (t.context l).isSome = (s.context l).isSome := by
  obtain ⟨g, eq⟩ := h l
  rw [eq, Option.isSome_map]

theorem updateContext_isSome (s : State) (l m : Level) (f : Context → Context) :
    ((s.updateContext l f).context m).isSome = (s.context m).isSome := by
  rw [context_updateContext]
  split
  next e => rw [e, Option.isSome_map]
  next => rfl

theorem askRound_isSome (s : State) (k : Case) (r : Station) (l : Level) :
    ((s.askRound k r).1.context l).isSome = (s.context l).isSome :=
  ((planSteps_requestFocus _ _ _).phased.isSome l).trans (updateContext_isSome s _ l _)

theorem sendFor_isSome (s : State) (k : Case) (r : Station) (kind : TelegramKind) (l : Level) :
    ((s.sendFor k r kind).1.context l).isSome = (s.context l).isSome := by
  unfold State.sendFor
  split
  · exact (congrArg Option.isSome (context_of_eq (only_submit _ _ _).contexts_eq l)).trans (updateContext_isSome s _ l _)
  · rfl

theorem startCheck_isSome (s : State) (k : Case) (st : ContextStep) (l : Level) :
    ((s.startCheck k st).1.context l).isSome = (s.context l).isSome := by
  unfold State.startCheck
  dsimp only
  have entered := updateContext_isSome s k.level l (·.enter st)
  split
  · exact entered
  · split
    · exact (askRound_isSome _ _ _ l).trans entered
    · exact (sendFor_isSome _ _ _ _ l).trans entered

/-- The check that a context starts leaves the Case Arbiter. -/
theorem startCheck_arbiter (s : State) (k : Case) (st : ContextStep) : (s.startCheck k st).1.arbiter = s.arbiter := by
  unfold State.startCheck
  dsimp only
  split
  · rfl
  · split
    · exact (only_requestFocus _ _ _).arbiter_eq
    · unfold State.sendFor
      split
      · exact (only_submit _ _ _).arbiter_eq
      · rfl

/-- The context of a granted case: it is there, and the Case Arbiter stands. -/
theorem startContext_occupies (s : State) (k : Case) :
    (s.startContext k).1.arbiter = s.arbiter ∧ ((s.startContext k).1.context k.level).isSome = true := by
  have occupied : ((s.setContext k.level (some (Context.occupied k))).context k.level).isSome = true := by
    rw [context_setContext, if_pos rfl]
    rfl
  unfold State.startContext
  dsimp only
  split
  · exact ⟨startCheck_arbiter _ k _, (startCheck_isSome _ k _ _).trans occupied⟩
  · exact ⟨rfl, occupied⟩
  · exact ⟨startCheck_arbiter _ k _, (startCheck_isSome _ k _ _).trans occupied⟩

/-! ### The case that a grant is due to -/

theorem eligible_iff (s : State) (c : Case) :
    s.eligible c = true ↔ c.state = .pending ∧ s.arbiter.policy.masked.get c.level = false ∧ (s.sc c.pair).role = .driving := by
  simp only [State.eligible, Bool.and_eq_true, beq_iff_eq, Bool.not_eq_true', State.driving, and_assoc]

/-- The one case that is before every other one of a list is the one chosen. -/
theorem bestCase_first {s : State} {c : Case} : ∀ {l : List Case}, c ∈ l →
    (∀ d ∈ l, d ≠ c → s.servedBefore c d = true ∧ s.servedBefore d c = false) → s.bestCase l = some c
  | a :: rest, member, first => by
    unfold State.bestCase
    have others : ∀ d ∈ rest, d ≠ c → s.servedBefore c d = true ∧ s.servedBefore d c = false :=
      fun d hd => first d (List.mem_cons_of_mem _ hd)
    by_cases same : a = c
    · subst same
      split
      next => rfl
      next d best =>
        by_cases e : d = a
        · rw [e]
          split <;> rfl
        · rw [if_neg (by simp [others d (bestCase_mem best) e])]
    · have inRest : c ∈ rest := (List.mem_cons.mp member).resolve_left (Ne.symm same)
      rw [bestCase_first inRest others]
      dsimp only
      rw [if_pos (first a List.mem_cons_self same).1]

theorem servedBefore_iff (s : State) (c d : Case) : s.servedBefore c d = true ↔ c.level < d.level ∨ (c.level = d.level ∧
    (serveRank (s.arbiter.lastServed.get c.level) c.station < serveRank (s.arbiter.lastServed.get d.level) d.station ∨
      (serveRank (s.arbiter.lastServed.get c.level) c.station = serveRank (s.arbiter.lastServed.get d.level) d.station ∧
        c.pair < d.pair))) := by
  simp only [State.servedBefore, Bool.or_eq_true, Bool.and_eq_true, decide_eq_true_eq, beq_iff_eq]

/-- The order of service is asymmetric. -/
theorem servedBefore_asymm {s : State} {c d : Case} (h : s.servedBefore c d = true) : s.servedBefore d c = false := by
  rw [servedBefore_iff] at h
  rw [Bool.eq_false_iff, Ne, servedBefore_iff]
  rintro (lower | ⟨level, lower | ⟨rank, pair⟩⟩)
  · exact h.elim (lt_asymm lower) fun same => (same.1 ▸ lower).false
  · obtain ⟨-, before | ⟨same, -⟩⟩ := h.resolve_left (level ▸ lt_irrefl _)
    · exact lt_asymm lower before
    · exact (same ▸ lower).false
  · obtain ⟨-, before | ⟨-, first⟩⟩ := h.resolve_left (level ▸ lt_irrefl _)
    · exact (rank ▸ before).false
    · exact lt_asymm pair first

/-- The case is of a higher level than the one on top. -/
def State.aboveTop (s : State) (c : Case) : Prop :=
  ∀ k ∈ s.arbiter.cases, s.arbiter.stack.head? = some k.number → c.level < k.level

theorem topCase?_iff {s : State} (cases : s.caseLaw = true) {k : Case} :
    s.topCase? = some k ↔ k ∈ s.arbiter.cases ∧ s.arbiter.stack.head? = some k.number := by
  constructor
  · intro top
    obtain ⟨member, rest, stack⟩ := topCase?_some top
    exact ⟨member, by rw [stack]; rfl⟩
  · rintro ⟨member, head⟩
    obtain ⟨rest, stack⟩ := List.head?_eq_some_iff.mp head
    rw [State.topCase?, stack]
    exact case?_of_mem cases member

theorem aboveTop_iff {s : State} (cases : s.caseLaw = true) (c : Case) :
    s.aboveTop c ↔ ∀ k, s.topCase? = some k → c.level < k.level :=
  ⟨fun h k top => have ⟨member, head⟩ := (topCase?_iff cases).mp top; h k member head,
    fun h k member head => h k ((topCase?_iff cases).mpr ⟨member, head⟩)⟩

theorem grantDue_eligible {s : State} {c : Case} (due : s.grantDue = some c) : s.eligible c = true := by
  have chosen : ∀ {d}, s.bestCase (s.arbiter.cases.filter s.eligible) = some d → s.eligible d = true :=
    fun best => (List.mem_filter.mp (bestCase_mem best)).2
  unfold State.grantDue at due
  split at due
  next => cases due
  next d best =>
    split at due
    · cases due
      exact chosen best
    · split at due
      · cases due
        exact chosen best
      · cases due

/-- The grant is due to the case that is first, when it is above the top. -/
theorem grantDue_first {s : State} (cases : s.caseLaw = true) {c : Case} (member : c ∈ s.arbiter.cases)
    (eligible : s.eligible c = true) (above : s.aboveTop c)
    (first : ∀ d ∈ s.arbiter.cases, s.eligible d = true → d ≠ c → s.servedBefore c d = true) : s.grantDue = some c := by
  have best : s.bestCase (s.arbiter.cases.filter s.eligible) = some c :=
    bestCase_first (List.mem_filter.mpr ⟨member, eligible⟩) fun d hd other => by
      obtain ⟨hd, served⟩ := List.mem_filter.mp hd
      exact ⟨first d hd served other, servedBefore_asymm (first d hd served other)⟩
  unfold State.grantDue
  rw [best]
  dsimp only
  split
  next => rfl
  next top found => exact if_pos ((aboveTop_iff cases c).mp above top found)

/-! ### The grant -/

/-- The case pushed is on top of the stack as it was, and its station is its level's last-served. -/
theorem pushCase_stack (s : State) (c : Case) : (s.pushCase c).arbiter.stack = c.number :: s.arbiter.stack := by
  unfold State.pushCase State.suspendTop
  split
  · rfl
  · rfl

theorem pushCase_lastServed (s : State) (c : Case) :
    (s.pushCase c).arbiter.lastServed = s.arbiter.lastServed.set c.level (some c.station) := by
  unfold State.pushCase State.suspendTop
  split <;> rfl

/-- The case that a grant serves is ACTIVE on top, its context there, or has left service already (R158, R166). -/
theorem grantCase_serves {s : State} (ordered : s.Ordered) {k : Case} (due : s.grantDue = some k) :
    (s.grantCase k).arbiter.lastServed = s.arbiter.lastServed.set k.level (some k.station) ∧
    (({ k with state := .active } ∈ (s.grantCase k).arbiter.cases ∧
      (s.grantCase k).arbiter.stack = k.number :: s.arbiter.stack ∧ ((s.grantCase k).context k.level).isSome = true) ∨
    ∃ o, LeftService (s.grantCase k) { k with state := .active } o) := by
  obtain ⟨l, attended⟩ := ordered
  have arbiter := suspendWork_arbiter s
  have still := (grantDue_congr arbiter (workSteps_suspendWork s).driving).trans due
  obtain ⟨m, pushed, -⟩ := attended_push (attended.of_eq (congrArg (·.cases) arbiter) (congrArg (·.stack) arbiter)) still
  obtain ⟨same, occupied⟩ := startContext_occupies (s.suspendWork.pushCase k) { k with state := .active }
  unfold State.grantCase
  generalize eq : (s.suspendWork.pushCase k).startContext { k with state := .active } = w at *
  obtain ⟨t, o⟩ := w
  have started : t.Attended ({ k with state := .active } :: m) :=
    pushed.of_eq (congrArg (·.cases) same) (congrArg (·.stack) same)
  have served : t.arbiter.lastServed = s.arbiter.lastServed.set k.level (some k.station) := by
    rw [same, pushCase_lastServed, arbiter]
  refine ⟨(workSteps_conclude _).lastServed.trans served, ?_⟩
  cases o with
  | none =>
    rw [conclude_none]
    refine .inl ⟨started.listed.mem _ List.mem_cons_self, ?_, occupied⟩
    rw [same, pushCase_stack, arbiter]
  | some o => exact .inr ⟨o, conclude_leaves started o⟩

theorem caseGrant_due {s : State} {k : Case} (due : s.grantDue = some k) : s.caseGrant = (s.grantCase k).settle := by
  unfold State.caseGrant
  rw [due]

/-- Settles O34: the case first in the order of service is the one that a grant is due to. -/
theorem grantServesFirstCase : Obligations.GrantServesFirstCase := by
  intro s cases stack eligible aboveTop turn
  have eligible_iff' (c : Case) : eligible c ↔ c ∈ s.arbiter.cases ∧ s.eligible c = true := by
    rw [eligible_iff]
  constructor
  · intro none
    have noDue : s.grantDue = .none := by
      by_contra due
      obtain ⟨c, due⟩ := Option.ne_none_iff_exists'.mp due
      obtain ⟨member, -, -, above⟩ := grantDue_some due
      exact none c ((eligible_iff' c).mpr ⟨member, grantDue_eligible due⟩) ((aboveTop_iff cases c).mpr above)
    change Host.Outcome.next s.caseGrant = .next s
    unfold State.caseGrant
    rw [noDue]
  · intro c hc above first
    have turn_eq (d : Case) : turn d = serveRank (s.arbiter.lastServed.get d.level) d.station := by
      dsimp only [turn, serveRank]
      cases s.arbiter.lastServed.get d.level <;> rfl
    obtain ⟨member, served⟩ := (eligible_iff' c).mp hc
    have due : s.grantDue = some c := grantDue_first cases member served above fun d hd serves other => by
      rw [servedBefore_iff, ← turn_eq, ← turn_eq]
      exact first d ((eligible_iff' d).mpr ⟨hd, serves⟩) other
    obtain ⟨last, result⟩ := grantCase_serves (ordered_iff.mpr ⟨cases, stack⟩) due
    have only := only_settle (s.grantCase c)
    have grant := only_grantCase s c
    refine ⟨s.caseGrant, rfl, ?_⟩
    rw [caseGrant_due due, only.arbiter_eq, only.port_eq, only.table_eq, only.line_eq, only.settings_eq, only.strays_eq,
      context_of_eq only.contexts_eq]
    refine ⟨last, ?_, grant.table_eq, grant.line_eq, grant.settings_eq, grant.strays_eq⟩
    obtain ⟨active, stack, context⟩ | ⟨o, held, -, -, raised⟩ := result
    · exact ⟨_, active, rfl, .inl ⟨rfl, stack, context⟩⟩
    · exact ⟨_, held, rfl, .inr ⟨o, rfl, raised⟩⟩

end Sys2Proof.Machine
end

section
/-! PROOFS. CLOSE: O33. -/

namespace Sys2Proof.Machine

theorem performClose_refused {s : State} (law : s.caseLaw = true) {n : Nat} {st : Status}
    (first : FirstApplies (s.closeChecks n) st) : performClose n s = s.refuse st := by
  obtain ⟨range, rfl⟩ | ⟨inside, rest⟩ := first
  · exact if_neg ((caseNumberOk_fails n).mpr range)
  have ok : caseNumberOk n = true := by
    by_contra out
    exact inside ((caseNumberOk_fails n).mp out)
  obtain ⟨absent, rfl⟩ | ⟨-, rest⟩ := rest
  · simp only [performClose, ok, if_true, case?_none.mpr absent]
  obtain ⟨⟨c, hc, rfl, serves⟩, rfl⟩ | ⟨-, ⟨⟩⟩ := rest
  simp only [performClose, ok, if_true, case?_of_mem law hc, Case.inService_iff.mpr serves]

theorem performClose_accepted {s : State} (law : s.caseLaw = true) {c : Case} (hc : c ∈ s.arbiter.cases)
    (none : NoneApplies (s.closeChecks c.number)) : performClose c.number s = (s.closeCase c).ok .empty := by
  have serves := none _ (.tail _ (.tail _ (.head _)))
  have idle : ¬c.inService = true := fun h => serves ⟨c, hc, rfl, Case.inService_iff.mp h⟩
  simp only [performClose, caseNumberOk_of_mem law hc, if_true, case?_of_mem law hc, idle, Bool.false_eq_true, if_false]

/-! ### A closed case -/

/-- The case taken off the Case List. -/
def State.delisted (s : State) (c : Case) : State :=
  s.setArbiter { s.arbiter with cases := s.arbiter.cases.filter fun d => d.number != c.number }

/-- Its pair part as it is after the closing. -/
def State.partClosed (s : State) (c : Case) : State :=
  ((s.delisted c).updatePart c.station c.pair fun q => { q with confirm := 0 }).refreshHealth c.station c.pair

/-- The latched word of its station dropped, when ALARM was a cause. -/
def State.latchClosed (s : State) (c : Case) : State :=
  if c.evidence.has .alarm then (s.partClosed c).dropLatch c.station else s.partClosed c

theorem closeCase_eq (s : State) (c : Case) : s.closeCase c = ((s.latchClosed c).releaseAuto c.number).settle := rfl

theorem mem_delisted {s : State} {c d : Case} :
    d ∈ (s.delisted c).arbiter.cases ↔ d ∈ s.arbiter.cases ∧ d.number ≠ c.number := by
  rw [State.delisted, State.setArbiter_arbiter, List.mem_filter, bne_iff_ne]

theorem dropLatch_only (s : State) (n : Nat) : Only [.table] s (s.dropLatch n) := by
  unfold State.dropLatch
  exact Only.ite (Only.refl _ s) (only_updateStation s n _)

theorem partClosed_only (s : State) (c : Case) : Only [.arbiter, .table] s (s.partClosed c) :=
  ((only_setArbiter s _).up.trans (only_updatePart _ _ _ _).up).trans (only_refreshHealth _ _ _).up

theorem latchClosed_arbiter (s : State) (c : Case) : (s.latchClosed c).arbiter = (s.delisted c).arbiter := by
  unfold State.latchClosed
  split
  · exact (dropLatch_only _ _).arbiter_eq
  · rfl

theorem latchClosed_claims (s : State) (c : Case) : (s.latchClosed c).claims = s.claims := by
  unfold State.latchClosed
  split
  · exact (dropLatch_only _ _).claims_eq
  · rfl

theorem releaseAuto_steps (s : State) (n : Nat) :
    WorkSteps (s.keepClaims fun c => !c.belongsTo n) (s.releaseAuto n) := by
  unfold State.releaseAuto
  split
  next => exact workSteps_announce _
  next none =>
    have same : (s.keepClaims fun c => !c.belongsTo n) = s := by
      have kept : s.claims.filter (fun c => !c.belongsTo n) = s.claims :=
        List.filter_eq_self.mpr fun c hc => by
          by_contra belongs
          exact none (List.any_eq_true.mpr ⟨c, hc, by simpa using belongs⟩)
      exact congrArg s.setClaims kept
    rw [same]

/-- No open case has the number, and no claim is such a case's. -/
def State.gone (s : State) (n : Nat) : Prop := (∀ c ∈ s.arbiter.cases, c.number ≠ n) ∧ ∀ c ∈ s.claims, c.owner ≠ .auto n

theorem WorkMove.gone {s t : State} {n : Nat} (h : WorkMove s t) (hs : s.gone n) : t.gone n := by
  refine ⟨fun c hc => ?_, ?_⟩
  · obtain ⟨g, cases, kept⟩ := h.casesKept
    rw [cases] at hc
    obtain ⟨d, hd, rfl⟩ := List.mem_map.mp hc
    have number : (g d).number = d.number := by rw [kept d]
    exact number ▸ hs.1 d hd
  have same {u : State} (claims : u.claims = s.claims) : ∀ c ∈ u.claims, c.owner ≠ .auto n := claims ▸ hs.2
  cases h with
  | contexts | occupy | controller | unpresent | present => exact same rfl
  | grant k p kind => exact same (only_grantTo s k p kind).claims_eq
  | submit p t => exact same (only_submit s p t).claims_eq
  | leave o => exact same (only_leaveService s o).claims_eq
  | askAuto k m p top =>
    obtain ⟨c, hc, rfl⟩ := List.mem_map.mp top.1
    unfold State.askAuto
    split
    next j _ =>
      intro d hd
      obtain rfl | stands := mem_addClaim.mp hd
      · exact fun e => hs.1 c hc (ClaimOwner.auto.inj e)
      · exact hs.2 d stands
    next => exact hs.2

theorem WorkSteps.gone {s t : State} {n : Nat} (h : WorkSteps s t) (hs : s.gone n) : t.gone n :=
  h.keeps (I := fun s => s.gone n) WorkMove.gone hs

theorem closeCase_gone (s : State) (c : Case) : (s.closeCase c).gone c.number := by
  have before : ((s.latchClosed c).keepClaims fun d => !d.belongsTo c.number).gone c.number := by
    refine ⟨fun d hd => ?_, fun d hd => ?_⟩
    · rw [(only_keepClaims _ _).arbiter_eq, latchClosed_arbiter] at hd
      exact (mem_delisted.mp hd).2
    · have kept := (List.mem_filter.mp hd).2
      simpa [Claim.belongsTo] using kept
  have after := (releaseAuto_steps (s.latchClosed c) c.number).gone before
  have only := only_settle ((s.latchClosed c).releaseAuto c.number)
  rw [closeCase_eq, State.gone, only.arbiter_eq, only.claims_eq]
  exact after

/-- The other cases stand, but for their states and claims. -/
theorem closeCase_others {s : State} {c d : Case} (hd : d ∈ s.arbiter.cases) (other : d.number ≠ c.number) :
    ∃ e ∈ (s.closeCase c).arbiter.cases, d.keeps e := by
  obtain ⟨g, cases, kept⟩ := (releaseAuto_steps (s.latchClosed c) c.number).casesKept
  have member : d ∈ ((s.latchClosed c).keepClaims fun d => !d.belongsTo c.number).arbiter.cases := by
    rw [(only_keepClaims _ _).arbiter_eq, latchClosed_arbiter]
    exact mem_delisted.mpr ⟨hd, other⟩
  refine ⟨g d, ?_, kept d⟩
  rw [closeCase_eq, (only_settle _).arbiter_eq, cases]
  exact List.mem_map_of_mem member

theorem closeCase_table (s : State) (c : Case) : (s.closeCase c).table = (s.latchClosed c).table := by
  rw [closeCase_eq, (only_settle _).table_eq, (only_releaseAuto _ _).table_eq]

theorem station?_updateStation (s : State) (n m : Nat) {f : Station → Station} (number : ∀ r, (f r).number = r.number) :
    (s.updateStation n f).station? m = if m = n then (s.station? m).map f else s.station? m := by
  have test : (fun r : Station => (if r.number == n then f r else r).number == m) = fun r => r.number == m := by
    funext r
    split
    · rw [number]
    · rfl
  rw [State.station?, State.updateStation, State.setTable_table, List.find?_map]
  simp only [Function.comp_def, test]
  change (s.station? m).map _ = _
  cases found : s.station? m with
  | none => simp
  | some r =>
    have named := (station?_some found).2
    by_cases e : m = n <;> simp [named, e]

theorem part?_dropLatch (s : State) (n m : Nat) (p : Pair) : (s.dropLatch n).part? m p = s.part? m p := by
  unfold State.dropLatch
  split
  · rfl
  · rw [State.part?, State.part?, station?_updateStation (f := fun r => { r with latched := none }) s n m fun _ => rfl]
    by_cases same : m = n
    · rw [if_pos same]
      cases s.station? m <;> rfl
    · rw [if_neg same]

theorem part?_partClosed {s : State} (law : s.caseLaw = true) {c : Case} (hc : c ∈ s.arbiter.cases) {q : PairPart}
    (found : s.part? c.station c.pair = some q) : (s.partClosed c).part? c.station c.pair =
      some { q with confirm := 0, health := healthOf false { q with confirm := 0 } } := by
  have zeroed : ((s.delisted c).updatePart c.station c.pair fun q => { q with confirm := 0 }).part? c.station c.pair =
      some { q with confirm := 0 } := by
    rw [part?_updatePart_self (f := fun q => { q with confirm := 0 }) _ _ _ fun _ => rfl,
      part?_of_table (s := s) (t := s.delisted c) rfl, found]
    rfl
  have none : ((s.delisted c).updatePart c.station c.pair fun q => { q with confirm := 0 }).caseAt? c.station c.pair =
      .none := by
    rw [caseAt?_of_arbiter (only_updatePart _ _ _ _).arbiter_eq, caseAt?_none]
    intro d hd same
    obtain ⟨hd, other⟩ := mem_delisted.mp hd
    have one := caseAt?_of_mem law hd
    rw [same.1, same.2, caseAt?_of_mem law hc] at one
    exact other (congrArg Case.number (Option.some.inj one)).symm
  rw [State.partClosed, part?_refreshHealth, zeroed, none]
  rfl

theorem part?_closeCase {s : State} (law : s.caseLaw = true) {c : Case} (hc : c ∈ s.arbiter.cases) {q : PairPart}
    (found : s.part? c.station c.pair = some q) : (s.closeCase c).part? c.station c.pair =
      some { q with confirm := 0, health := healthOf false { q with confirm := 0 } } := by
  rw [part?_of_table (closeCase_table s c), ← part?_partClosed law hc found]
  unfold State.latchClosed
  split
  · exact part?_dropLatch _ _ _ _
  · rfl

theorem closeCase_latched {s : State} {c : Case} (alarm : c.evidence.alarm ≠ none)
    (others : ∀ d ∈ s.arbiter.cases, d.station = c.station → d.number ≠ c.number → d.evidence.alarm = none) {r : Station}
    (found : (s.closeCase c).station? c.station = some r) : r.latched = none := by
  have has : c.evidence.has .alarm = true := Option.isSome_iff_ne_none.mpr alarm
  have quiet : (s.partClosed c).hasAlarmCase c.station = false := by
    refine List.any_eq_false.mpr fun d hd => ?_
    obtain ⟨hd, other⟩ := mem_delisted.mp hd
    rw [Bool.and_eq_true, beq_iff_eq]
    rintro ⟨station, alarm⟩
    have absent := others d hd station other
    rw [Evidence.has, absent] at alarm
    cases alarm
  rw [station?_of_table (closeCase_table s c), State.latchClosed, if_pos has, State.dropLatch, if_neg (by simp [quiet]),
    station?_updateStation (f := fun r => { r with latched := none }) _ _ _ fun _ => rfl, if_pos rfl] at found
  obtain ⟨x, -, rfl⟩ := Option.map_eq_some_iff.mp found
  rfl

/-- Settles O33: the case leaves the list first, so no work that follows its claim's release is its own. -/
theorem closeRemovesCase : Obligations.CloseRemovesCase := by
  refine fun n s idle cases stack => ⟨fun st first => refuses_of_eq rfl idle (performClose_refused cases first),
    fun none c hc number => ?_⟩
  subst number
  obtain ⟨gone, claims⟩ := closeCase_gone s c
  have only := only_closeCase s c
  refine ⟨s.closeCase c, answers_of_eq rfl idle (performClose_accepted cases hc none), gone, fun d hd other => ?_, claims,
    fun q found => part?_closeCase cases hc found, fun alarm others r found => closeCase_latched alarm others found,
    only.line_eq, only.settings_eq, only.strays_eq⟩
  obtain ⟨e, he, kept⟩ := closeCase_others hd other
  exact ⟨e, he, by rw [kept], by rw [kept], by rw [kept], by rw [kept]⟩

end Sys2Proof.Machine
end

section
/-! PROOFS. What grants and plans write of a Survey Controller; a pair that enters DRIVING: O27. -/

namespace Sys2Proof.Machine

/-! ### Grants -/

/-- The second controller is the first but for a grant: RUNNING, with the view of its round, its focused request
gone. -/
structure SurveyController.Granted (c d : SurveyController) : Prop where
  stands : d = { c with state := d.state, lastView := d.lastView, focused := d.focused }
  state : d.state = c.state ∨ d.state = .running
  focused : d.focused = c.focused ∨ d.focused = none

theorem SurveyController.Granted.refl (c : SurveyController) : c.Granted c := ⟨rfl, .inl rfl, .inl rfl⟩

theorem SurveyController.Granted.trans {c d e : SurveyController} (h : c.Granted d) (k : d.Granted e) : c.Granted e := by
  refine ⟨?_, k.state.elim (fun same => same ▸ h.state) .inr, k.focused.elim (fun same => same ▸ h.focused) .inr⟩
  rw [k.stands, h.stands]

theorem grantTo_granted (s : State) (k : CorrelatorNo) (p : Pair) (kind : RoundKind) (q : Pair) :
    (s.sc q).Granted ((s.grantTo k p kind).sc q) := by
  have written : (s.grantTo k p kind).sc q = if q = p then { s.sc p with
      state := .running, lastView := some (s.roundDefinition p).view,
      focused := if kind == .focused then none else (s.sc p).focused } else s.sc q := by
    unfold State.grantTo
    dsimp only
    split <;> exact Oct.get_set _ _ _ _
  rw [written]
  split
  next e =>
    rw [e]
    refine ⟨rfl, .inr rfl, ?_⟩
    dsimp only
    split
    · exact .inr rfl
    · exact .inl rfl
  next => exact .refl _

theorem grantOne_granted (s : State) (q : Pair) : (s.sc q).Granted (s.grantOne.sc q) := by
  unfold State.grantOne
  split
  · exact grantTo_granted s _ _ _ q
  · exact .refl _

theorem grantAll_granted (s : State) (q : Pair) : (s.sc q).Granted (s.grantAll.sc q) :=
  (((grantOne_granted s q).trans (grantOne_granted _ q)).trans (grantOne_granted _ q)).trans (grantOne_granted _ q)

/-! ### Plans -/

theorem askPool_granted (s : State) (p : Pair) : ({ s.sc p with state := .waiting } : SurveyController).Granted
    ((s.askPool p).sc p) := by
  have waits : (s.setSc p { s.sc p with state := .waiting }).sc p = { s.sc p with state := .waiting } :=
    State.sc_setSc_self _ _ _
  unfold State.askPool
  dsimp only
  split
  · rw [waits]
    exact .refl _
  · have granted := grantAll_granted ((s.setSc p { s.sc p with state := .waiting }).setPool
      { s.pool with presented := insertRequest p ((s.sc p).roundKind.getD .regular) s.pool.presented }) p
    change ((s.setSc p { s.sc p with state := .waiting }).sc p).Granted _ at granted
    rwa [waits] at granted

theorem submits_survey (p : Pair) (plan : List Telegram) (s : State) :
    (plan.foldl (State.submit · p) s).survey = s.survey := by
  induction plan generalizing s with
  | nil => rfl
  | cons t rest ih => exact (ih _).trans (only_submit s p t).survey_eq

/-- What a plan leaves of its controller: it is STEERING, or it has asked for a correlator. -/
theorem runPlan_sc (s : State) (p : Pair) (plan : List Telegram) :
    (s.runPlan p plan).sc p = { s.sc p with state := .steering } ∨
    ({ s.sc p with state := .waiting } : SurveyController).Granted ((s.runPlan p plan).sc p) := by
  unfold State.runPlan
  split
  · exact .inr (askPool_granted s p)
  · refine .inl ?_
    rw [State.sc, submits_survey]
    exact State.sc_setSc_self _ _ _

/-! ### Entering DRIVING -/

/-- The controller as the survey starts: every steering state UNKNOWN, the rotation at TRUNK. -/
def SurveyController.afresh (c : SurveyController) : SurveyController :=
  { c with steering := c.steering.map fun e => (e.1, Steering.unknown), rotation := .trunk, dwellCount := 0, focused := none }

/-- The first plan of a survey is a REGULAR round of TRUNK (R30). -/
theorem startSurvey_eq {s : State} {p : Pair} (dwell : 1 ≤ (s.settings.get p).dwell) : ∃ plan : List Telegram,
    s.startSurvey p = (s.setSc p { (s.sc p).afresh with
      roundView := some .trunk, roundKind := some .regular, planStale := false }).runPlan p plan := by
  have fresh : (s.setSc p (s.sc p).afresh).sc p = (s.sc p).afresh := State.sc_setSc_self _ _ _
  have stays : (false || decide (((s.setSc p (s.sc p).afresh).settings.get p).dwell ≤ (s.sc p).afresh.dwellCount) ||
      !(s.setSc p (s.sc p).afresh).available p (s.sc p).afresh.rotation) = false := by
    have settings (c : SurveyController) : (s.setSc p c).settings = s.settings := rfl
    simpa [SurveyController.afresh, State.available, settings] using Nat.pos_iff_ne_zero.mp dwell
  change ∃ plan, (s.setSc p (s.sc p).afresh).planRegular p false true = _
  unfold State.planRegular
  dsimp only
  rw [fresh, stays]
  exact ⟨_, congrArg (State.runPlan · p _) (State.setSc_setSc s p _ _)⟩

/-- What the survey's start leaves of its controller (R30). -/
theorem startSurvey_sc {s : State} {p : Pair} (dwell : 1 ≤ (s.settings.get p).dwell) : ∃ st v,
    (s.startSurvey p).sc p = { (s.sc p).afresh with
      roundView := some .trunk, roundKind := some .regular, planStale := false, state := st, lastView := v } ∧
    (st = .steering ∨ st = .waiting ∨ st = .running) := by
  obtain ⟨plan, eq⟩ := startSurvey_eq dwell
  have before : (s.setSc p { (s.sc p).afresh with
      roundView := some .trunk, roundKind := some .regular, planStale := false }).sc p = { (s.sc p).afresh with
        roundView := some .trunk, roundKind := some .regular, planStale := false } := State.sc_setSc_self _ _ _
  rw [eq]
  obtain steering | ⟨stands, state, focused⟩ := runPlan_sc (s.setSc p { (s.sc p).afresh with
    roundView := some .trunk, roundKind := some .regular, planStale := false }) p plan
  · rw [before] at steering
    exact ⟨_, _, steering, .inl rfl⟩
  · rw [before] at stands state focused
    have none := focused.elim id id
    rw [none] at stands
    exact ⟨_, _, stands, .inr state⟩

theorem settle_sc (s : State) (q : Pair) : s.settle.sc q = s.sc q := by
  rw [State.sc, (only_settle s).survey_eq, State.sc]

theorem startSurvey_role {s : State} {p : Pair} (driving : (s.sc p).role = .driving) (q : Pair) :
    ((s.startSurvey p).sc q).role = (s.sc q).role := by
  have live : (s.setSc p (s.sc p).afresh).live p := .inl (by
    rw [State.driving, State.sc_setSc_self, beq_iff_eq]
    exact driving)
  have planned := (planSteps_planRegular live false true).work.role q
  change ((s.startSurvey p).sc q).role = _ at planned
  rw [planned]
  by_cases e : q = p
  · rw [e, State.sc_setSc_self]
    rfl
  · rw [State.sc_setSc_ne _ _ e]

/-- The role written, and a pair that was LISTENING has left it: the state in which a survey then starts. -/
def State.readied (s : State) (p : Pair) (r : Role) : State :=
  if (s.sc p).role = .listening then (s.setRole p r).leaveListening p else s.setRole p r

theorem changeRole_eq {s : State} {p : Pair} (idle : (s.sc p).role ≠ .driving) (r : Role) :
    s.changeRole p r = if r = .driving then (s.readied p r).startSurvey p else s.readied p r := by
  unfold State.changeRole State.readied
  dsimp only
  cases role : (s.sc p).role with
  | driving => exact absurd role idle
  | off => cases r <;> rfl
  | listening => cases r <;> rfl

theorem setRole_sc (s : State) (p q : Pair) (r : Role) :
    (s.setRole p r).sc q = if q = p then { s.sc p with role := r } else s.sc q := by
  by_cases e : q = p
  · rw [if_pos e, e]
    exact State.sc_setSc_self _ _ _
  · rw [if_neg e]
    exact State.sc_setSc_ne _ _ e

theorem releaseFar_steps (s : State) (p : Pair) : WorkSteps (s.keepClaims fun c => !c.isFarOn p) (s.releaseFar p) := by
  unfold State.releaseFar
  split
  next => exact workSteps_announce _
  next none =>
    have same : (s.keepClaims fun c => !c.isFarOn p) = s := by
      have kept : s.claims.filter (fun c => !c.isFarOn p) = s.claims :=
        List.filter_eq_self.mpr fun c hc => by
          by_contra belongs
          exact none (List.any_eq_true.mpr ⟨c, hc, by simpa using belongs⟩)
      exact congrArg s.setClaims kept
    rw [same]

/-- The work that leaves LISTENING keeps the flags, the steering states, the round counter and the roles. -/
theorem readied_agrees (s : State) (p q : Pair) (r : Role) :
    ((s.setRole p r).sc q).agrees ((s.readied p r).sc q) := by
  unfold State.readied
  split
  · exact (releaseFar_steps ((s.setRole p r).endListening p) p).agrees q
  · exact .refl _

theorem readied_only (s : State) (p : Pair) (r : Role) : Only sequencerParts s (s.readied p r) := by
  unfold State.readied
  exact Only.ite ((only_setSc s p _).up.trans (only_leaveListening _ p)) (only_setSc s p _).up

/-- The part's own work, and the close of the event. -/
abbrev workParts : List Part := [.port, .survey, .pool, .telegrams, .arbiter, .claims, .contexts, .sweeper]

theorem startedSurvey_only (s : State) (p : Pair) : Only workParts s ((s.readied p .driving).startSurvey p).settle :=
  ((readied_only s p .driving).up.trans (only_startSurvey _ p).up).trans (only_settle _).up

/-- A pair that did not drive enters DRIVING by ROLE (R115, R116). -/
theorem role_driving {s : State} {p : Pair} (notDriving : (s.sc p).role ≠ .driving) :
    s.role p .driving = ((s.readied p .driving).startSurvey p).settle := by
  rw [State.role_other notDriving, changeRole_eq notDriving, if_pos rfl]

/-- The controller of a pair that has entered DRIVING (R30, R116). -/
theorem role_driving_sc {s : State} {p : Pair} (notDriving : (s.sc p).role ≠ .driving) (settings : s.settingsLaw = true) :
    ∃ c : SurveyController, (s.role p .driving).sc p = c ∧ (c.state = .steering ∨ c.state = .waiting ∨ c.state = .running) ∧
    c.role = .driving ∧ c.contention = (s.sc p).contention ∧ c.statusRead = (s.sc p).statusRead ∧ c.rotation = .trunk ∧
    c.dwellCount = 0 ∧ c.roundView = some .trunk ∧ c.roundKind = some .regular ∧ c.focused = none ∧
    c.roundCounter = (s.sc p).roundCounter ∧ c.steering = ((s.sc p).steering.map fun e => (e.1, Steering.unknown)) := by
  have dwell : 1 ≤ ((s.readied p .driving).settings.get p).dwell := by
    rw [(readied_only s p .driving).settings_eq]
    have wf := (settingsLaw_iff.mp settings).2 p
    simp only [PairSettings.wf, Bool.and_eq_true, inRange_iff] at wf
    exact wf.1.1.1.1.2.1
  obtain ⟨st, v, sc, state⟩ := startSurvey_sc dwell
  obtain ⟨role, contention, statusRead, steering, counter⟩ := readied_agrees s p p .driving
  rw [setRole_sc, if_pos rfl] at role contention statusRead steering counter
  have final := (settle_sc ((s.readied p .driving).startSurvey p) p).trans sc
  rw [← role_driving notDriving] at final
  exact ⟨_, final, state, role, contention, statusRead, rfl, rfl, rfl, rfl, rfl, counter,
    congrArg (List.map fun e : Nat × Steering => (e.1, Steering.unknown)) steering⟩

/-- Settles O27: the start of the survey writes the controller over, whatever leaving LISTENING has done. -/
theorem roleEntersDriving : Obligations.RoleEntersDriving := by
  intro p s idle settings notDriving equipped uncontended
  obtain ⟨c, sc, state, role, contention, statusRead, rotation, dwell, view, kind, focused, counter, steering⟩ :=
    role_driving_sc notDriving settings
  have others (q : Pair) (other : q ≠ p) : ((s.role p .driving).sc q).role = (s.sc q).role := by
    have drives : ((s.readied p .driving).sc p).role = .driving := by
      rw [(readied_agrees s p p .driving).1, setRole_sc, if_pos rfl]
    rw [role_driving notDriving, settle_sc, startSurvey_role drives, (readied_agrees s p q .driving).1, setRole_sc,
      if_neg other]
  have only : Only workParts s (s.role p .driving) := role_driving notDriving ▸ startedSurvey_only s p
  refine ⟨s.role p .driving, answers_of_eq rfl idle ?_, ?_⟩
  · rw [performRole_read s (readRole_driving.mpr rfl), if_neg (by simp [equipped]), if_neg (by simp [uncontended])]
    rfl
  · rw [sc]
    refine ⟨role, contention.trans uncontended, statusRead, rotation, dwell, view, kind, focused, counter, steering, ?_, ?_,
      others, only.table_eq, only.line_eq, only.settings_eq, only.strays_eq⟩
    · intro halted
      simp [halted] at state
    · intro result
      simp [result] at state

end Sys2Proof.Machine
end

section
/-! PROOFS. What the part's own work and the close of an event leave of a Telegram Controller; entering and leaving
LISTENING: O29. -/

namespace Sys2Proof.Machine

/-! ### A Telegram Controller under work and the close of the event -/

/-- The second controller is the first but for its queue and wait line. -/
def TelegramController.Lined (c d : TelegramController) : Prop := d = { c with queue := d.queue, waitLine := d.waitLine }

theorem TelegramController.Lined.refl (c : TelegramController) : c.Lined c := rfl

theorem TelegramController.Lined.trans {c d e : TelegramController} (h : c.Lined d) (k : d.Lined e) : c.Lined e := by
  rw [Lined] at h k ⊢
  rw [k, h]

theorem TelegramController.Lined.outstanding {c d : TelegramController} (h : c.Lined d) : d.outstanding = c.outstanding := by
  rw [h]

theorem TelegramController.lined_submit (c : TelegramController) (t : Telegram) : c.Lined (c.submit t) := by
  unfold TelegramController.submit
  split
  · rfl
  · split <;> rfl

theorem lined_submit (s : State) (p : Pair) (t : Telegram) (q : Pair) : (s.tc q).Lined ((s.submit p t).tc q) := by
  unfold State.submit
  split
  · rw [tc_setTc]
    split
    next e =>
      rw [e]
      exact TelegramController.lined_submit _ t
    next => exact .refl _
  · exact .refl _

theorem lined_of_telegrams {s t : State} (h : t.telegrams = s.telegrams) (q : Pair) : (s.tc q).Lined (t.tc q) := by
  rw [State.tc, State.tc, h]
  exact .refl _

theorem WorkMove.lined {s t : State} (h : WorkMove s t) (q : Pair) : (s.tc q).Lined (t.tc q) := by
  cases h with
  | contexts | occupy | controller | unpresent | present => exact .refl _
  | grant k p kind => exact lined_of_telegrams (only_grantTo s k p kind).telegrams_eq q
  | submit p t => exact lined_submit s p t q
  | askAuto k n p _ => exact lined_of_telegrams (only_askAuto s k n p).telegrams_eq q
  | leave o => exact lined_of_telegrams (only_leaveService s o).telegrams_eq q

theorem WorkSteps.lined {s t : State} (h : WorkSteps s t) (q : Pair) : (s.tc q).Lined (t.tc q) :=
  h.lift (R := fun s t => (s.tc q).Lined (t.tc q)) (fun _ => .refl _) .trans fun move => move.lined q

/-- The second controller is the first but for its queue and wait line, and for a telegram sent on its first try. -/
structure TelegramController.Sent (c d : TelegramController) : Prop where
  overheard : d.overheard = c.overheard
  abandoned : d.abandoned = c.abandoned
  exchange : (d.outstanding = c.outstanding ∧ d.tagCounter = c.tagCounter) ∨
    (c.outstanding = none ∧ d.tagCounter = (c.tagCounter + 1) % 16 ∧
      ∃ w, d.outstanding = some w ∧ w.attempt = 1 ∧ w.tag = (c.tagCounter + 1) % 16)

theorem TelegramController.Sent.refl (c : TelegramController) : c.Sent c := ⟨rfl, rfl, .inl ⟨rfl, rfl⟩⟩

theorem TelegramController.Sent.trans {c d e : TelegramController} (h : c.Sent d) (k : d.Sent e) : c.Sent e := by
  refine ⟨k.overheard.trans h.overheard, k.abandoned.trans h.abandoned, ?_⟩
  obtain ⟨outstanding, tag⟩ | ⟨free, tag, w, outstanding, sent⟩ := k.exchange
  · rw [outstanding, tag]
    exact h.exchange
  · obtain ⟨before, before'⟩ | ⟨-, -, w, before, -⟩ := h.exchange
    · rw [before] at free
      rw [before'] at tag sent
      exact .inr ⟨free, tag, w, outstanding, sent⟩
    · rw [free] at before
      cases before

theorem TelegramController.Lined.sent {c d : TelegramController} (h : c.Lined d) : c.Sent d := by
  rw [h]
  exact ⟨rfl, rfl, .inl ⟨rfl, rfl⟩⟩

theorem sent_setTc {s : State} {p : Pair} {c : TelegramController} (h : (s.tc p).Sent c) (q : Pair) :
    (s.tc q).Sent ((s.setTc p c).tc q) := by
  rw [tc_setTc]
  split
  next e => rwa [e]
  next => exact .refl _

theorem WorkSteps.sent {s t : State} (h : WorkSteps s t) (q : Pair) : (s.tc q).Sent (t.tc q) := (h.lined q).sent

theorem sent_fillPair (s : State) (p q : Pair) : (s.tc q).Sent ((s.fillPair p).tc q) :=
  sent_setTc (TelegramController.Lined.sent (by rfl)) q

theorem sent_sendHead (s : State) (p q : Pair) : (s.tc q).Sent ((s.sendHead p).tc q) := by
  unfold State.sendHead
  dsimp only
  split
  next t rest driving free queue =>
    split
    next r _ =>
      unfold State.launch
      rw [tc_setTc, tc_setTc, tc_setTc]
      split
      next e =>
        rw [e, if_pos rfl]
        exact ⟨rfl, rfl, .inr ⟨free, rfl, _, rfl, rfl, rfl⟩⟩
      next => exact .refl _
    next => exact sent_setTc (TelegramController.Lined.sent (by rfl)) q
  next => exact .refl _

theorem sent_advanceCursor (s : State) (p q : Pair) : (s.tc q).Sent ((s.advanceCursor p).tc q) := by
  unfold State.advanceCursor
  split
  · split
    · exact sent_setTc (TelegramController.Lined.sent (by rfl)) q
    · exact .refl _
  · exact .refl _

theorem sent_settle (s : State) (q : Pair) : (s.tc q).Sent (s.settle.tc q) :=
  settle_keeps (I := fun u => (s.tc q).Sent (u.tc q)) (fun u p h => h.trans (sent_fillPair u p q))
    (fun u p h => h.trans (sent_sendHead u p q)) (fun u p h => h.trans (sent_advanceCursor u p q)) (fun _ _ h => h)
    (.refl _)

theorem startSurvey_steps {s : State} {p : Pair} (driving : (s.sc p).role = .driving) :
    WorkSteps (s.setSc p (s.sc p).afresh) (s.startSurvey p) := by
  have live : (s.setSc p (s.sc p).afresh).live p := .inl (by
    rw [State.driving, State.sc_setSc_self, beq_iff_eq]
    exact driving)
  exact (planSteps_planRegular live false true).work

/-! ### Entering and leaving LISTENING -/

/-- ROLE to OFF or to LISTENING from the other of the two: no survey starts (R118). -/
theorem role_off_listening {s : State} {p : Pair} {r : Role} (idle : (s.sc p).role ≠ .driving) (other : (s.sc p).role ≠ r)
    (notDriving : r ≠ .driving) : s.role p r = (s.readied p r).settle := by
  rw [State.role_other other, changeRole_eq idle, if_neg notDriving]

/-- What leaving LISTENING leaves of the claims and of the Telegram Controller (R97, R98, R118, R153). -/
structure LeftListening (s : State) (p : Pair) (t : State) : Prop where
  claims : ClaimsGrow (s.keepClaims fun c => !c.isFarOn p) t
  overheard : (t.tc p).overheard = []
  abandoned : (t.tc p).abandoned = none
  only : Only workParts s t

theorem leftListening_readied {s : State} {p : Pair} (listening : (s.sc p).role = .listening) (r : Role) :
    LeftListening s p (s.readied p r) := by
  have steps := releaseFar_steps ((s.setRole p r).endListening p) p
  have sent := steps.sent p
  have cleared : (((s.setRole p r).endListening p).tc p).overheard = [] ∧
      (((s.setRole p r).endListening p).tc p).abandoned = none := by
    rw [State.endListening, tc_setTc, if_pos rfl]
    exact ⟨rfl, rfl⟩
  have only := (readied_only s p r).up (m := workParts)
  rw [State.readied, if_pos listening] at *
  exact ⟨steps.claimsGrow, sent.overheard.trans cleared.1, sent.abandoned.trans cleared.2, only⟩

theorem LeftListening.after {s t u : State} {p : Pair} (h : LeftListening s p t) (claims : u.claims = t.claims)
    (sent : (t.tc p).Sent (u.tc p)) (only : Only workParts t u) : LeftListening s p u :=
  ⟨h.claims.trans (claimsGrow_of_eq claims), sent.overheard.trans h.overheard, sent.abandoned.trans h.abandoned,
    h.only.trans only⟩

/-- ROLE out of LISTENING. -/
theorem leftListening_role {s : State} {p : Pair} {r : Role} (listening : (s.sc p).role = .listening)
    (other : r ≠ .listening) : LeftListening s p (s.role p r) := by
  have idle : (s.sc p).role ≠ .driving := by
    rw [listening]
    decide
  have left := leftListening_readied listening r
  by_cases driving : r = .driving
  · subst driving
    rw [role_driving idle]
    have role : ((s.readied p .driving).sc p).role = .driving := by
      rw [(readied_agrees s p p .driving).1, setRole_sc, if_pos rfl]
    have started := only_startSurvey (s.readied p .driving) p
    have settled := only_settle ((s.readied p .driving).startSurvey p)
    exact left.after (settled.claims_eq.trans started.claims_eq)
      (((startSurvey_steps role).sent p).trans (sent_settle _ p)) (started.up.trans settled.up)
  · rw [role_off_listening idle (fun same => other (listening ▸ same.symm)) driving]
    have settled := only_settle (s.readied p r)
    exact left.after settled.claims_eq (sent_settle _ p) settled.up

theorem role_role {s : State} {p : Pair} {r : Role} (idle : (s.sc p).role ≠ .driving) : ((s.role p r).sc p).role = r := by
  by_cases same : (s.sc p).role = r
  · rw [State.role_same same, same]
  have role : ((s.readied p r).sc p).role = r := by rw [(readied_agrees s p p r).1, setRole_sc, if_pos rfl]
  by_cases driving : r = .driving
  · subst driving
    rw [role_driving idle, settle_sc, startSurvey_role role, role]
  · rw [role_off_listening idle same driving, settle_sc, role]

theorem isFarOn_iff (c : Claim) (p : Pair) : c.isFarOn p = true ↔ c.owner = .far ∧ c.pair = .one p := by
  simp [Claim.isFarOn]

/-- Settles O29: a role that is not DRIVING has no work to end; LISTENING has its FAR claims, which go first. -/
theorem roleEntersAndLeavesListening : Obligations.RoleEntersAndLeavesListening := by
  intro p s idle
  constructor
  · intro off
    have notDriving : (s.sc p).role ≠ .driving := by
      rw [off]
      decide
    have entered : s.role p .listening = (s.setRole p .listening).settle := by
      rw [role_off_listening notDriving (by rw [off]; decide) (by decide), State.readied, if_neg (by rw [off]; decide)]
    refine ⟨s.role p .listening, answers_of_eq rfl idle ?_, ?_, ?_⟩
    · rw [performRole_read (r := .listening) s rfl]
      rfl
    · rw [entered, settle_sc, setRole_sc, if_pos rfl]
    · rw [entered]
      exact (only_setSc s p _).up.trans (only_settle _).up
  · intro n r listening read other able
    have left := leftListening_role listening other
    refine ⟨s.role p r, answers_of_eq rfl idle ?_, role_role (by rw [listening]; decide), fun c hc far => ?_,
      fun c hc notFar => left.claims.1 c (List.mem_filter.mpr ⟨hc, ?_⟩), left.overheard, left.abandoned,
      left.only.table_eq, left.only.line_eq, left.only.settings_eq, left.only.strays_eq⟩
    · have equipped : ¬(r == .driving && !s.equipped p) = true := fun h => by
        simp only [Bool.and_eq_true, beq_iff_eq, Bool.not_eq_true'] at h
        rw [(able h.1).1] at h
        cases h.2
      have uncontended : ¬(r == .driving && (s.sc p).contention) = true := fun h => by
        simp only [Bool.and_eq_true, beq_iff_eq] at h
        rw [(able h.1).2] at h
        cases h.2
      rw [performRole_read s read, if_neg equipped, if_neg uncontended]
      rfl
    · obtain kept | ⟨k, auto⟩ := left.claims.2 c hc
      · have notFar := (List.mem_filter.mp kept).2
        rw [(isFarOn_iff c p).mpr far] at notFar
        cases notFar
      · rw [far.1] at auto
        cases auto
    · rw [← isFarOn_iff] at notFar
      simpa using notFar

end Sys2Proof.Machine
end

section
/-! PROOFS. What an exchange that ends leaves: the records, the cases, the context told; the reply timer on try 2:
O42. -/

namespace Sys2Proof.Machine

/-! ### A WAITING pair planned again -/

/-- A WAITING pair with no focused request is planned again without a word to the Sequencer. -/
theorem replanned_plans {s : State} {p : Pair} (calm : (s.sc p).focused = none ∨ (s.sc p).state ≠ .waiting) :
    PlanSteps s (s.replanned p) := by
  have told : (s.replan p).2 = none := by
    unfold State.replan
    split
    next waiting =>
      have unfocused : ((s.unpresent p).sc p).focused = none :=
        calm.resolve_right fun other => other (beq_iff_eq.mp waiting)
      unfold State.plan
      rw [unfocused]
      split <;> rfl
    next => rfl
  have silent : s.replanned p = (s.replan p).1 := by
    unfold State.replanned State.tellRefused
    rw [told]
  rw [silent]
  exact planSteps_replan s p

/-- The steps of a replanning that a change of a unit brings. -/
theorem replanIfChanged_steps (s before : State) (p : Pair) (n : Nat) : WorkSteps s (s.replanIfChanged before p n) := by
  unfold State.replanIfChanged
  split
  · exact .refl
  · exact workSteps_replanned s p

theorem replanIfChanged_plans {s : State} {p : Pair} (calm : (s.sc p).focused = none ∨ (s.sc p).state ≠ .waiting)
    (before : State) (n : Nat) : PlanSteps s (s.replanIfChanged before p n) := by
  unfold State.replanIfChanged
  split
  · exact .refl
  · exact replanned_plans calm

/-! ### Cases under an event told -/

/-- All of a case but its state, its claim and the action taken. -/
def Case.stands (c d : Case) : Prop := d = { c with state := d.state, claim := d.claim, actionTaken := d.actionTaken }

/-- The Case List case by case, each standing but for its state, its claim and the action taken. -/
def CasesStand (s t : State) : Prop := ∃ g : Case → Case, t.arbiter.cases = s.arbiter.cases.map g ∧ ∀ c : Case, c.stands (g c)

theorem CasesKept.stand {s t : State} (h : CasesKept s t) : CasesStand s t := by
  obtain ⟨g, cases, kept⟩ := h
  refine ⟨g, cases, fun c => ?_⟩
  rw [Case.stands, kept c]

theorem CasesStand.trans {s t u : State} (h : CasesStand s t) (k : CasesStand t u) : CasesStand s u := by
  obtain ⟨f, cases, stands⟩ := h
  obtain ⟨g, cases', stands'⟩ := k
  refine ⟨g ∘ f, by rw [cases', cases, List.map_map], fun c => ?_⟩
  have second := stands' (f c)
  rw [Case.stands, stands c] at second
  rw [Function.comp_apply, Case.stands, stands c, second]

theorem casesStand_of_eq {s t : State} (cases : t.arbiter.cases = s.arbiter.cases) : CasesStand s t :=
  (casesKept_of_eq cases).stand

theorem casesStand_writeAction (s : State) (c : Context) (e : ContextEvent) : CasesStand s (s.writeAction c e) := by
  unfold State.writeAction
  split
  · split
    next cmd _ _ =>
      split
      · refine ⟨_, rfl, fun k => ?_⟩
        split <;> rfl
      · exact casesStand_of_eq rfl
    next => exact casesStand_of_eq rfl
  · exact casesStand_of_eq rfl

theorem casesStand_tell (s : State) (l : Level) (e : ContextEvent) : CasesStand s (s.tell l e) := by
  cases h : s.context l with
  | none =>
    rw [tell_empty h]
    exact casesStand_of_eq rfl
  | some c => exact (casesStand_writeAction s c e).trans (workSteps_tell h e).casesKept.stand

/-- What an event told leaves of the controllers and of attention. -/
theorem tell_reaches (s : State) (l : Level) (e : ContextEvent) :
    (∀ q, (s.tc q).Sent ((s.tell l e).tc q)) ∧ (∀ q, (s.sc q).agrees ((s.tell l e).sc q)) ∧
    s.port.attention.Within (s.tell l e).port.attention := by
  cases h : s.context l with
  | none =>
    rw [tell_empty h]
    exact ⟨fun _ => .refl _, fun _ => .refl _, .refl _⟩
  | some c =>
    have only := only_writeAction s c e
    have steps := workSteps_tell h e
    refine ⟨fun q => ?_, fun q => ?_, ?_⟩
    · have sent := steps.sent q
      rwa [State.tc, only.telegrams_eq, ← State.tc] at sent
    · have agrees := steps.agrees q
      rwa [State.sc, only.survey_eq, ← State.sc] at agrees
    · have attention := steps.attention
      rwa [only.port_eq] at attention

/-! ### Findings -/

/-- The silence of a station is found, and stays found, through work before and after. -/
theorem silentFound_stands {s u t : State} {n : Nat} {p : Pair} {k : TelegramKind} {round : Nat} (before : CasesStand s u)
    (after : CasesStand (u.findCase n p (.silent k) round) t)
    (attention : (u.findCase n p (.silent k) round).port.attention.Within t.port.attention) : SilentFound s t n p k := by
  obtain ⟨g, cases, kept⟩ := before
  obtain ⟨h, cases', kept'⟩ := after
  have same (c : Case) : (g c).station = c.station ∧ (g c).pair = c.pair := by rw [kept c]; exact ⟨rfl, rfl⟩
  have length : u.arbiter.cases.length = s.arbiter.cases.length := by rw [cases, List.length_map]
  constructor
  · intro room
    have room' : (∃ c ∈ u.arbiter.cases, c.station = n ∧ c.pair = p) ∨ u.arbiter.cases.length < 32 := by
      rw [length]
      refine room.imp_left fun ⟨c, hc, station, pair⟩ => ⟨g c, cases ▸ List.mem_map_of_mem hc, ?_, ?_⟩
      · exact (same c).1.trans station
      · exact (same c).2.trans pair
    obtain ⟨d, hd, station, pair, e, evidence⟩ := findCase_found room' (.silent k) round
    refine ⟨h d, cases' ▸ List.mem_map_of_mem hd, ?_, ?_, ?_⟩
    · rw [kept' d]
      exact station
    · rw [kept' d]
      exact pair
    · rw [kept' d]
      exact evidence ▸ Evidence.add_silent e k
  · intro absent full
    refine attention.caseFull ?_
    rw [findCase_full (fun c hc => ?_) (length ▸ full)]
    · rfl
    · rw [cases] at hc
      obtain ⟨d, hd, rfl⟩ := List.mem_map.mp hc
      rw [(same d).1, (same d).2]
      exact absent d hd

theorem findCase_stack (s : State) (n : Nat) (p : Pair) (f : CauseFound) (round : Nat) :
    (s.findCase n p f round).arbiter.stack = s.arbiter.stack := by
  unfold State.findCase
  split
  · unfold State.mergeCase
    dsimp only
    split <;> rfl
  · split
    · rw [openCase_eq]
      rfl
    · rfl

theorem findCase_attention (s : State) (n : Nat) (p : Pair) (f : CauseFound) (round : Nat) :
    s.port.attention.Within (s.findCase n p f round).port.attention := by
  unfold State.findCase
  split
  · unfold State.mergeCase
    dsimp only
    split
    · exact AttentionSet.within_add s.port.attention .caseNew
    · exact .refl _
  · split
    · rw [openCase_eq]
      exact AttentionSet.within_add s.port.attention .caseNew
    · exact AttentionSet.within_add s.port.attention .caseFull

theorem silentCase_attention (s : State) (n : Nat) (p : Pair) (k : TelegramKind) :
    s.port.attention.Within (s.silentCase n p k).port.attention := by
  unfold State.silentCase
  split
  · exact findCase_attention s n p _ _
  · exact .refl _

/-- A finding writes the health of its own pair part alone. -/
theorem part?_findCase_health {s : State} {n m : Nat} {p q : Pair} {y : PairPart} (part : s.part? m q = some y)
    (f : CauseFound) (round : Nat) : ∃ h, (s.findCase n p f round).part? m q = some { y with health := h } := by
  by_cases other : m ≠ n ∨ q ≠ p
  · exact ⟨y.health, by rw [part?_findCase_other other, part]⟩
  obtain ⟨rfl, rfl⟩ : m = n ∧ q = p := by simpa only [not_or, not_not] using other
  cases found : s.caseAt? m q with
  | some c =>
    refine ⟨y.health, ?_⟩
    unfold State.findCase
    rw [found]
    exact (part?_of_table (only_mergeCase s c f).table_eq m q).trans part
  | none =>
    have absent := caseAt?_none.mp found
    by_cases room : s.arbiter.cases.length < 32
    · refine ⟨.suspect, ?_⟩
      rw [findCase_opens absent room, part?_openCase, part]
      rfl
    · refine ⟨y.health, ?_⟩
      rw [findCase_full absent (by omega)]
      exact part

/-! ### What an ended exchange writes of its pair part -/

theorem part?_found {s : State} {n : Nat} {p : Pair} {z : PairPart} (part : s.part? n p = some z) :
    ∃ y, s.station? n = some y ∧ y.part? p = some z := by
  unfold State.part? at part
  split at part
  next y found => exact ⟨y, found, part⟩
  next => cases part

theorem part?_of_found {s : State} {n : Nat} {p : Pair} {y : Station} {z : PairPart} (station : s.station? n = some y)
    (part : y.part? p = some z) : s.part? n p = some z := by
  rw [State.part?, station]
  exact part

/-- The pair part after a command to its station was lost (R94). -/
structure PairPart.Marked (kind : StationKind) (k : TelegramKind) (q z : PairPart) : Prop where
  isolation : kind = .repeater → (k = .isolateSpare ∨ k = .isolateLimit ∨ k = .restore) → z.isolation = .uncertain
  connection : ∀ b, kind = .branching b → (k = .cut ∨ k = .reconnect) → z.connection = some .uncertain
  issue : z.issue = q.issue
  operator : z.operator = q.operator

theorem part?_writeIsolation {s : State} {n : Nat} {p : Pair} {q : PairPart} (part : s.part? n p = some q) (v : Isolation) :
    (s.writeIsolation n p v).part? n p = some { q with isolation := v } := by
  rw [State.writeIsolation, part?_updatePart_self (f := fun q => { q with isolation := v }) _ _ _ fun _ => rfl, part]
  rfl

theorem part?_writeConnection_uncertain {s : State} {n : Nat} {p : Pair} {q : PairPart} (part : s.part? n p = some q)
    (b : Branch) : (s.writeConnection n p b .uncertain).part? n p = some { q with connection := some .uncertain } := by
  have written : s.writeConnection n p b .uncertain = s.updatePart n p fun q => { q with connection := some .uncertain } := rfl
  rw [written, part?_updatePart_self (f := fun q => { q with connection := some .uncertain }) _ _ _ fun _ => rfl, part]
  rfl

theorem part?_markUncertain {s : State} {n : Nat} {p : Pair} {r : Station} {q : PairPart} (found : s.station? n = some r)
    (part : s.part? n p = some q) (k : TelegramKind) :
    ∃ z, (s.markUncertain n p k).part? n p = some z ∧ q.Marked r.kind k z := by
  have isolation (kind : r.kind = .repeater) (lost : k = .isolateSpare ∨ k = .isolateLimit ∨ k = .restore)
      (written : s.markUncertain n p k = s.writeIsolation n p .uncertain) :
      ∃ z, (s.markUncertain n p k).part? n p = some z ∧ q.Marked r.kind k z := by
    rw [written, kind]
    exact ⟨_, part?_writeIsolation part _, ⟨fun _ _ => rfl, nofun, rfl, rfl⟩⟩
  have connection {b : Branch} (kind : r.kind = .branching b)
      (written : s.markUncertain n p k = s.writeConnection n p b .uncertain) :
      ∃ z, (s.markUncertain n p k).part? n p = some z ∧ q.Marked r.kind k z := by
    rw [written, kind]
    exact ⟨_, part?_writeConnection_uncertain part b, ⟨nofun, fun _ _ _ => rfl, rfl, rfl⟩⟩
  have eq : s.markUncertain n p k = s.markUncertain n p k := rfl
  conv at eq => rhs; unfold State.markUncertain; rw [found]
  dsimp only at eq
  split at eq
  next _ _ kind => exact isolation kind (.inl rfl) eq
  next _ _ kind => exact isolation kind (.inr (.inl rfl)) eq
  next _ _ kind => exact isolation kind (.inr (.inr rfl)) eq
  next _ _ _ kind => exact connection kind eq
  next _ _ _ kind => exact connection kind eq
  next _ _ spare limit restore cut reconnect =>
    rw [eq]
    refine ⟨q, part, ⟨fun kind lost => ?_, fun b kind lost => ?_, rfl, rfl⟩⟩
    · obtain rfl | rfl | rfl := lost
      · exact (spare kind rfl).elim
      · exact (limit kind rfl).elim
      · exact (restore kind rfl).elim
    · obtain rfl | rfl := lost
      · exact (cut b kind rfl).elim
      · exact (reconnect b kind rfl).elim

theorem operatorCurrent_iff {s : State} {p : Pair} {t : Telegram} {q : PairPart} (part : s.part? t.dest p = some q) :
    s.operatorCurrent p t = true ↔ t.submitter = .operator q.issue := by
  unfold State.operatorCurrent
  rw [part]
  cases t.submitter with
  | operator issue =>
    rw [Submitter.operator.injEq]
    exact beq_iff_eq.trans ⟨Eq.symm, Eq.symm⟩
  | _ => exact ⟨nofun, nofun⟩

/-- The operator outcome that an ended exchange writes (R92, R94). -/
theorem part?_operatorDone {s : State} {p : Pair} {t : Telegram} {q : PairPart} (part : s.part? t.dest p = some q)
    (o : OperatorOutcome) : ∃ a, (s.operatorDone p t o).part? t.dest p = some { q with operator := a } ∧
      (t.submitter = .operator q.issue → a = q.operator.map (fun a => { a with outcome := o }) ∧
        (s.operatorDone p t o).port.attention.operatorDone = true) := by
  unfold State.operatorDone
  by_cases current : t.submitter = .operator q.issue
  · rw [if_pos ((operatorCurrent_iff part).mpr current)]
    refine ⟨_, ?_, fun _ => ⟨rfl, rfl⟩⟩
    change (s.writeOperator p t o).part? t.dest p = _
    rw [State.writeOperator, part?_updatePart_self (f := fun q => { q with operator := q.operator.map fun a => { a with outcome := o } })
      _ _ _ fun _ => rfl, part]
    rfl
  · rw [if_neg (mt (operatorCurrent_iff part).mp current)]
    exact ⟨q.operator, part, fun same => absurd same current⟩

/-! ### A failed exchange -/

theorem steeringOf_setSteering {c : SurveyController} {n : Nat} (held : c.steeringOf n ≠ none) (v : Steering) :
    (c.setSteering n v).steeringOf n = some v := by
  unfold SurveyController.steeringOf at held
  cases found : c.steering.find? (·.1 == n) with
  | none =>
    rw [found] at held
    exact absurd rfl held
  | some e =>
    have test : (fun e : Nat × Steering => (if e.1 == n then (n, v) else e).1 == n) = fun e => e.1 == n := by
      funext e
      by_cases same : e.1 = n <;> simp [same]
    have named : (e.1 == n) = true := List.find?_some (p := fun e : Nat × Steering => e.1 == n) found
    unfold SurveyController.steeringOf SurveyController.setSteering
    rw [List.find?_map]
    simp only [Function.comp_def, test, found, Option.map_some, named, if_true]

theorem sc_of_survey {s t : State} (h : t.survey = s.survey) (q : Pair) : t.sc q = s.sc q := by rw [State.sc, h, State.sc]

theorem tc_of_telegrams {s t : State} (h : t.telegrams = s.telegrams) (q : Pair) : t.tc q = s.tc q := by
  rw [State.tc, h, State.tc]

/-- The record after a lost command, and a WAITING pair planned again (R40, R94). -/
def State.doubted (s : State) (p : Pair) (t : Telegram) : State :=
  ((s.endExchange p).markUncertain t.dest p t.kind).replanIfChanged (s.endExchange p) p t.dest

/-- The operator outcome and the finding of a failed exchange (R94). -/
def State.unheard (s : State) (p : Pair) (t : Telegram) : State :=
  ((s.doubted p t).operatorDone p t .silent).silentCase t.dest p t.kind

theorem failExchange_eq (s : State) (p : Pair) (t : Telegram) :
    s.failExchange p t = ((s.unheard p t).handFailure p t).settle := rfl

theorem doubted_part {s : State} {p : Pair} {t : Telegram} {r : Station} {q : PairPart} (found : s.station? t.dest = some r)
    (part : s.part? t.dest p = some q) : ∃ z, (s.doubted p t).part? t.dest p = some z ∧ q.Marked r.kind t.kind z := by
  obtain ⟨z, written, marked⟩ := part?_markUncertain (s := s.endExchange p) found part t.kind
  exact ⟨z, (part?_of_table (replanIfChanged_steps _ _ _ _).only.table_eq _ _).trans written, marked⟩

/-- What the failure leaves of the rest up to the finding. -/
structure Doubted (s : State) (p : Pair) (t : State) : Prop where
  cases : CasesStand s t
  exchange : ({ s.tc p with outstanding := none } : TelegramController).Lined (t.tc p)
  steering : (t.sc p).steering = (s.sc p).steering

theorem doubted_doubted (s : State) (p : Pair) (t : Telegram) : Doubted s p (s.doubted p t) := by
  have steps := replanIfChanged_steps ((s.endExchange p).markUncertain t.dest p t.kind) (s.endExchange p) p t.dest
  have only := only_markUncertain (s.endExchange p) t.dest p t.kind
  refine ⟨(casesStand_of_eq (congrArg CaseArbiter.cases only.arbiter_eq)).trans steps.casesKept.stand, ?_, ?_⟩
  · have lined := steps.lined p
    rwa [State.tc, only.telegrams_eq, ← State.tc, State.endExchange, tc_setTc, if_pos rfl] at lined
  · have agrees := (steps.agrees p).2.2.2.1
    exact agrees.trans (congrArg SurveyController.steering (sc_of_survey only.survey_eq p))

theorem only_unheard (s : State) (p : Pair) (t : Telegram) : Only [.table, .port, .arbiter] (s.doubted p t) (s.unheard p t) :=
  (only_operatorDone _ p t _).up.trans (only_silentCase _ _ p _).up

theorem unheard_part {s : State} {p : Pair} {t : Telegram} {r : Station} {q : PairPart} (found : s.station? t.dest = some r)
    (part : s.part? t.dest p = some q) : ∃ z a, (s.unheard p t).part? t.dest p = some z ∧ z.operator = a ∧
      (r.kind = .repeater → (t.kind = .isolateSpare ∨ t.kind = .isolateLimit ∨ t.kind = .restore) →
        z.isolation = .uncertain) ∧
      (∀ b, r.kind = .branching b → (t.kind = .cut ∨ t.kind = .reconnect) → z.connection = some .uncertain) ∧
      (t.submitter = .operator q.issue → a = q.operator.map (fun a => { a with outcome := .silent }) ∧
        ((s.doubted p t).operatorDone p t .silent).port.attention.operatorDone = true) := by
  obtain ⟨z, written, marked⟩ := doubted_part found part
  obtain ⟨a, outcome, done⟩ := part?_operatorDone written .silent
  obtain ⟨y, station, -⟩ := part?_found outcome
  obtain ⟨h, final⟩ := part?_findCase_health outcome (n := t.dest) (p := p) (.silent t.kind)
    (((s.doubted p t).operatorDone p t .silent).sc p).roundCounter
  refine ⟨_, a, (congrArg (State.part? · t.dest p) (silentCase_eq station p t.kind)).trans final, rfl, marked.isolation,
    marked.connection, fun current => ?_⟩
  rw [marked.issue, marked.operator] at done
  exact done current

/-- The end of a steering exchange, and a refusal told, are work. -/
theorem workSteps_steerTold (s : State) (p : Pair) : WorkSteps s (State.tellRefused (s.steerEnded p)) :=
  (planSteps_steerEnded s p).work.trans (workSteps_tellRefused _)

/-- The submitter's hearing of a failure is work, after the lost STEER's unit is UNKNOWN. -/
theorem handFailure_reaches (s : State) (p : Pair) (t : Telegram) :
    (s.tc p).Sent ((s.handFailure p t).tc p) ∧ CasesStand s (s.handFailure p t) ∧
    s.port.attention.Within (s.handFailure p t).port.attention := by
  unfold State.handFailure
  split
  next =>
    have steps := workSteps_steerTold (s.setSc p ((s.sc p).setSteering t.dest .unknown)) p
    exact ⟨steps.sent p, steps.casesKept.stand, steps.attention⟩
  next l _ =>
    obtain ⟨sent, -, attention⟩ := tell_reaches s l .failed
    exact ⟨sent p, casesStand_tell s l .failed, attention⟩
  next => exact ⟨.refl _, casesStand_of_eq rfl, .refl _⟩

theorem expireReply_fails {s : State} {p : Pair} {o : Outstanding} (out : (s.tc p).outstanding = some o)
    (notPoll : o.telegram.submitter ≠ .sweep) (second : o.attempt = 2) : s.expireReply p = s.failExchange p o.telegram := by
  rw [State.expireReply_out out, if_neg (by rw [Telegram.isPoll_false notPoll]; decide), if_neg (by rw [second]; decide)]

/-- What a failed exchange leaves of the records, the cases and the next exchange (R94). -/
theorem failExchange_reaches {s : State} {p : Pair} {t : Telegram} {r : Station} {q : PairPart}
    (found : s.station? t.dest = some r) (part : s.part? t.dest p = some q) :
    SilentFound s (s.failExchange p t) t.dest p t.kind ∧
    (∀ w, ((s.failExchange p t).tc p).outstanding = some w → w.attempt = 1 ∧ w.tag = ((s.tc p).tagCounter + 1) % 16) ∧
    ((s.unheard p t).port.attention.Within (s.failExchange p t).port.attention) ∧
    (s.failExchange p t).table = (s.unheard p t).table := by
  obtain ⟨cases, exchange, -⟩ := doubted_doubted s p t
  obtain ⟨sent, stand, attention⟩ := handFailure_reaches (s.unheard p t) p t
  have settled := only_settle ((s.unheard p t).handFailure p t)
  obtain ⟨z, written, -⟩ := doubted_part found part
  obtain ⟨a, outcome, -⟩ := part?_operatorDone written .silent
  obtain ⟨y, station, -⟩ := part?_found outcome
  have silent := silentCase_eq station p t.kind
  rw [failExchange_eq]
  refine ⟨?_, fun w out => ?_, ?_, ?_⟩
  · have done := only_operatorDone (s.doubted p t) p t .silent
    refine silentFound_stands (round := (((s.doubted p t).operatorDone p t .silent).sc p).roundCounter)
      (cases.trans (casesStand_of_eq (congrArg CaseArbiter.cases done.arbiter_eq))) ?_ ?_
    · rw [← silent]
      exact stand.trans (casesStand_of_eq (congrArg CaseArbiter.cases settled.arbiter_eq))
    · rw [← silent, settled.port_eq]
      exact attention
  · have whole := (exchange.sent.trans ((tc_of_telegrams (only_unheard s p t).telegrams_eq p).symm ▸ .refl _)).trans
      (sent.trans (sent_settle _ p))
    obtain ⟨none, -⟩ | ⟨-, -, v, launched, first, tag⟩ := whole.exchange
    · rw [out] at none
      cases none
    · rw [out] at launched
      cases launched
      exact ⟨first, tag⟩
  · rw [settled.port_eq]
    exact attention
  · rw [settled.table_eq, (only_handFailure _ p t).table_eq]

/-- A lost STEER leaves its unit UNKNOWN (R35). -/
theorem failExchange_steering {s : State} {p : Pair} {t : Telegram} (survey : t.submitter = .survey)
    (held : (s.sc p).steeringOf t.dest ≠ none) : ((s.failExchange p t).sc p).steeringOf t.dest = some .unknown := by
  have before : ((s.unheard p t).sc p).steeringOf t.dest = (s.sc p).steeringOf t.dest := by
    rw [SurveyController.steeringOf, sc_of_survey (only_unheard s p t).survey_eq, (doubted_doubted s p t).steering,
      SurveyController.steeringOf]
  have told := workSteps_steerTold ((s.unheard p t).setSc p (((s.unheard p t).sc p).setSteering t.dest .unknown)) p
  have kept := (told.agrees p).2.2.2.1
  have handed : (s.unheard p t).handFailure p t = State.tellRefused
      (((s.unheard p t).setSc p (((s.unheard p t).sc p).setSteering t.dest .unknown)).steerEnded p) := by
    unfold State.handFailure
    rw [survey]
  rw [failExchange_eq, settle_sc, handed, SurveyController.steeringOf, kept, State.sc_setSc_self, ← SurveyController.steeringOf]
  exact steeringOf_setSteering (before ▸ held) .unknown

/-- The context that hears of the failure, on a pair that is not planned again for a focused request (R94, R168). -/
theorem unheard_context {s : State} {p : Pair} {t : Telegram} (calm : (s.sc p).focused = none ∨ (s.sc p).state ≠ .waiting)
    (l : Level) : (s.unheard p t).arbiter.stack = s.arbiter.stack ∧ ((s.unheard p t).tc p).outstanding = none ∧
      ∃ g : ContextPhase → ContextPhase, (s.unheard p t).context l = (s.context l).map fun c => { c with phase := g c.phase } := by
  have marked := only_markUncertain (s.endExchange p) t.dest p t.kind
  have calm' : (((s.endExchange p).markUncertain t.dest p t.kind).sc p).focused = none ∨
      (((s.endExchange p).markUncertain t.dest p t.kind).sc p).state ≠ .waiting := by
    rw [sc_of_survey marked.survey_eq]
    exact calm
  have plans := replanIfChanged_plans calm' (s.endExchange p) t.dest
  have outcome := only_operatorDone (s.doubted p t) p t .silent
  refine ⟨?_, ?_, ?_⟩
  · have doubted : (s.doubted p t).arbiter = s.arbiter := plans.only.arbiter_eq.trans marked.arbiter_eq
    unfold State.unheard State.silentCase
    split
    · rw [findCase_stack, outcome.arbiter_eq, doubted]
    · rw [outcome.arbiter_eq, doubted]
  · rw [tc_of_telegrams (only_unheard s p t).telegrams_eq]
    exact (doubted_doubted s p t).exchange.outstanding
  · obtain ⟨g, phased⟩ := plans.phased l
    refine ⟨g, ?_⟩
    rw [context_of_eq (only_unheard s p t).contexts_eq]
    exact phased.trans (congrArg (Option.map _) (context_of_eq marked.contexts_eq l))

/-- A suspended context records the event told, whatever the close of the event does. -/
theorem tell_settle_suspended {u : State} {l : Level} {c : Context} (h : u.context l = some c)
    (suspended : u.arbiter.stack.head? ≠ some c.caseNumber) (e : ContextEvent) :
    (u.tell l e).settle.context l = some { c with recorded := some e } := by
  have written : (u.writeAction c e).context l = some c := (writeAction_context u c e l).trans h
  rw [context_of_eq (only_settle _).contexts_eq, tell_suspended h suspended, context_updateContext, if_pos rfl, written]
  rfl

/-- Settles O42: the record, the outcome and the finding come first; what is told then works on cases that are open. -/
theorem secondExpiryFails : Obligations.SecondExpiryFails := by
  intro p o x q s out notPoll second found part
  have part := part?_of_found found part
  obtain ⟨z, a, written, operator, isolation, connection, done⟩ := unheard_part found part
  obtain ⟨silent, exchange, attention, table⟩ := failExchange_reaches found part
  obtain ⟨y, station, held⟩ := part?_found ((part?_of_table table _ _).trans written)
  have fails := expireReply_fails out notPoll second
  have only := fails ▸ only_expireReply s p
  refine ⟨s.failExchange p o.telegram, y, z, congrArg Host.Outcome.next fails, station, held, isolation, connection,
    failExchange_steering, fun b current inForce => ?_, silent, exchange, fun l submitter calm => ?_, only.line_eq,
    only.settings_eq, only.strays_eq⟩
  · obtain ⟨outcome, raised⟩ := done current
    refine ⟨?_, attention.operatorDone ?_⟩
    · rw [operator, outcome, inForce]
      rfl
    · exact (silentCase_attention _ _ p _).operatorDone raised
  · obtain ⟨stack, none, g, context⟩ := unheard_context (t := o.telegram) calm l
    have told : s.failExchange p o.telegram = ((s.unheard p o.telegram).tell l .failed).settle := by
      rw [failExchange_eq, State.handFailure, submitter]
    refine ⟨⟨s.unheard p o.telegram, table.symm, stack, none, fun c h => ⟨g c.phase, ?_⟩, told⟩, fun c h suspended => ?_⟩
    · rw [context, h]
      rfl
    · rw [h] at context
      rw [told]
      exact ⟨_, tell_settle_suspended context (stack ▸ suspended) .failed, rfl, rfl, rfl⟩

end Sys2Proof.Machine
end

section
/-! PROOFS. A reported state in force, written into the table: `State.afterReport`. -/

namespace Sys2Proof.Machine

/-! ### The records under a change of pair parts -/

theorem updateStation_stations (s : State) (n : Nat) (f : Station → Station) :
    (s.updateStation n f).table = { s.table with
      stations := s.table.stations.map fun r => if r.number = n then f r else r } := by
  simp [State.updateStation]

theorem updatePart_stations (s : State) (n : Nat) (p : Pair) (f : PairPart → PairPart) :
    (s.updatePart n p f).table = { s.table with
      stations := s.table.stations.map fun r => if r.number = n then r.updatePart p f else r } :=
  updateStation_stations s n _

/-- A record whose pair part is written: the parts of its other pairs stand. -/
theorem Station.updatePart_eq (r : Station) (p : Pair) (f : PairPart → PairPart) :
    r.updatePart p f = { r with parts := r.parts.map fun y => if y.pair = p then f y else y } := by
  simp [Station.updatePart]

theorem Station.updatePart_unreached {r : Station} {p : Pair} (unreached : r.reachedBy p = false) (f : PairPart → PairPart) :
    r.updatePart p f = r := by
  have other : ∀ y ∈ r.parts, y.pair ≠ p := by simpa [Station.reachedBy, Station.part?] using unreached
  rw [Station.updatePart_eq]
  refine congrArg (fun l => { r with parts := l }) ?_
  exact (List.map_congr_left fun y hy => if_neg (other y hy)).trans (List.map_id _)

theorem Station.updatePart_twice (r : Station) (p : Pair) {f : PairPart → PairPart} (pair : ∀ y, (f y).pair = y.pair)
    (g : PairPart → PairPart) : (r.updatePart p f).updatePart p g = r.updatePart p (g ∘ f) := by
  rw [Station.updatePart_eq, Station.updatePart_eq, Station.updatePart_eq, List.map_map]
  refine congrArg (fun l => { r with parts := l }) (List.map_congr_left fun y _ => ?_)
  by_cases same : y.pair = p
  · simp [same, pair]
  · simp [same]

/-! ### The clearing of a branch -/

/-- A record of a branch newly CUT, `open_` saying that it has an open case on the pair (R91). -/
def Station.cutOff (p : Pair) (open_ : Bool) (r : Station) : Station :=
  r.updatePart p fun y => { y.cleared with health := if open_ then .suspect else .unmeasured }

theorem Station.cutOff_number (p : Pair) (b : Bool) (r : Station) : (r.cutOff p b).number = r.number := rfl

theorem Station.cutOff_cutOff (p : Pair) (b : Bool) (r : Station) : (r.cutOff p b).cutOff p b = r.cutOff p b := by
  unfold Station.cutOff
  rw [Station.updatePart_twice r p (f := fun y => { y.cleared with health := if b then .suspect else .unmeasured })
    fun _ => rfl]
  rfl

theorem healthOf_cleared (b : Bool) (y : PairPart) : healthOf b y.cleared = if b then .suspect else .unmeasured := by
  cases b <;> rfl

theorem clearPart_table (s : State) (p : Pair) (n : Nat) : (s.clearPart p n).table = { s.table with
    stations := s.table.stations.map fun r => if r.number = n then r.cutOff p (s.caseAt? r.number p).isSome else r } := by
  have open_ : (s.updatePart n p PairPart.cleared).caseAt? n p = s.caseAt? n p := rfl
  rw [State.clearPart, State.refreshHealth, updatePart_stations, updatePart_stations, open_]
  refine congrArg (fun l => { s.table with stations := l }) ?_
  rw [List.map_map]
  refine List.map_congr_left fun r _ => ?_
  by_cases same : r.number = n
  · have named : (r.updatePart p PairPart.cleared).number = n := same
    rw [Function.comp_apply, if_pos same, if_pos named, if_pos same, Station.updatePart_twice r p (f := PairPart.cleared)
      fun _ => rfl, same]
    refine congrArg (r.updatePart p) (funext fun y => ?_)
    rw [Function.comp_apply, healthOf_cleared]
  · rw [Function.comp_apply, if_neg same, if_neg same, if_neg same]

/-- The clearing of the stations of a list of numbers. -/
theorem clearParts_table (p : Pair) (ns : List Nat) (s : State) : (ns.foldl (State.clearPart · p) s).table = { s.table with
    stations := s.table.stations.map fun r => if r.number ∈ ns then r.cutOff p (s.caseAt? r.number p).isSome else r } := by
  induction ns generalizing s with
  | nil => simp
  | cons n ns ih =>
    rw [List.foldl_cons, ih, clearPart_table]
    refine congrArg (fun l => { s.table with stations := l }) ?_
    rw [List.map_map]
    refine List.map_congr_left fun r _ => ?_
    have open_ (m : Nat) : (s.clearPart p n).caseAt? m p = s.caseAt? m p := rfl
    rw [Function.comp_apply]
    by_cases same : r.number = n
    · have listed : r.number ∈ n :: ns := same ▸ List.mem_cons_self
      rw [if_pos same, if_pos listed, open_, Station.cutOff_number, Station.cutOff_cutOff]
      split <;> rfl
    · rw [if_neg same]
      simp only [List.mem_cons, same, false_or, open_]

/-- The numbers of the stations that a branch's clearing clears (R91). -/
def State.branchNumbers (s : State) (p : Pair) (b : Branch) : List Nat :=
  (s.table.stations.filter fun r => r.segment == .branch b && r.reachedBy p).map (·.number)

theorem mem_branchNumbers {s : State} (keys : s.keyLaw = true) {p : Pair} {b : Branch} {r : Station}
    (hr : r ∈ s.table.stations) : r.number ∈ s.branchNumbers p b ↔ r.segment = .branch b ∧ r.reachedBy p = true := by
  simp only [State.branchNumbers, List.mem_map, List.mem_filter, Bool.and_eq_true, beq_iff_eq]
  constructor
  · rintro ⟨q, ⟨hq, meets⟩, number⟩
    have one := station?_of_mem keys hq
    rw [number, station?_of_mem keys hr] at one
    exact Option.some.inj one ▸ meets
  · exact fun meets => ⟨r, ⟨hr, meets⟩, rfl⟩

/-- The clearing of a branch, record by record (R91). -/
theorem clearBranch_table {s : State} (keys : s.keyLaw = true) (p : Pair) (b : Branch) :
    (s.clearBranch p b).table = { s.table with
      stations := s.table.stations.map fun r =>
        if r.segment = .branch b then r.cutOff p (s.caseAt? r.number p).isSome else r } := by
  change ((s.branchNumbers p b).foldl (State.clearPart · p) s).table = _
  rw [clearParts_table]
  refine congrArg (fun l => { s.table with stations := l }) (List.map_congr_left fun r hr => ?_)
  simp only [mem_branchNumbers keys hr]
  by_cases segment : r.segment = .branch b
  · cases reached : r.reachedBy p with
    | true => simp [segment]
    | false =>
      rw [if_neg (by simp), if_pos segment]
      exact (Station.updatePart_unreached reached _).symm
  · simp [segment]

/-! ### The state in force -/

theorem toConnection_cut (c : ReportedConnection) : (c.toConnection == .cut) = true ↔ c = .cut := by
  cases c <;> decide

/-- A unit's connection written, record by record, with the clearing when the branch is newly CUT (R91). -/
theorem writeConnection_table {s : State} (law : s.geometryLaw = true) (parts : s.partsLaw = true) {q : Station}
    (hq : q ∈ s.table.stations) {b : Branch} (kind : q.kind = .branching b) (p : Pair) (c : ReportedConnection)
    (side : Side) : (s.writeConnection q.number p b c.toConnection).table =
      { s.table with stations := s.table.stations.map (s.afterReport q p (.branching c side)) } := by
  have keys := (geometry_parts law).1
  have trunk : q.segment = .trunk := (geometryLaw_iff.mp law).trunk q hq b kind
  have wasCut : s.connectionOf b p = some .cut ↔ ∃ y ∈ q.parts, y.pair = p ∧ y.connection = some .cut := by
    rw [connectionOf_iff law parts]
    refine ⟨fun ⟨u, hu, same, y⟩ => ?_, fun y => ⟨q, hq, kind, y⟩⟩
    have one := unit?_of_mem law hu same
    rw [unit?_of_mem law hq kind] at one
    exact Option.some.inj one ▸ y
  have written := updatePart_stations s q.number p fun y => { y with connection := some c.toConnection }
  have numbers := keyLaw_updatePart (n := q.number) (p := p) (f := fun y => { y with connection := some c.toConnection }) keys
  unfold State.writeConnection
  dsimp only
  split
  next newly =>
    simp only [Bool.and_eq_true, toConnection_cut, bne_iff_ne, ne_eq, wasCut] at newly
    rw [clearBranch_table numbers, written]
    refine congrArg (fun l => { s.table with stations := l }) ?_
    rw [List.map_map]
    refine List.map_congr_left fun r hr => ?_
    unfold State.afterReport
    rw [kind, Function.comp_apply]
    dsimp only
    by_cases same : r.number = q.number
    · obtain rfl := eq_of_number_eq keys hr hq same
      rw [if_pos rfl, if_pos rfl, if_neg (by
        change ¬r.segment = _
        rw [trunk]
        nofun), Station.updatePart_eq]
    · rw [if_neg same, if_neg same]
      by_cases segment : r.segment = .branch b
      · rw [if_pos segment, if_pos ⟨newly.1, segment, newly.2⟩]
        exact Station.updatePart_eq r p _
      · rw [if_neg segment, if_neg fun h => segment h.2.1]
  next stands =>
    rw [written]
    refine congrArg (fun l => { s.table with stations := l }) (List.map_congr_left fun r _ => ?_)
    unfold State.afterReport
    rw [kind]
    dsimp only
    by_cases same : r.number = q.number
    · rw [if_pos same, if_pos same, Station.updatePart_eq]
    · rw [if_neg same, if_neg same, if_neg fun h => stands ?_]
      simp only [Bool.and_eq_true, toConnection_cut, bne_iff_ne, ne_eq, wasCut]
      exact ⟨h.1, h.2.2⟩

/-- A reported state in force, record by record (R91, R97, R99). -/
theorem writeInForce_table {s : State} (keys : s.keyLaw = true) {q : Station} (hq : q ∈ s.table.stations)
    (laws : q.kind ≠ .repeater → s.geometryLaw = true ∧ s.partsLaw = true) (p : Pair) (st : StateInForce) :
    (s.writeInForce q.number p st).table = { s.table with stations := s.table.stations.map (s.afterReport q p st) } := by
  have unfit (same : ∀ r, s.afterReport q p st r = r) :
      s.table = { s.table with stations := s.table.stations.map (s.afterReport q p st) } := by
    have all : s.afterReport q p st = id := funext same
    rw [all, List.map_id]
  unfold State.writeInForce
  rw [station?_of_mem keys hq]
  dsimp only
  split
  next i kind =>
    rw [State.writeIsolation, updatePart_stations]
    refine congrArg (fun l => { s.table with stations := l }) (List.map_congr_left fun r _ => ?_)
    unfold State.afterReport
    rw [kind]
    dsimp only
    rw [Station.updatePart_eq]
  next _ b c side kind =>
    obtain ⟨law, parts⟩ := laws (by rw [kind]; nofun)
    exact writeConnection_table law parts hq kind p c side
  next _ _ notRepeater notUnit =>
    refine unfit fun r => ?_
    unfold State.afterReport
    split
    next i kind => exact (notRepeater i kind rfl).elim
    next b c side kind => exact (notUnit b c side kind rfl).elim
    next => rfl

end Sys2Proof.Machine
end

section
/-! PROOFS. An alarm word judged: `WordJudged`. -/

namespace Sys2Proof.Machine

/-! ### A judgement reads of the parts their pairs alone -/

/-- The records differ in their silent counts and in their parts, not in the pairs of these. -/
def Station.Alike (x y : Station) : Prop :=
  y = { x with silent := y.silent, parts := y.parts } ∧ y.parts.map (·.pair) = x.parts.map (·.pair)

theorem ownIndicators_eq (r : Station) :
    r.ownIndicators = (r.parts.map (·.pair)).foldl (fun w p => w ||| pairIndicators p) 0#16 := by
  rw [List.foldl_map, Station.ownIndicators]

theorem Station.Alike.watched {x y : Station} (h : x.Alike y) : y.watched = x.watched := by
  have mask : y.mask = x.mask := by rw [h.1]
  rw [Station.watched, Station.watched, ownIndicators_eq, ownIndicators_eq, h.2, mask]

theorem Station.Alike.pairsDiffering {x y : Station} (h : x.Alike y) : y.pairsDiffering = x.pairsDiffering := by
  funext a b
  rw [Station.pairsDiffering, Station.pairsDiffering, h.watched]

theorem Station.Alike.judgeEvent {x : Station} {a : Nat} {l : List PairPart} (h : x.Alike { x with silent := a, parts := l })
    (w : AlarmWord) : ({ x with silent := a, parts := l } : Station).judgeEvent w =
      ({ (x.judgeEvent w).1 with silent := a, parts := l }, (x.judgeEvent w).2) := by
  unfold Station.judgeEvent
  dsimp only
  rw [h.watched, h.pairsDiffering]
  split
  · rfl
  · split
    · rfl
    · split <;> rfl

theorem Station.Alike.judgeMatch {x : Station} {a : Nat} {l : List PairPart} (h : x.Alike { x with silent := a, parts := l })
    (w : AlarmWord) : ({ x with silent := a, parts := l } : Station).judgeMatch w =
      ({ (x.judgeMatch w).1 with silent := a, parts := l }, (x.judgeMatch w).2) := by
  have settled : ({ x with settled := some w } : Station).Alike { x with silent := a, parts := l, settled := some w } :=
    ⟨rfl, h.2⟩
  unfold Station.judgeMatch Station.pairsWatched
  dsimp only
  rw [settled.watched, settled.pairsDiffering]
  split
  · split
    · split <;> rfl
    · rfl
  · rfl

/-- The judgement of records that are alike. -/
theorem Station.Alike.judge {x y : Station} (h : x.Alike y) (w : AlarmWord) :
    y.judge w = ({ (x.judge w).1 with silent := y.silent, parts := y.parts }, (x.judge w).2) := by
  obtain ⟨a, l, rfl⟩ : ∃ a l, y = { x with silent := a, parts := l } := ⟨_, _, h.1⟩
  unfold Station.judge
  dsimp only
  split
  · rfl
  · exact h.judgeEvent w
  · exact h.judgeMatch w

/-- A judgement that does not trigger leaves the latched word; one that does latches its own (R107 to R109). -/
theorem judge_latched (r : Station) (w : AlarmWord) : ((r.judge w).2 = none → (r.judge w).1.latched = r.latched) ∧
    ∀ l, (r.judge w).2 = some l → (r.judge w).1.latched = some w := by
  unfold Station.judge Station.judgeEvent Station.judgeMatch
  dsimp only
  split
  · exact ⟨fun _ => rfl, nofun⟩
  · split
    · exact ⟨fun _ => rfl, nofun⟩
    · split
      · exact ⟨fun _ => rfl, nofun⟩
      · split
        · exact ⟨nofun, fun _ _ => rfl⟩
        · exact ⟨fun _ => rfl, nofun⟩
  · split
    · split
      · split
        · exact ⟨nofun, fun _ _ => rfl⟩
        · exact ⟨fun _ => rfl, nofun⟩
      · exact ⟨fun _ => rfl, nofun⟩
    · exact ⟨fun _ => rfl, nofun⟩

/-! ### The cases of a trigger -/

/-- What a finding makes of the Case List: every case stands or has the finding's evidence added, and at most one is
new. -/
theorem findCase_cases (s : State) (n : Nat) (p : Pair) (f : CauseFound) (round : Nat) :
    (∀ c ∈ s.arbiter.cases, ∃ d ∈ (s.findCase n p f round).arbiter.cases, d.station = c.station ∧ d.pair = c.pair ∧
      (d.evidence = c.evidence ∨ d.evidence = c.evidence.add f)) ∧
    (s.findCase n p f round).arbiter.cases.length ≤ s.arbiter.cases.length + 1 := by
  have stands {t : State} (cases : t.arbiter.cases = s.arbiter.cases) :
      (∀ c ∈ s.arbiter.cases, ∃ d ∈ t.arbiter.cases, d.station = c.station ∧ d.pair = c.pair ∧
        (d.evidence = c.evidence ∨ d.evidence = c.evidence.add f)) ∧
      t.arbiter.cases.length ≤ s.arbiter.cases.length + 1 := by
    rw [cases]
    exact ⟨fun c hc => ⟨c, hc, rfl, rfl, .inl rfl⟩, Nat.le_succ _⟩
  unfold State.findCase
  split
  next k _ =>
    have cases : (s.mergeCase k f).arbiter.cases =
        s.arbiter.cases.map (·.on k.number (Case.merge s.arbiter.policy.levelMap f)) := by
      unfold State.mergeCase
      dsimp only
      split <;> rfl
    rw [cases, List.length_map]
    refine ⟨fun c hc => ⟨_, List.mem_map_of_mem hc, ?_⟩, Nat.le_succ _⟩
    unfold Case.on
    split
    · obtain ⟨-, station, pair⟩ := c.merge_sameCase s.arbiter.policy.levelMap f
      exact ⟨station, pair, .inr (Case.merge_evidence _ _ _)⟩
    · exact ⟨rfl, rfl, .inl rfl⟩
  next =>
    split
    · refine ⟨fun c hc => ⟨c, mem_openCase.mpr (.inr hc), rfl, rfl, .inl rfl⟩, ?_⟩
      rw [openCase_arbiter, insertCase_eq, List.orderedInsert_length]
    · exact stands rfl

/-- Some open case of the station and the pair has this alarm word as its evidence. -/
def State.alarmed (s : State) (n : Nat) (w : AlarmWord) (p : Pair) : Prop :=
  ∃ c ∈ s.arbiter.cases, c.station = n ∧ c.pair = p ∧ c.evidence.alarm = some w

theorem State.alarmed.alarmCase {s : State} {n : Nat} {w : AlarmWord} {p : Pair} (h : s.alarmed n w p) (q : Pair) :
    (s.alarmCase n w q).alarmed n w p := by
  obtain ⟨c, hc, station, pair, alarm⟩ := h
  obtain ⟨d, hd, station', pair', evidence⟩ := (findCase_cases s n q (.alarm w) (s.sc q).roundCounter).1 c hc
  refine ⟨d, hd, station'.trans station, pair'.trans pair, ?_⟩
  obtain same | added := evidence
  · rw [same, alarm]
  · rw [added]
    rfl

theorem State.alarmed.alarmCases {n : Nat} {w : AlarmWord} {p : Pair} (l : List Pair) {s : State} (h : s.alarmed n w p) :
    (l.foldl (fun s q => s.alarmCase n w q) s).alarmed n w p := by
  induction l generalizing s with
  | nil => exact h
  | cons q l ih => exact ih (h.alarmCase q)

/-- A trigger's pairs have their cases, as far as the Case List has room (R110, R132). -/
theorem alarmCases_found {n : Nat} {w : AlarmWord} {p : Pair} (l : List Pair) {s : State} (member : p ∈ l)
    (room : (∃ c ∈ s.arbiter.cases, c.station = n ∧ c.pair = p) ∨ s.arbiter.cases.length + l.length ≤ 32) :
    (l.foldl (fun s q => s.alarmCase n w q) s).alarmed n w p := by
  induction l generalizing s with
  | nil => cases member
  | cons q l ih =>
    obtain ⟨stand, length⟩ := findCase_cases s n q (.alarm w) (s.sc q).roundCounter
    rw [List.length_cons] at room
    by_cases first : p = q
    · subst first
      obtain ⟨d, hd, station, pair, e, added⟩ :=
        findCase_found (n := n) (p := p) (room.imp_right fun _ => by omega) (.alarm w) (s.sc p).roundCounter
      refine State.alarmed.alarmCases l ⟨d, hd, station, pair, ?_⟩
      rw [added]
      rfl
    · refine ih (s := s.alarmCase n w q) ((List.mem_cons.mp member).resolve_left first) ?_
      obtain ⟨c, hc, station, pair⟩ | room := room
      · obtain ⟨d, hd, station', pair', -⟩ := stand c hc
        exact .inl ⟨d, hd, station'.trans station, pair'.trans pair⟩
      · refine .inr ?_
        change (s.findCase n q (.alarm w) (s.sc q).roundCounter).arbiter.cases.length + _ ≤ _
        omega

/-- The record of a trigger's cases: its pair parts alone are written. -/
theorem station?_alarmCases {n m : Nat} {w : AlarmWord} (l : List Pair) {s : State} {x : Station}
    (found : s.station? m = some x) : ∃ y, (l.foldl (fun s q => s.alarmCase n w q) s).station? m = some y ∧
      y = { x with parts := y.parts } := by
  induction l generalizing s x with
  | nil => exact ⟨x, found, rfl⟩
  | cons q l ih =>
    obtain ⟨y, found', same⟩ := station?_findCase (n := n) (p := q) (f := .alarm w) (round := (s.sc q).roundCounter) found
    obtain ⟨z, found'', same'⟩ := ih (s := s.alarmCase n w q) found'
    refine ⟨z, found'', ?_⟩
    rw [same', same]

/-! ### The word judged -/

/-- The state after a trigger's cases, before the test of the latched word (R110). -/
def State.triggered (s : State) (n : Nat) (w : AlarmWord) (j : Station) (l : List Pair) : State :=
  l.foldl (fun s p => s.alarmCase n w p) (s.updateStation n fun _ => j)

theorem judgeWord_found {s : State} {n : Nat} {r : Station} (found : s.station? n = some r) (w : AlarmWord) :
    ((r.judge w).2 = none → s.judgeWord n w = s.updateStation n fun _ => (r.judge w).1) ∧
    ∀ l, (r.judge w).2 = some l → s.judgeWord n w = (s.triggered n w (r.judge w).1 l).dropLatch n := by
  unfold State.judgeWord State.triggered
  rw [found]
  dsimp only
  constructor
  · intro none
    rw [none]
  · intro l some
    rw [some]

theorem station?_judged {s : State} {n : Nat} {r j : Station} (found : s.station? n = some r) (number : j.number = r.number) :
    (s.updateStation n fun _ => j).station? n = some j := by
  have named := (station?_some found).2
  have test : (fun q : Station => (if q.number == n then j else q).number == n) = fun q => q.number == n := by
    funext q
    by_cases same : q.number = n <;> simp [same, number, named]
  rw [State.station?] at found
  rw [State.station?, State.updateStation, State.setTable_table, List.find?_map]
  simp only [Function.comp_def, test, found, Option.map_some, named, beq_self_eq_true, if_true]

theorem hasAlarmCase_iff (s : State) (n : Nat) :
    s.hasAlarmCase n = true ↔ ∃ c ∈ s.arbiter.cases, c.station = n ∧ c.evidence.alarm ≠ none := by
  simp only [State.hasAlarmCase, List.any_eq_true, Bool.and_eq_true, beq_iff_eq, Evidence.has, Option.isSome_iff_ne_none]

theorem station?_dropLatch {s : State} {n : Nat} {x : Station} (found : s.station? n = some x) :
    (s.dropLatch n).station? n = some (if s.hasAlarmCase n then x else { x with latched := none }) := by
  unfold State.dropLatch
  split
  · exact found
  · rw [station?_updateStation (f := fun r => { r with latched := none }) _ _ _ fun _ => rfl, if_pos rfl, found]
    rfl

/-- What a judgement leaves of the record and of the Case List (R104, R109 to R111). -/
structure WordRecord (s : State) (n : Nat) (r : Station) (w : AlarmWord) (y : Station) : Prop where
  found : (s.judgeWord n w).station? n = some y
  record : y = { (r.judge w).1 with parts := y.parts, latched := y.latched }
  calm : (r.judge w).2 = none → y.latched = r.latched
  latched : ∀ l, (r.judge w).2 = some l → (∃ c ∈ (s.judgeWord n w).arbiter.cases, c.station = n ∧ c.evidence.alarm ≠ none) →
    y.latched = some w
  dropped : ∀ l, (r.judge w).2 = some l → (∀ c ∈ (s.judgeWord n w).arbiter.cases, c.station = n → c.evidence.alarm = none) →
    y.latched = none
  cases : ∀ l, (r.judge w).2 = some l → ∀ p ∈ l,
    ((∃ c ∈ s.arbiter.cases, c.station = n ∧ c.pair = p) ∨ s.arbiter.cases.length + l.length ≤ 32) →
    (s.judgeWord n w).alarmed n w p

theorem judgeWord_judged {s : State} {n : Nat} {r : Station} (found : s.station? n = some r) (w : AlarmWord) :
    ∃ y, WordRecord s n r w y := by
  obtain ⟨calm, trigger⟩ := judgeWord_found found w
  obtain ⟨calmLatch, triggerLatch⟩ := judge_latched r w
  have number : (r.judge w).1.number = r.number := (r.judge_samePlace w).1
  have judged := station?_judged found number
  cases named : (r.judge w).2 with
  | none =>
    refine ⟨(r.judge w).1, ?_, rfl, fun _ => calmLatch named, ?_, ?_, ?_⟩
    · rw [calm named, judged]
    · rw [named]
      nofun
    · rw [named]
      nofun
    · rw [named]
      nofun
  | some l =>
    have eq := trigger l named
    obtain ⟨y, station, same⟩ := station?_alarmCases (n := n) (w := w) l judged
    change (s.triggered n w (r.judge w).1 l).station? n = some y at station
    have latched : y.latched = some w := by
      rw [same]
      exact triggerLatch l named
    have arbiter : (s.judgeWord n w).arbiter = (s.triggered n w (r.judge w).1 l).arbiter := by
      rw [eq, (dropLatch_only _ n).arbiter_eq]
    have final := station?_dropLatch station
    rw [← eq] at final
    refine ⟨_, final, ?_, ?_, fun _ _ open_ => ?_, fun _ _ closed => ?_, fun m same p hp room => ?_⟩
    · split
      · rw [same]
      · rw [same]
    · rw [named]
      nofun
    · rw [arbiter] at open_
      rw [if_pos ((hasAlarmCase_iff _ n).mpr open_)]
      exact latched
    · rw [arbiter] at closed
      rw [if_neg fun has => ?_]
      obtain ⟨c, hc, station, alarm⟩ := (hasAlarmCase_iff _ n).mp has
      exact alarm (closed c hc station)
    · obtain rfl := Option.some.inj (named.symm.trans same)
      rw [State.alarmed, arbiter]
      exact alarmCases_found l hp room

/-- A word judged in a state whose record is alike is judged for the first, while what follows keeps the cases and
writes only parts. -/
theorem wordJudged_of {s u t : State} {x x' y : Station} {w : AlarmWord} (alike : x.Alike x')
    (before : CasesStand s u) (record : WordRecord u x.number x' w y)
    (after : CasesStand (u.judgeWord x.number w) t) {z : Station} (found : t.station? x.number = some z)
    (same : z = { y with parts := z.parts }) : WordJudged s t x w := by
  obtain ⟨g, cases, stands⟩ := before
  obtain ⟨h, cases', stands'⟩ := after
  have latched : z.latched = y.latched := by rw [same]
  have judge := alike.judge w
  have judged : z = { (x.judge w).1 with silent := z.silent, parts := z.parts, latched := z.latched } := by
    rw [same, record.record, judge]
  have pairs : (x'.judge w).2 = (x.judge w).2 := by rw [judge]
  have old : x'.latched = x.latched := by rw [alike.1]
  have place (c : Case) : (g c).station = c.station ∧ (g c).pair = c.pair := by
    rw [stands c]
    exact ⟨rfl, rfl⟩
  have kept (c : Case) : (h c).station = c.station ∧ (h c).pair = c.pair ∧ (h c).evidence = c.evidence := by
    rw [stands' c]
    exact ⟨rfl, rfl, rfl⟩
  refine ⟨z, found, by rw [judged], by rw [judged], by rw [judged], by rw [judged], fun none => ?_, fun l trigger => ⟨?_, ?_, ?_⟩⟩
  · rw [latched, record.calm (pairs.trans none), old]
  · rintro ⟨d, hd, station, alarm⟩
    rw [cases'] at hd
    obtain ⟨c, hc, rfl⟩ := List.mem_map.mp hd
    rw [(kept c).1] at station
    rw [(kept c).2.2] at alarm
    exact latched.trans (record.latched l (pairs.trans trigger) ⟨c, hc, station, alarm⟩)
  · intro closed
    refine latched.trans (record.dropped l (pairs.trans trigger) fun c hc station => ?_)
    rw [← (kept c).2.2]
    exact closed (h c) (cases' ▸ List.mem_map_of_mem hc) ((kept c).1.trans station)
  · intro p hp room
    have room' : (∃ c ∈ u.arbiter.cases, c.station = x.number ∧ c.pair = p) ∨ u.arbiter.cases.length + l.length ≤ 32 := by
      obtain ⟨c, hc, station, pair⟩ | room := room
      · exact .inl ⟨g c, cases ▸ List.mem_map_of_mem hc, (place c).1.trans station, (place c).2.trans pair⟩
      · rw [cases, List.length_map]
        exact .inr room
    obtain ⟨c, hc, station, pair, alarm⟩ := record.cases l (pairs.trans trigger) p hp room'
    refine ⟨h c, cases' ▸ List.mem_map_of_mem hc, (kept c).1.trans station, (kept c).2.1.trans pair, ?_⟩
    rw [(kept c).2.2, alarm]

end Sys2Proof.Machine
end

section
/-! PROOFS. Replies that are discarded, that answer an abandoned exchange, or that are overheard: O39. -/

namespace Sys2Proof.Machine

/-- A state that differs in its table alone. -/
theorem eq_setTable {s t : State} (h : Only [.table] s t) : t = s.setTable t.table := by
  cases t
  simp only [State.setTable, State.mk.injEq]
  exact ⟨h.port_eq, h.line_eq, h.settings_eq, trivial, h.survey_eq, h.pool_eq, h.strays_eq, h.telegrams_eq, h.sweeper_eq,
    h.arbiter_eq, h.claims_eq, h.contexts_eq, h.draws_eq, h.pending_eq⟩

/-! ### Discarded replies -/

theorem hearReply_off {s : State} {p : Pair} (off : s.equipped p = false ∨ (s.sc p).role = .off) (r : Reply) :
    s.hearReply p r = s := by
  unfold State.hearReply
  obtain unequipped | off := off
  · rw [if_neg (by simp [unequipped])]
  · rw [off]
    exact ite_self s

theorem matchesReply_iff {s : State} {o : Outstanding} {r : Reply} : s.matchesReply o r = true ↔
    r.dest = s.line.terminal ∧ r.source = o.address ∧ r.tag = o.tag ∧ r.content.answers o.telegram.kind = true := by
  simp only [State.matchesReply, Bool.and_eq_true, beq_iff_eq, and_assoc]

theorem hearReply_unmatched {s : State} {p : Pair} {r : Reply} (driving : (s.sc p).role = .driving)
    (unmatched : ∀ o, (s.tc p).outstanding = some o → ¬s.matchesReply o r = true) : s.hearReply p r = s := by
  unfold State.hearReply
  split
  · rw [driving]
    dsimp only
    unfold State.replyDriving
    split
    · rfl
    next o out => exact if_neg (unmatched o out)
  · rfl

theorem hearReply_listening {s : State} {p : Pair} (equipped : s.equipped p = true) (listening : (s.sc p).role = .listening)
    (r : Reply) : s.hearReply p r = if r.dest = s.line.terminal then s.replyAbandoned p r else s.replyOverheard p r := by
  unfold State.hearReply
  rw [if_pos equipped, listening]
  simp only [beq_iff_eq]

theorem hearReply_listening_discards {s : State} {p : Pair} {r : Reply} (listening : (s.sc p).role = .listening)
    (abandoned : r.dest = s.line.terminal → s.replyAbandoned p r = s)
    (overheard : r.dest ≠ s.line.terminal → s.replyOverheard p r = s) : s.hearReply p r = s := by
  cases equipped : s.equipped p with
  | false => exact hearReply_off (.inl equipped) r
  | true =>
    rw [hearReply_listening equipped listening]
    split
    next own => exact abandoned own
    next other => exact overheard other

/-! ### The answer to the abandoned exchange -/

theorem replyAbandoned_unmatched {s : State} {p : Pair} {r : Reply}
    (unmatched : ∀ a, (s.tc p).abandoned = some a → ¬(r.source = a.address ∧ r.tag = a.tag)) : s.replyAbandoned p r = s := by
  unfold State.replyAbandoned
  split
  · rfl
  next a out => exact if_neg (by simpa using unmatched a out)

theorem replyAbandoned_matched {s : State} {p : Pair} {r : Reply} {a : AbandonedExchange}
    (out : (s.tc p).abandoned = some a) (source : r.source = a.address) (tag : r.tag = a.tag) :
    (s.byAddress? r.source = none → s.replyAbandoned p r = s.dropAbandoned p) ∧
    ∀ q, s.byAddress? r.source = some q →
      s.replyAbandoned p r = (s.writeInForce q.number p r.content.state).dropAbandoned p := by
  unfold State.replyAbandoned
  rw [out]
  dsimp only
  rw [if_pos (by simp [source, tag])]
  constructor
  · intro none
    rw [none]
  · intro q found
    rw [found]

/-- The answer to the abandoned exchange drops it and writes the record of the station that has its address (R97). -/
theorem hearReply_abandoned {s : State} {p : Pair} {r : Reply} {a : AbandonedExchange} (equipped : s.equipped p = true)
    (listening : (s.sc p).role = .listening) (own : r.dest = s.line.terminal) (out : (s.tc p).abandoned = some a)
    (source : r.source = a.address) (tag : r.tag = a.tag) :
    ((∀ q ∈ s.table.stations, q.address ≠ r.source) → s.hearReply p r = s.dropAbandoned p) ∧
    (s.keyLaw = true → ∀ q ∈ s.table.stations, q.address = r.source →
      (q.kind ≠ .repeater → s.geometryLaw = true ∧ s.partsLaw = true) →
      s.hearReply p r = (s.dropAbandoned p).setTable { s.table with
        stations := s.table.stations.map (s.afterReport q p r.content.state) }) := by
  obtain ⟨unknown, known⟩ := replyAbandoned_matched out source tag
  rw [hearReply_listening equipped listening, if_pos own]
  refine ⟨fun absent => unknown (byAddress?_none.mpr absent), fun keys q hq address laws => ?_⟩
  have found := byAddress?_of_mem keys hq
  rw [address] at found
  rw [known q found, eq_setTable (only_writeInForce s q.number p r.content.state),
    writeInForce_table keys hq laws p r.content.state]
  rfl

/-! ### Overheard replies -/

theorem commandsStation_iff (k : TelegramKind) :
    commandsStation k = true ↔ k ≠ .status ∧ k ≠ .steerTrunk ∧ k ≠ .steerBranch := by
  cases k <;> decide

theorem overheardCommand_some {c : TelegramController} {h : Overheard} {n : Nat} (found : c.overheard.find? (·.station == n) = some h)
    (command : commandsStation h.kind = true) : c.overheardCommand n h.tag = some h.kind := by
  obtain ⟨station, before, after, split, others⟩ := List.find?_eq_some_iff_append.mp found
  have first : c.overheard.find? (fun g => g.station == n && g.tag == h.tag && commandsStation g.kind) = some h := by
    refine List.find?_eq_some_iff_append.mpr ⟨by simp [beq_iff_eq.mp station, command], before, after, split, fun g hg => ?_⟩
    have other := others g hg
    simp only [Bool.not_eq_true', beq_eq_false_iff_ne] at other
    simp [other]
  rw [TelegramController.overheardCommand, first]
  rfl

theorem overheardCommand_none {c : TelegramController} {n tag : Nat}
    (unfit : ∀ g ∈ c.overheard, g.station = n → g.tag ≠ tag ∨ commandsStation g.kind = false) :
    c.overheardCommand n tag = none := by
  have absent : c.overheard.find? (fun g => g.station == n && g.tag == tag && commandsStation g.kind) = none := by
    refine List.find?_eq_none.mpr fun g hg => ?_
    simp only [Bool.and_eq_true, beq_iff_eq, not_and, Bool.not_eq_true, and_imp]
    exact fun station same => (unfit g hg station).resolve_left fun other => other same
  rw [TelegramController.overheardCommand, absent]
  rfl

/-- The only overheard telegram of a station. -/
theorem overheard_single {c : TelegramController} {h g : Overheard} {n : Nat}
    (found : c.overheard.find? (·.station == n) = some h) (single : (c.overheard.filter (·.station == n)).length = 1)
    (hg : g ∈ c.overheard) (station : g.station = n) : g = h := by
  obtain ⟨e, only⟩ := List.length_eq_one_iff.mp single
  have mine : h ∈ c.overheard.filter (·.station == n) :=
    List.mem_filter.mpr ⟨List.mem_of_find?_eq_some found, List.find?_some (p := fun g : Overheard => g.station == n) found⟩
  have other : g ∈ c.overheard.filter (·.station == n) := List.mem_filter.mpr ⟨hg, by simp [station]⟩
  rw [only, List.mem_singleton] at mine other
  rw [mine, other]

theorem replyOverheard_word {s : State} {p : Pair} {r : Reply} {q : Station} (found : s.byAddress? r.source = some q)
    {w : AlarmWord} {st : StateInForce} (content : r.content = .statusReply w st) :
    s.replyOverheard p r = s.judgeWord q.number w := by
  unfold State.replyOverheard
  rw [found, content]

theorem replyOverheard_answer {s : State} {p : Pair} {r : Reply} {q : Station} (found : s.byAddress? r.source = some q)
    (notWord : ∀ w st, r.content ≠ .statusReply w st) :
    ((s.tc p).overheardCommand q.number r.tag = none → s.replyOverheard p r = s) ∧
    ∀ k, (s.tc p).overheardCommand q.number r.tag = some k → s.replyOverheard p r = s.useOverheard p q.number k r.content := by
  unfold State.replyOverheard
  rw [found]
  dsimp only
  split
  next w st content => exact (notWord w st content).elim
  next =>
    constructor
    · intro none
      rw [none]
    · intro k some
      rw [some]

theorem isolates_iff (k : TelegramKind) (c : ReplyContent) : isolates k c = true ↔
    ((k = .isolateSpare ∨ k = .isolateLimit) ∧ (c = .ack (.repeater .spare) ∨ c = .ack (.repeater .limit))) ∨
    (k = .cut ∧ ∃ side, c = .ack (.branching .cut side)) := by
  cases c with
  | nak reason st => simp [isolates]
  | statusReply w st => simp [isolates]
  | ack st =>
    cases st with
    | repeater i => simp [isolates]
    | branching v side => simp [isolates]

theorem restores_iff (k : TelegramKind) (c : ReplyContent) :
    restores k c = true ↔ (k = .restore ∨ k = .reconnect) ∧ ∃ st, c = .ack st := by
  cases c <;> simp [restores]

theorem isFarOf_iff (c : Claim) (n : Nat) (p : Pair) :
    c.isFarOf n p = true ↔ c.station = n ∧ c.pair = .one p ∧ c.owner = .far := by
  simp only [Claim.isFarOf, Claim.isFarOn, Bool.and_eq_true, beq_iff_eq]
  tauto

theorem covers_iff (c : Claim) (n : Nat) (p : Pair) : c.overlaps n (.one p) = true ↔ c.on n p := by
  cases pair : c.pair <;> simp [Claim.overlaps, Claim.on, ClaimPair.overlaps, pair]

/-- A FAR claim is made under the lowest free number, when the scope and a number are free (R152). -/
theorem makeFar_claims {s : State} (law : s.claimLaw = true) (n : Nat) (p : Pair) :
    ((∀ c ∈ s.claims, ¬c.on n p) → s.claims.length < 16 → ∃ k, s.lowestFree k ∧ ∀ c, c ∈ (s.makeFar n p).claims ↔
      c ∈ s.claims ∨ c = { number := k, station := n, pair := .one p, owner := .far }) ∧
    ((∃ c ∈ s.claims, c.on n p) ∨ 16 ≤ s.claims.length → (s.makeFar n p).claims = s.claims) := by
  simp only [← covers_iff]
  constructor
  · intro free room
    obtain ⟨k, number⟩ := freeClaimNumber_isSome room
    obtain ⟨bound, unused, lower⟩ := freeClaimNumber_some number
    refine ⟨k, ⟨bound, unused, lower⟩, fun c => ?_⟩
    unfold State.makeFar
    rw [(State.claimAnswer_free free).1 k number, mem_addClaim, or_comm]
  · intro held
    have notGranted : ∀ k, s.claimAnswer n (.one p) ≠ .granted k := by
      intro k granted
      by_cases busy : ∃ c ∈ s.claims, c.overlaps n (.one p) = true
      · obtain ⟨c, found⟩ : ∃ c, s.holder? n (.one p) = some c := by
          rw [← Option.isSome_iff_exists, State.holder?, List.find?_isSome]
          exact busy
        rw [State.claimAnswer_busy found] at granted
        cases granted
      · have free : ∀ c ∈ s.claims, ¬c.overlaps n (.one p) = true := fun c hc overlaps => busy ⟨c, hc, overlaps⟩
        rw [(State.claimAnswer_free free).2 (freeClaimNumber_none law (held.resolve_left busy))] at granted
        cases granted
    unfold State.makeFar
    split
    next k granted => exact absurd granted (notGranted k)
    next => rfl

theorem releaseFarOf_none {s : State} {n : Nat} {p : Pair} (none : ∀ c ∈ s.claims, ¬c.isFarOf n p = true) :
    s.releaseFarOf n p = s := if_neg fun some => by
  obtain ⟨c, hc, far⟩ := List.any_eq_true.mp some
  exact none c hc far

theorem releaseFarOf_steps (s : State) (n : Nat) (p : Pair) :
    WorkSteps (s.keepClaims fun c => !c.isFarOf n p) (s.releaseFarOf n p) := by
  by_cases none : ∀ c ∈ s.claims, ¬c.isFarOf n p = true
  · have same : (s.keepClaims fun c => !c.isFarOf n p) = s :=
      congrArg s.setClaims (List.filter_eq_self.mpr fun c hc => by simpa using none c hc)
    rw [releaseFarOf_none none, same]
  · have some : s.claims.any (·.isFarOf n p) = true := by simpa using none
    have eq : s.releaseFarOf n p = (s.keepClaims fun c => !c.isFarOf n p).announce := if_pos some
    rw [eq]
    exact workSteps_announce _

/-- An answer isolates, or restores, or neither (R99). -/
theorem isolates_apart {k : TelegramKind} {c : ReplyContent} (isolating : isolates k c = true) : restores k c = false := by
  rw [Bool.eq_false_iff, Ne, restores_iff]
  rintro ⟨kind, -⟩
  obtain ⟨rfl | rfl, -⟩ | ⟨rfl, -⟩ := (isolates_iff k c).mp isolating <;> simp at kind

theorem useOverheard_isolates {k : TelegramKind} {c : ReplyContent} (isolating : isolates k c = true) (s : State) (p : Pair)
    (n : Nat) : s.useOverheard p n k c = (s.writeInForce n p c.state).makeFar n p := by
  unfold State.useOverheard
  dsimp only
  rw [if_pos isolating, isolates_apart isolating]
  rfl

theorem useOverheard_restores {k : TelegramKind} {c : ReplyContent} (restoring : restores k c = true) (s : State) (p : Pair)
    (n : Nat) : s.useOverheard p n k c = ((s.writeInForce n p c.state).releaseFarOf n p).settle := by
  have notIsolating : ¬isolates k c = true := fun isolating => by
    rw [isolates_apart isolating] at restoring
    cases restoring
  unfold State.useOverheard
  dsimp only
  rw [if_neg notIsolating, if_pos restoring]

theorem useOverheard_neither {k : TelegramKind} {c : ReplyContent} (notIsolating : ¬isolates k c = true)
    (notRestoring : ¬restores k c = true) (s : State) (p : Pair) (n : Nat) :
    s.useOverheard p n k c = s.writeInForce n p c.state := by
  unfold State.useOverheard
  dsimp only
  rw [if_neg notIsolating, if_neg notRestoring]

theorem useOverheard_table (s : State) (p : Pair) (n : Nat) (k : TelegramKind) (c : ReplyContent) :
    (s.useOverheard p n k c).table = (s.writeInForce n p c.state).table := by
  by_cases isolating : isolates k c = true
  · rw [useOverheard_isolates isolating, (only_makeFar _ n p).table_eq]
  · by_cases restoring : restores k c = true
    · rw [useOverheard_restores restoring, (only_settle _).table_eq, (only_releaseFarOf _ n p).table_eq]
    · rw [useOverheard_neither isolating restoring]

/-- An answer that restores releases the FAR claim of its scope and no other (R99, R153). -/
theorem useOverheard_released {k : TelegramKind} {c : ReplyContent} (restoring : restores k c = true) (s : State) (p : Pair)
    (n : Nat) : ClaimsGrow (s.keepClaims fun d => !d.isFarOf n p) (s.useOverheard p n k c) ∧
      ((∀ d ∈ s.claims, ¬d.isFarOf n p = true) → (s.useOverheard p n k c).claims = s.claims) := by
  have written := (only_writeInForce s n p c.state).claims_eq
  rw [useOverheard_restores restoring]
  constructor
  · have grown := (releaseFarOf_steps (s.writeInForce n p c.state) n p).claimsGrow
    have same : ((s.writeInForce n p c.state).keepClaims fun d => !d.isFarOf n p).claims =
        (s.keepClaims fun d => !d.isFarOf n p).claims := by
      rw [State.keepClaims, State.setClaims_claims, State.keepClaims, State.setClaims_claims, written]
    exact (claimsGrow_of_eq same).trans (grown.trans (claimsGrow_of_eq (only_settle _).claims_eq))
  · intro none
    rw [(only_settle _).claims_eq, releaseFarOf_none (written ▸ none), written]

theorem useOverheard_only {k : TelegramKind} {c : ReplyContent} (notRestoring : ¬restores k c = true) (s : State) (p : Pair)
    (n : Nat) : Only [.table, .claims] s (s.useOverheard p n k c) := by
  have written := only_writeInForce s n p c.state
  by_cases isolating : isolates k c = true
  · rw [useOverheard_isolates isolating]
    exact written.up.trans (only_makeFar _ n p).up
  · rw [useOverheard_neither isolating notRestoring]
    exact written.up

theorem only_useOverheard_work (s : State) (p : Pair) (n : Nat) (k : TelegramKind) (c : ReplyContent) :
    (s.useOverheard p n k c).line = s.line ∧ (s.useOverheard p n k c).settings = s.settings ∧
    (s.useOverheard p n k c).strays = s.strays :=
  have only := only_useOverheard s p n k c
  ⟨only.line_eq, only.settings_eq, only.strays_eq⟩

/-! ### The obligation -/

/-- An overheard alarm word goes to the Alarm Watch (R99). -/
theorem judgeWord_overheard {s : State} (keys : s.keyLaw = true) {q : Station} (hq : q ∈ s.table.stations) (w : AlarmWord) :
    Only [.port, .table, .arbiter] s (s.judgeWord q.number w) ∧ WordJudged s (s.judgeWord q.number w) q w ∧
    ((q.judge w).2 = none → Only [.table] s (s.judgeWord q.number w)) := by
  have found := station?_of_mem keys hq
  obtain ⟨y, record⟩ := judgeWord_judged found w
  refine ⟨(only_judgeWord s q.number w).up, wordJudged_of ⟨rfl, rfl⟩ (casesStand_of_eq rfl) record (casesStand_of_eq rfl)
    record.found rfl, fun none => ?_⟩
  rw [(judgeWord_found found w).1 none]
  exact only_updateStation s q.number _

/-- The answer to an overheard command (R99, R152, R153). -/
theorem useOverheard_spec {s : State} {p : Pair} {q : Station} {k : TelegramKind} {c : ReplyContent} (keys : s.keyLaw = true)
    (hq : q ∈ s.table.stations) (laws : q.kind ≠ .repeater → s.geometryLaw = true ∧ s.partsLaw = true) :
    let t := s.useOverheard p q.number k c
    t.table = { s.table with stations := s.table.stations.map (s.afterReport q p c.state) } ∧
    (isolates k c = true → s.claimLaw = true →
      ((∀ d ∈ s.claims, ¬d.on q.number p) → s.claims.length < 16 → ∃ j, s.lowestFree j ∧
        ∀ d, d ∈ t.claims ↔ d ∈ s.claims ∨ d = { number := j, station := q.number, pair := .one p, owner := .far }) ∧
      ((∃ d ∈ s.claims, d.on q.number p) ∨ 16 ≤ s.claims.length → t.claims = s.claims)) ∧
    (¬isolates k c = true → ¬restores k c = true → t.claims = s.claims) := by
  have written := only_writeInForce s q.number p c.state
  refine ⟨?_, fun isolating law => ?_, fun notIsolating notRestoring => ?_⟩
  · rw [useOverheard_table, writeInForce_table keys hq laws]
  · have law' : (s.writeInForce q.number p c.state).claimLaw = true := claimLaw_of_eq written.claims_eq law
    have made := makeFar_claims law' q.number p
    rw [useOverheard_isolates isolating]
    simpa only [written.claims_eq, State.lowestFree] using made
  · rw [useOverheard_neither notIsolating notRestoring, written.claims_eq]

/-- Settles O39: what is not an answer changes nothing; an answer writes its station's record, and the claims by its
command. -/
theorem repliesDiscardedAbandonedOrOverheard : Obligations.RepliesDiscardedAbandonedOrOverheard := by
  intro p r s
  have exec_reply {t : State} (h : s.hearReply p r = t) : exec (.reply p r) s = .next t := congrArg Host.Outcome.next h
  refine ⟨fun off => exec_reply (hearReply_off off r), fun driving unmatched => exec_reply (hearReply_unmatched driving
    fun o out => mt matchesReply_iff.mp (unmatched o out)), fun listening own unmatched => exec_reply
    (hearReply_listening_discards listening (fun _ => replyAbandoned_unmatched unmatched) fun other => absurd own other),
    fun listening other absent => exec_reply (hearReply_listening_discards listening (fun own => absurd own other)
      fun _ => ?_), fun equipped listening own a out source tag => ?_,
    fun equipped listening other keys q hq address laws => ?_⟩
  · unfold State.replyOverheard
    rw [byAddress?_none.mpr absent]
  · obtain ⟨unknown, known⟩ := hearReply_abandoned equipped listening own out source tag
    exact ⟨fun absent => exec_reply (unknown absent), fun keys q hq address laws => exec_reply (known keys q hq address laws)⟩
  have found := byAddress?_of_mem keys hq
  rw [address] at found
  have heard : s.hearReply p r = s.replyOverheard p r := by
    rw [hearReply_listening equipped listening, if_neg other]
  refine ⟨fun w st content => ?_, fun notWord => ?_⟩
  · exact ⟨_, exec_reply (heard.trans (replyOverheard_word found content)), judgeWord_overheard keys hq w⟩
  obtain ⟨unused, used⟩ := replyOverheard_answer (p := p) found notWord
  refine ⟨fun h first unfit single => ?_, fun none => ?_, fun h first tag notStatus notTrunk notBranch => ?_⟩
  · refine exec_reply (heard.trans (unused (overheardCommand_none fun g hg station => ?_)))
    rw [overheard_single first single hg station]
    refine unfit.imp_right fun kind => ?_
    rw [Bool.eq_false_iff, Ne, commandsStation_iff]
    tauto
  · exact exec_reply (heard.trans (unused (overheardCommand_none fun g hg station => absurd station (none g hg))))
  · have command := overheardCommand_some first ((commandsStation_iff _).mpr ⟨notStatus, notTrunk, notBranch⟩)
    rw [tag] at command
    obtain ⟨line, settings, strays⟩ := only_useOverheard_work s p q.number h.kind r.content
    obtain ⟨table, isolated, untouched⟩ := useOverheard_spec (p := p) (k := h.kind) (c := r.content) keys hq laws
    simp only [← isolates_iff, ← restores_iff]
    refine ⟨_, exec_reply (heard.trans (used _ command)), table, line, settings, strays,
      fun notRestoring => useOverheard_only notRestoring s p q.number, isolated, fun restoring => ?_, untouched⟩
    obtain ⟨⟨stand, new⟩, none⟩ := useOverheard_released restoring s p q.number
    simp only [← isFarOf_iff]
    refine ⟨fun c hc far => ?_, fun c hc notFar => stand c (List.mem_filter.mpr ⟨hc, by simpa using notFar⟩),
      fun c hc => (new c hc).imp_left fun kept => (List.mem_filter.mp kept).1, none⟩
    obtain kept | ⟨k, auto⟩ := new c hc
    · have notFar := (List.mem_filter.mp kept).2
      rw [far] at notFar
      cases notFar
    · rw [((isFarOf_iff c _ p).mp far).2.2] at auto
      cases auto

end Sys2Proof.Machine
end

section
/-! PROOFS. A reply that matches the outstanding telegram: O40. -/

namespace Sys2Proof.Machine

/-! ### A record rewritten by a report -/

/-- The pair part after it in what the report of another station leaves. -/
structure PairPart.Remains (q z : PairPart) : Prop where
  isolation : z.isolation = q.isolation
  connection : z.connection = q.connection
  issue : z.issue = q.issue
  operator : z.operator = q.operator

theorem PairPart.Remains.refl (q : PairPart) : q.Remains q := ⟨rfl, rfl, rfl, rfl⟩

theorem PairPart.Remains.trans {q z w : PairPart} (h : q.Remains z) (k : z.Remains w) : q.Remains w :=
  ⟨k.isolation.trans h.isolation, k.connection.trans h.connection, k.issue.trans h.issue, k.operator.trans h.operator⟩

theorem Station.Alike.refl (x : Station) : x.Alike x := ⟨rfl, rfl⟩

theorem Station.Alike.trans {x y z : Station} (h : x.Alike y) (k : y.Alike z) : x.Alike z :=
  ⟨by rw [k.1, h.1], k.2.trans h.2⟩

theorem Station.alike_updatePart (x : Station) (p : Pair) {f : PairPart → PairPart} (pair : ∀ y, (f y).pair = y.pair) :
    x.Alike (x.updatePart p f) := by
  refine ⟨rfl, ?_⟩
  rw [Station.updatePart_eq, List.map_map]
  refine List.map_congr_left fun y _ => ?_
  rw [Function.comp_apply]
  split
  · exact pair y
  · rfl

/-- The record but for its parts, that of the pair in what a report of another station leaves. -/
structure Station.Remains (p : Pair) (x y : Station) : Prop where
  alike : x.Alike y
  silent : y.silent = x.silent
  part : ∀ z, x.part? p = some z → ∃ w, y.part? p = some w ∧ z.Remains w

theorem Station.Remains.refl (p : Pair) (x : Station) : x.Remains p x := ⟨.refl x, rfl, fun z part => ⟨z, part, .refl z⟩⟩

theorem Station.Remains.trans {p : Pair} {x y z : Station} (h : x.Remains p y) (k : y.Remains p z) : x.Remains p z := by
  refine ⟨h.alike.trans k.alike, k.silent.trans h.silent, fun w part => ?_⟩
  obtain ⟨v, part', first⟩ := h.part w part
  obtain ⟨u, part'', second⟩ := k.part v part'
  exact ⟨u, part'', first.trans second⟩

theorem Station.remains_cutOff (p : Pair) (b : Bool) (x : Station) : x.Remains p (x.cutOff p b) := by
  refine ⟨x.alike_updatePart p fun _ => rfl, rfl, fun z part => ?_⟩
  refine ⟨{ z.cleared with health := if b then .suspect else .unmeasured }, ?_, ⟨rfl, rfl, rfl, rfl⟩⟩
  rw [Station.cutOff, Station.part?_updatePart (f := fun y => { y.cleared with health := if b then .suspect else .unmeasured })
    x p p fun _ => rfl, if_pos rfl, part]
  rfl

/-- Records changed one by one, none in its number. -/
theorem station?_map {s t : State} {g : Station → Station} (stations : t.table.stations = s.table.stations.map g)
    (number : ∀ r, (g r).number = r.number) (n : Nat) : t.station? n = (s.station? n).map g := by
  have test : (fun r : Station => (g r).number == n) = fun r => r.number == n := by
    funext r
    rw [number]
  rw [State.station?, stations, List.find?_map]
  exact congrArg (fun f => (s.table.stations.find? f).map g) test

theorem station?_clearBranch {s : State} {n : Nat} {x : Station} (found : s.station? n = some x) (p : Pair) (b : Branch) :
    ∃ y, (s.clearBranch p b).station? n = some y ∧ x.Remains p y := by
  have stations := congrArg StationTable.stations (clearParts_table p (s.branchNumbers p b) s)
  have cleared := station?_map (s := s) (t := s.clearBranch p b) stations (fun r => by split <;> rfl) n
  rw [found] at cleared
  refine ⟨_, cleared, ?_⟩
  dsimp only
  split
  · exact Station.remains_cutOff p _ x
  · exact .refl p x

/-- What a report writes of its station's record (R91). -/
structure Station.Reported (p : Pair) (st : StateInForce) (x y : Station) : Prop where
  alike : x.Alike y
  silent : y.silent = x.silent
  part : ∀ q, x.part? p = some q → ∃ z, y.part? p = some z ∧ z.issue = q.issue ∧ z.operator = q.operator ∧
    (∀ i, x.kind = .repeater → st = .repeater i → z.isolation = i.toIsolation) ∧
    ∀ b c side, x.kind = .branching b → st = .branching c side → z.connection = some c.toConnection

theorem Station.Reported.remains {p : Pair} {st : StateInForce} {x y z : Station} (h : x.Reported p st y)
    (k : y.Remains p z) : x.Reported p st z := by
  refine ⟨h.alike.trans k.alike, k.silent.trans h.silent, fun q part => ?_⟩
  obtain ⟨w, part', issue, operator, isolation, connection⟩ := h.part q part
  obtain ⟨v, part'', remains⟩ := k.part w part'
  exact ⟨v, part'', remains.issue.trans issue, remains.operator.trans operator,
    fun i kind report => remains.isolation.trans (isolation i kind report),
    fun b c side kind report => remains.connection.trans (connection b c side kind report)⟩

theorem station?_updatePart_found {s : State} {n : Nat} {x : Station} (found : s.station? n = some x) (p : Pair)
    (f : PairPart → PairPart) : (s.updatePart n p f).station? n = some (x.updatePart p f) := by
  rw [station?_updatePart, if_pos rfl, found]
  rfl

theorem station?_writeInForce {s : State} {n : Nat} {x : Station} (found : s.station? n = some x) (p : Pair)
    (st : StateInForce) : ∃ y, (s.writeInForce n p st).station? n = some y ∧ x.Reported p st y := by
  unfold State.writeInForce
  rw [found]
  dsimp only
  split
  next i kind =>
    refine ⟨_, station?_updatePart_found found p _, x.alike_updatePart p fun _ => rfl, rfl, fun q part => ?_⟩
    refine ⟨{ q with isolation := i.toIsolation }, ?_, rfl, rfl, fun j _ report => ?_, fun b c side unit => ?_⟩
    · rw [Station.part?_updatePart (f := fun q => { q with isolation := i.toIsolation }) x p p fun _ => rfl, if_pos rfl, part]
      rfl
    · cases report
      rfl
    · rw [kind] at unit
      cases unit
  next _ b c side kind =>
    have written := station?_updatePart_found found p fun q => { q with connection := some c.toConnection }
    have reported : x.Reported p (.branching c side) (x.updatePart p fun q => { q with connection := some c.toConnection }) := by
      refine ⟨x.alike_updatePart p fun _ => rfl, rfl, fun q part => ?_⟩
      refine ⟨{ q with connection := some c.toConnection }, ?_, rfl, rfl, fun i repeater => ?_, fun b' d side' _ report => ?_⟩
      · rw [Station.part?_updatePart (f := fun q => { q with connection := some c.toConnection }) x p p fun _ => rfl,
          if_pos rfl, part]
        rfl
      · rw [kind] at repeater
        cases repeater
      · cases report
        rfl
    unfold State.writeConnection
    dsimp only
    split
    · obtain ⟨y, cleared, remains⟩ := station?_clearBranch written p b
      exact ⟨y, cleared, reported.remains remains⟩
    · exact ⟨_, written, reported⟩
  next _ _ notRepeater notUnit =>
    exact ⟨x, found, .refl x, rfl, fun q part => ⟨q, part, rfl, rfl,
      fun i kind report => (notRepeater i kind report).elim,
      fun b c side kind report => (notUnit b c side kind report).elim⟩⟩

/-! ### A record judged, and the records of the other stations -/

theorem judge_silent (r : Station) (w : AlarmWord) : (r.judge w).1.silent = r.silent :=
  congrArg (fun j : Judged => j.1.silent) ((Station.Alike.refl r).judge w)

theorem judge_parts (r : Station) (w : AlarmWord) : (r.judge w).1.parts = r.parts := (r.judge_samePlace w).2.2.2.2.2.2

theorem part?_alarmCases {n : Nat} {w : AlarmWord} {m : Nat} {p : Pair} (l : List Pair) {s : State} {z : PairPart}
    (part : s.part? m p = some z) :
    ∃ h, (l.foldl (fun s q => s.alarmCase n w q) s).part? m p = some { z with health := h } := by
  induction l generalizing s z with
  | nil => exact ⟨z.health, part⟩
  | cons q l ih =>
    obtain ⟨h, first⟩ := part?_findCase_health part (n := n) (p := q) (.alarm w) (s.sc q).roundCounter
    exact ih (s := s.alarmCase n w q) (z := { z with health := h }) first

/-- A judgement writes of a pair part its health alone. -/
theorem part?_judgeWord {s : State} {n : Nat} {r : Station} {p : Pair} {z : PairPart} (found : s.station? n = some r)
    (part : r.part? p = some z) (w : AlarmWord) : ∃ h, (s.judgeWord n w).part? n p = some { z with health := h } := by
  obtain ⟨calm, trigger⟩ := judgeWord_found found w
  have judged := station?_judged found (r.judge_samePlace w).1
  have part' : (s.updateStation n fun _ => (r.judge w).1).part? n p = some z := by
    refine part?_of_found judged ?_
    rw [Station.part?, judge_parts]
    exact part
  cases named : (r.judge w).2 with
  | none =>
    rw [calm named]
    exact ⟨z.health, part'⟩
  | some l =>
    obtain ⟨h, cases⟩ := part?_alarmCases (n := n) (w := w) l part'
    rw [trigger l named]
    exact ⟨h, (part?_dropLatch _ n n p).trans cases⟩

theorem station?_findCase_other {s : State} {n m : Nat} (other : m ≠ n) (p : Pair) (f : CauseFound) (round : Nat) :
    (s.findCase n p f round).station? m = s.station? m := by
  unfold State.findCase
  split
  · exact station?_of_table (only_mergeCase s _ f).table_eq m
  · split
    · rw [openCase_eq]
      change ((s.listed n p f round).refreshHealth n p).station? m = _
      rw [State.refreshHealth, station?_updatePart, if_neg other]
      rfl
    · rfl

theorem station?_updateStation_other {s : State} {n m : Nat} {f : Station → Station} (number : ∀ r, r.number = n → (f r).number = n)
    (other : m ≠ n) : (s.updateStation n f).station? m = s.station? m := by
  have mapped := station?_map (s := s) (t := s.updateStation n f) (congrArg StationTable.stations (updateStation_stations s n f))
    (fun r => by
      split
      next same => rw [number r same, same]
      next => rfl) m
  rw [mapped]
  cases found : s.station? m with
  | none => rfl
  | some r =>
    have named := (station?_some found).2
    exact congrArg some (if_neg fun same => other (named.symm.trans same))

theorem station?_judgeWord_other {s : State} {n m : Nat} (other : m ≠ n) (w : AlarmWord) :
    (s.judgeWord n w).station? m = s.station? m := by
  cases found : s.station? n with
  | none =>
    unfold State.judgeWord
    rw [found]
  | some r =>
    obtain ⟨calm, trigger⟩ := judgeWord_found found w
    have number : (r.judge w).1.number = n := (r.judge_samePlace w).1.trans (station?_some found).2
    have judged : (s.updateStation n fun _ => (r.judge w).1).station? m = s.station? m :=
      station?_updateStation_other (fun _ _ => number) other
    cases named : (r.judge w).2 with
    | none => rw [calm named, judged]
    | some l =>
      have cases : ∀ (l : List Pair) (u : State), (l.foldl (fun s q => s.alarmCase n w q) u).station? m = u.station? m := by
        intro l
        induction l with
        | nil => exact fun _ => rfl
        | cons q l ih => exact fun u => (ih _).trans (station?_findCase_other other q _ _)
      rw [trigger l named, State.dropLatch]
      split
      · exact (cases l _).trans judged
      · rw [station?_updateStation_other (f := fun r => { r with latched := none }) (fun _ h => h) other]
        exact (cases l _).trans judged

theorem station?_operatorDone {s : State} {p : Pair} {t : Telegram} {o : OperatorOutcome} {m : Nat} {x : Station}
    (found : s.station? m = some x) : ∃ y, (s.operatorDone p t o).station? m = some y ∧ y = { x with parts := y.parts } ∧
      (m ≠ t.dest → y = x) := by
  unfold State.operatorDone
  split
  · change ∃ y, (s.writeOperator p t o).station? m = some y ∧ _
    rw [State.writeOperator, station?_updatePart, found]
    split
    next same => exact ⟨_, rfl, rfl, fun other => absurd same other⟩
    next => exact ⟨x, rfl, rfl, fun _ => rfl⟩
  · exact ⟨x, found, rfl, fun _ => rfl⟩

/-! ### The matched reply, step by step -/

/-- The record and the steering state that a matched reply writes (R36, R91). -/
def State.reported (s : State) (p : Pair) (n : Nat) (st : StateInForce) : State :=
  (((s.endExchange p).setSilent n 0).writeInForce n p st).reportSide p n st

/-- A matched reply before it reaches its submitter (R40, R91, R104). -/
def State.answered (s : State) (p : Pair) (n : Nat) (c : ReplyContent) : State :=
  ((s.reported p n c.state).replanIfChanged (s.endExchange p) p n).handWord n c

theorem matchedReply_eq (s : State) (p : Pair) (t : Telegram) (c : ReplyContent) :
    s.matchedReply p t c = ((s.answered p t.dest c).handReply p t c).settle := rfl

theorem reported_only (s : State) (p : Pair) (n : Nat) (st : StateInForce) :
    Only [.telegrams, .table, .survey] s (s.reported p n st) :=
  ((only_endExchange s p).up.trans (only_setSilent _ n 0).up).trans
    ((only_writeInForce _ n p st).up.trans (only_reportSide _ p n st).up)

theorem reported_table (s : State) (p : Pair) (n : Nat) (st : StateInForce) :
    (s.reported p n st).table = (((s.endExchange p).setSilent n 0).writeInForce n p st).table :=
  (only_reportSide _ p n st).table_eq

theorem reported_station {s : State} {n : Nat} {x : Station} (found : s.station? n = some x) (p : Pair) (st : StateInForce) :
    ∃ y, (s.reported p n st).station? n = some y ∧ ({ x with silent := 0 } : Station).Reported p st y := by
  obtain ⟨y, written, reported⟩ := station?_writeInForce (station?_setSilent (s := s.endExchange p) found 0) p st
  exact ⟨y, (station?_of_table (reported_table s p n st) n).trans written, reported⟩

/-- The records of the other stations after a report (R91). -/
theorem reported_others {s : State} {x : Station} (law : s.geometryLaw = true) (parts : s.partsLaw = true)
    (hx : x ∈ s.table.stations) (p : Pair) (st : StateInForce) {v : Station} (hv : v ∈ s.table.stations)
    (other : v.number ≠ x.number) : (s.reported p x.number st).station? v.number = some (s.afterReport x p st v) := by
  have keys := (geometry_parts law).1
  have silent : Moves (s.endExchange p) ((s.endExchange p).setSilent x.number 0) :=
    moves_updateStation fun _ => ⟨rfl, rfl, rfl, rfl, rfl, rfl, rfl⟩
  have law' : ((s.endExchange p).setSilent x.number 0).geometryLaw = true :=
    geometryLaw_iff.mpr (silent.keeps (I := State.Geometry) Move.geometry (geometryLaw_iff.mp law))
  have parts' : ((s.endExchange p).setSilent x.number 0).partsLaw = true :=
    silent.keeps (I := fun s => s.partsLaw = true) Move.partsLaw parts
  have found : ((s.endExchange p).setSilent x.number 0).station? x.number = some { x with silent := 0 } :=
    station?_setSilent (s := s.endExchange p) (station?_of_mem keys hx) 0
  have found' : ((s.endExchange p).setSilent x.number 0).station? v.number = some v :=
    (station?_updateStation_other (s := s.endExchange p) (f := fun r => { r with silent := 0 }) (fun _ h => h) other).trans
      (station?_of_mem keys hv)
  have written := writeInForce_table (geometry_parts law').1 (station?_some found).1 (fun _ => ⟨law', parts'⟩) p st
  have number (r : Station) : (((s.endExchange p).setSilent x.number 0).afterReport { x with silent := 0 } p st r).number =
      r.number := by
    unfold State.afterReport
    dsimp only
    split
    · split <;> rfl
    · split
      · rfl
      · split <;> rfl
    · rfl
  rw [station?_of_table (reported_table s p x.number st), station?_map (congrArg StationTable.stations written) number, found']
  rfl

/-- What is left of a matched reply once it has reached its submitter, but for the record (R36, R91). -/
theorem answered_steps (s : State) (p : Pair) (n : Nat) (c : ReplyContent) :
    ({ s.tc p with outstanding := none } : TelegramController).Lined ((s.answered p n c).tc p) ∧
    ((s.answered p n c).sc p).steering = ((s.reported p n c.state).sc p).steering ∧
    CasesStand s ((s.reported p n c.state).replanIfChanged (s.endExchange p) p n) := by
  have steps := replanIfChanged_steps (s.reported p n c.state) (s.endExchange p) p n
  have word := only_handWord ((s.reported p n c.state).replanIfChanged (s.endExchange p) p n) n c
  have reported : (s.reported p n c.state).telegrams = (s.endExchange p).telegrams :=
    (only_reportSide _ p n _).telegrams_eq.trans
      ((only_writeInForce _ n p _).telegrams_eq.trans (only_setSilent (s.endExchange p) n 0).telegrams_eq)
  refine ⟨?_, ?_, (casesStand_of_eq (congrArg CaseArbiter.cases (reported_only s p n c.state).arbiter_eq)).trans
    steps.casesKept.stand⟩
  · have lined := steps.lined p
    rw [tc_of_telegrams reported, State.endExchange, tc_setTc, if_pos rfl] at lined
    rw [State.answered, tc_of_telegrams word.telegrams_eq]
    exact lined
  · rw [State.answered, sc_of_survey word.survey_eq]
    exact (steps.agrees p).2.2.2.1

/-- The record of the station after the reply has reached the Alarm Watch (R91, R92, R104). -/
theorem answered_record {s : State} {n : Nat} {x : Station} {q : PairPart} (found : s.station? n = some x) {p : Pair}
    (part : x.part? p = some q) (c : ReplyContent) : ∃ y z, (s.answered p n c).station? n = some y ∧ y.silent = 0 ∧
      y.part? p = some z ∧ z.issue = q.issue ∧ z.operator = q.operator ∧
      (∀ i, x.kind = .repeater → c.state = .repeater i → z.isolation = i.toIsolation) ∧
      (∀ b d side, x.kind = .branching b → c.state = .branching d side → z.connection = some d.toConnection) ∧
      ∀ w st, c = .statusReply w st → ∃ r, x.Alike r ∧
        WordRecord ((s.reported p n c.state).replanIfChanged (s.endExchange p) p n) n r w y := by
  obtain ⟨r, written, alike, silent, held⟩ := reported_station found p c.state
  obtain ⟨z, part', issue, operator, isolation, connection⟩ := held q part
  have table := (replanIfChanged_steps (s.reported p n c.state) (s.endExchange p) p n).only.table_eq
  have written' := (station?_of_table table n).trans written
  have alike' : x.Alike r := ⟨alike.1, alike.2⟩
  unfold State.answered
  cases c with
  | ack st | nak reason st =>
    exact ⟨r, z, written', silent, part', issue, operator, isolation, connection, nofun⟩
  | statusReply w st =>
    obtain ⟨y, record⟩ := judgeWord_judged written' w
    obtain ⟨h, part''⟩ := part?_judgeWord written' part' w
    obtain ⟨y', station, part''⟩ := part?_found part''
    obtain rfl := Option.some.inj (record.found.symm.trans station)
    refine ⟨y, _, station, ?_, part'', issue, operator, isolation, connection, fun v st' same => ?_⟩
    · rw [record.record]
      exact (judge_silent r w).trans silent
    · cases same
      exact ⟨r, alike', record⟩

/-- The records of the other stations then (R91). -/
theorem answered_others {s : State} {x : Station} (law : s.geometryLaw = true) (parts : s.partsLaw = true)
    (hx : x ∈ s.table.stations) (p : Pair) (c : ReplyContent) {v : Station} (hv : v ∈ s.table.stations)
    (other : v.number ≠ x.number) :
    (s.answered p x.number c).station? v.number = some (s.afterReport x p c.state v) := by
  have table := (replanIfChanged_steps (s.reported p x.number c.state) (s.endExchange p) p x.number).only.table_eq
  have reported := (station?_of_table table _).trans (reported_others law parts hx p c.state hv other)
  unfold State.answered State.handWord
  split
  · rw [station?_judgeWord_other other, reported]
  · exact reported

/-- The side that the reply reports (R36). -/
theorem answered_steering {s : State} {p : Pair} {n : Nat} {c : ReplyContent} {d : ReportedConnection} {side : Side}
    (report : c.state = .branching d side) (held : (s.sc p).steeringOf n ≠ none) :
    ((s.answered p n c).sc p).steeringOf n = some side.toSteering := by
  have written := only_writeInForce ((s.endExchange p).setSilent n 0) n p c.state
  have sided : (s.reported p n c.state).sc p = (s.sc p).setSteering n side.toSteering := by
    have before : (((s.endExchange p).setSilent n 0).writeInForce n p c.state).sc p = s.sc p := sc_of_survey written.survey_eq p
    rw [State.reported]
    generalize ((s.endExchange p).setSilent n 0).writeInForce n p c.state = u at before
    rw [report]
    exact (State.sc_setSc_self _ _ _).trans (by rw [before])
  rw [SurveyController.steeringOf, (answered_steps s p n c).2.1, sided]
  exact steeringOf_setSteering held _

/-- The submitter's hearing of a reply is work, after the action taken has been written. -/
theorem handReply_reaches (s : State) (p : Pair) (t : Telegram) (c : ReplyContent) :
    (s.tc p).Sent ((s.handReply p t c).tc p) ∧ CasesStand s (s.handReply p t c) ∧
    ((s.handReply p t c).sc p).steering = (s.sc p).steering := by
  unfold State.handReply
  split
  next =>
    have only := only_operatorDone s p t (replyOutcome c)
    rw [tc_of_telegrams only.telegrams_eq, sc_of_survey only.survey_eq]
    exact ⟨.refl _, casesStand_of_eq (congrArg CaseArbiter.cases only.arbiter_eq), rfl⟩
  next =>
    have steps := workSteps_steerTold s p
    exact ⟨steps.sent p, steps.casesKept.stand, (steps.agrees p).2.2.2.1⟩
  next l _ =>
    obtain ⟨sent, agrees, -⟩ := tell_reaches s l (replyEvent c)
    exact ⟨sent p, casesStand_tell s l _, (agrees p).2.2.2.1⟩
  next => exact ⟨.refl _, casesStand_of_eq rfl, rfl⟩

/-- The record after the submitter's hearing: an operator's outcome is written, and nothing else (R92). -/
theorem handReply_record {s : State} {p : Pair} {t : Telegram} {c : ReplyContent} {y : Station} {z : PairPart}
    (found : s.station? t.dest = some y) (part : y.part? p = some z) :
    ∃ y' z', (s.handReply p t c).station? t.dest = some y' ∧ y' = { y with parts := y'.parts } ∧ y'.part? p = some z' ∧
      z'.isolation = z.isolation ∧ z'.connection = z.connection ∧
      (t.submitter = .operator z.issue → z'.operator = z.operator.map (fun a => { a with outcome := replyOutcome c }) ∧
        (s.handReply p t c).port.attention.operatorDone = true) := by
  have unwritten {u : State} (table : u.table = s.table) (notOperator : t.submitter ≠ .operator z.issue) :
      ∃ y' z', u.station? t.dest = some y' ∧ y' = { y with parts := y'.parts } ∧ y'.part? p = some z' ∧
        z'.isolation = z.isolation ∧ z'.connection = z.connection ∧
        (t.submitter = .operator z.issue → z'.operator = z.operator.map (fun a => { a with outcome := replyOutcome c }) ∧
          u.port.attention.operatorDone = true) :=
    ⟨y, z, (station?_of_table table _).trans found, rfl, part, rfl, rfl, fun operator => absurd operator notOperator⟩
  unfold State.handReply
  split
  next =>
    obtain ⟨a, outcome, done⟩ := part?_operatorDone (part?_of_found found part) (replyOutcome c)
    obtain ⟨y', station, same, -⟩ := station?_operatorDone (p := p) (t := t) (o := replyOutcome c) found
    obtain ⟨y'', station', part'⟩ := part?_found outcome
    obtain rfl := Option.some.inj (station.symm.trans station')
    exact ⟨y', _, station, same, part', rfl, rfl, done⟩
  next submitter => exact unwritten (workSteps_steerTold s p).only.table_eq (by rw [submitter]; nofun)
  next l submitter => exact unwritten (only_tell s l _).table_eq (by rw [submitter]; nofun)
  next submitter => exact unwritten rfl (by rw [submitter]; nofun)

theorem handReply_others {s : State} {p : Pair} {t : Telegram} {c : ReplyContent} {m : Nat} {x : Station} (other : m ≠ t.dest)
    (found : s.station? m = some x) : (s.handReply p t c).station? m = some x := by
  unfold State.handReply
  split
  next =>
    obtain ⟨y, station, -, same⟩ := station?_operatorDone (p := p) (t := t) (o := replyOutcome c) found
    exact same other ▸ station
  next => exact (station?_of_table (workSteps_steerTold s p).only.table_eq m).trans found
  next l _ => exact (station?_of_table (only_tell s l _).table_eq m).trans found
  next => exact found

theorem reportSide_calm {s : State} {p : Pair} (calm : (s.sc p).focused = none ∨ (s.sc p).state ≠ .waiting) (n : Nat)
    (st : StateInForce) : ((s.reportSide p n st).sc p).focused = none ∨ ((s.reportSide p n st).sc p).state ≠ .waiting := by
  unfold State.reportSide
  split
  · exact calm
  · rw [State.sc_setSc_self]
    exact calm

theorem judgeWord_stack (s : State) (n : Nat) (w : AlarmWord) : (s.judgeWord n w).arbiter.stack = s.arbiter.stack := by
  have cases : ∀ (l : List Pair) (u : State), (l.foldl (fun s q => s.alarmCase n w q) u).arbiter.stack = u.arbiter.stack := by
    intro l
    induction l with
    | nil => exact fun _ => rfl
    | cons q l ih => exact fun u => (ih _).trans (findCase_stack u n q _ _)
  cases found : s.station? n with
  | none =>
    unfold State.judgeWord
    rw [found]
  | some r =>
    obtain ⟨calm, trigger⟩ := judgeWord_found found w
    cases named : (r.judge w).2 with
    | none =>
      rw [calm named]
      rfl
    | some l =>
      rw [trigger l named, (dropLatch_only _ n).arbiter_eq]
      exact cases l _

/-- The context that hears of the reply, on a pair that is not planned again for a focused request (R92, R168). -/
theorem answered_context {s : State} {p : Pair} (calm : (s.sc p).focused = none ∨ (s.sc p).state ≠ .waiting) (n : Nat)
    (c : ReplyContent) (l : Level) : (s.answered p n c).arbiter.stack = s.arbiter.stack ∧
      ((s.answered p n c).tc p).outstanding = none ∧ ∃ g : ContextPhase → ContextPhase,
        (s.answered p n c).context l = (s.context l).map fun c => { c with phase := g c.phase } := by
  have only := reported_only s p n c.state
  have survey : (((s.endExchange p).setSilent n 0).writeInForce n p c.state).sc p = s.sc p :=
    sc_of_survey (only_writeInForce ((s.endExchange p).setSilent n 0) n p c.state).survey_eq p
  have calm' := reportSide_calm (s := ((s.endExchange p).setSilent n 0).writeInForce n p c.state) (survey ▸ calm) n c.state
  have plans := replanIfChanged_plans (s := s.reported p n c.state) calm' (s.endExchange p) n
  refine ⟨?_, (answered_steps s p n c).1.outstanding, ?_⟩
  · have before := plans.only.arbiter_eq.trans only.arbiter_eq
    unfold State.answered State.handWord
    split
    · rw [judgeWord_stack, before]
    · rw [before]
  · obtain ⟨g, phased⟩ := plans.phased l
    refine ⟨g, ?_⟩
    rw [State.answered, context_of_eq (only_handWord _ n c).contexts_eq]
    exact phased.trans (congrArg (Option.map _) (context_of_eq only.contexts_eq l))

theorem hearReply_matched {s : State} {p : Pair} {r : Reply} {o : Outstanding} (equipped : s.equipped p = true)
    (driving : (s.sc p).role = .driving) (out : (s.tc p).outstanding = some o) (matched : s.matchesReply o r = true) :
    s.hearReply p r = s.matchedReply p o.telegram r.content := by
  unfold State.hearReply
  rw [if_pos equipped, driving]
  dsimp only
  unfold State.replyDriving
  rw [out]
  exact if_pos matched

/-- The alarm word of a matched reply has been judged once the submitter has heard it (R92, R104). -/
theorem answered_judged {s t : State} {p : Pair} {n : Nat} {c : ReplyContent} {w : AlarmWord} {st : StateInForce} {x r y z : Station}
    (content : c = .statusReply w st) (number : x.number = n) (alike : x.Alike r)
    (record : WordRecord ((s.reported p n c.state).replanIfChanged (s.endExchange p) p n) n r w y)
    (after : CasesStand (s.answered p n c) t) (found : t.station? n = some z) (same : z = { y with parts := z.parts }) :
    WordJudged s t x w := by
  subst number content
  exact wordJudged_of alike (answered_steps s p x.number (.statusReply w st)).2.2 record after found same

/-- Settles O40: the record first, then the alarm word, then the submitter, whose work writes no record. -/
theorem matchedReplyWritesRecord : Obligations.MatchedReplyWritesRecord := by
  intro p r o x q s equipped driving out dest source tag answers found part
  obtain ⟨hx, number⟩ := station?_some found
  have heard := hearReply_matched equipped driving out (matchesReply_iff.mpr ⟨dest, source, tag, answers⟩)
  have only := heard ▸ only_hearReply s p r
  obtain ⟨y, z, station, silent, part', issue, operator, isolation, connection, word⟩ := answered_record found part r.content
  obtain ⟨y', z', station', same, part'', isolation', connection', outcome⟩ :=
    handReply_record (t := o.telegram) (c := r.content) station part'
  obtain ⟨exchange, -, -⟩ := answered_steps s p o.telegram.dest r.content
  obtain ⟨sent, stand, steering⟩ := handReply_reaches (s.answered p o.telegram.dest r.content) p o.telegram r.content
  have settled := only_settle ((s.answered p o.telegram.dest r.content).handReply p o.telegram r.content)
  have final := (station?_of_table settled.table_eq _).trans station'
  rw [matchedReply_eq] at heard only
  refine ⟨_, y', z', congrArg Host.Outcome.next heard, final, ?_, part'', ?_, ?_, ?_, ?_, ?_, ?_, ?_, only.line_eq,
    only.settings_eq, only.strays_eq⟩
  · rw [same]
    exact silent
  · exact fun i kind report => isolation'.trans (isolation i kind report)
  · intro b c side kind report
    refine ⟨connection'.trans (connection b c side kind report), fun held => ?_⟩
    have sided := answered_steering (n := o.telegram.dest) report held
    rwa [settle_sc, SurveyController.steeringOf, steering, ← SurveyController.steeringOf]
  · intro a current inForce
    obtain ⟨written, raised⟩ := outcome (by rw [issue, current])
    refine ⟨?_, by rw [settled.port_eq]; exact raised⟩
    rw [written, operator, inForce]
    rfl
  · intro law parts v hv other
    rw [← number] at other
    have unheard := answered_others law parts hx p r.content hv other
    rw [number] at unheard
    exact (station?_of_table settled.table_eq _).trans (handReply_others (number ▸ other) unheard)
  · intro w st content
    obtain ⟨rec, alike, record⟩ := word w st content
    exact answered_judged content number alike record
      (stand.trans (casesStand_of_eq (congrArg CaseArbiter.cases settled.arbiter_eq))) final same
  · intro w launched
    have whole := exchange.sent.trans (sent.trans (sent_settle _ p))
    obtain ⟨none, -⟩ | ⟨-, -, v, launched', first, next⟩ := whole.exchange
    · rw [launched] at none
      cases none
    · rw [launched] at launched'
      cases launched'
      exact ⟨first, next⟩
  · intro l submitter calm
    obtain ⟨stack, none, g, context⟩ := answered_context calm o.telegram.dest r.content l
    have handed : (s.answered p o.telegram.dest r.content).handReply p o.telegram r.content =
        (s.answered p o.telegram.dest r.content).tell l (replyEvent r.content) := by
      rw [State.handReply, submitter]
    rw [handed]
    refine ⟨⟨_, ?_, stack, none, fun c h => ⟨g c.phase, ?_⟩, rfl⟩, fun c h suspended => ?_⟩
    · rw [(only_settle _).table_eq, (only_tell _ l _).table_eq]
    · rw [context, h]
      rfl
    · rw [h] at context
      exact ⟨_, tell_settle_suspended context (stack ▸ suspended) _, rfl, rfl, rfl⟩

end Sys2Proof.Machine
end

section
/-! PROOFS. A pair out of DRIVING, once every block has ended its work on it: what follows leaves its controllers, and
the pool without it. -/

namespace Sys2Proof.Machine

/-! ### A pair that is out of work -/

/-- The pair is out of DRIVING with these controllers, and neither its survey nor the pool holds anything of it. -/
structure State.Retired (s : State) (p : Pair) (c : SurveyController) (d : TelegramController) : Prop where
  sc : s.sc p = c
  tc : s.tc p = d
  notDriving : c.role ≠ .driving
  quiet : c.quiet = true
  pool : s.pool.Without p

theorem State.Retired.undriven {s : State} {p : Pair} {c : SurveyController} {d : TelegramController}
    (h : s.Retired p c d) : s.driving p = false := by
  rw [State.driving, h.sc]
  simpa using h.notDriving

/-- Another pair's controller, or none, is written. -/
theorem State.Retired.not_engaged {s : State} {p q : Pair} {c : SurveyController} {d : TelegramController}
    (h : s.Retired p c d) (engaged : s.engaged q) : p ≠ q := by
  rintro rfl
  obtain driving | loud := engaged
  · rw [h.undriven] at driving
    cases driving
  · rw [h.sc, h.quiet] at loud
    cases loud

theorem State.Retired.of_eq {s t : State} {p : Pair} {c : SurveyController} {d : TelegramController}
    (h : s.Retired p c d) (survey : t.survey = s.survey) (telegrams : t.telegrams = s.telegrams)
    (pool : t.pool = s.pool) : t.Retired p c d :=
  ⟨(sc_of_survey survey p).trans h.sc, (tc_of_telegrams telegrams p).trans h.tc, h.notDriving, h.quiet, pool ▸ h.pool⟩

theorem grantTo_sc_ne (s : State) (k : CorrelatorNo) {p q : Pair} (kind : RoundKind) (other : q ≠ p) :
    (s.grantTo k p kind).sc q = s.sc q := by
  unfold State.grantTo
  dsimp only
  split <;> exact State.sc_setSc_ne _ _ other

theorem grantTo_pool (s : State) (k : CorrelatorNo) (p : Pair) (kind : RoundKind) :
    (s.grantTo k p kind).pool = { s.pool with
      correlators := s.pool.correlators.set k (.running ⟨s.roundDefinition p, s.snapshotOf (s.roundDefinition p).view, []⟩
        0 s.line.terminal),
      presented := s.pool.presented.filter fun e => e.1 != p,
      lastGranted := if kind == .regular then p else s.pool.lastGranted } := by
  unfold State.grantTo
  dsimp only
  split <;> rfl

theorem submit_undriven {s : State} {p : Pair} (undriven : s.driving p = false) (q : Pair) (t : Telegram) :
    (s.submit q t).tc p = s.tc p := by
  unfold State.submit
  split
  next driving =>
    refine State.tc_setTc_ne _ _ ?_
    rintro rfl
    rw [undriven] at driving
    cases driving
  next => rfl

theorem WorkMove.retired {s t : State} {p : Pair} {c : SurveyController} {d : TelegramController} (h : WorkMove s t)
    (hs : s.Retired p c d) : t.Retired p c d := by
  cases h with
  | contexts | occupy => exact hs.of_eq rfl rfl rfl
  | controller q c' engaged _ =>
    exact ⟨(State.sc_setSc_ne _ _ (hs.not_engaged engaged)).trans hs.sc, hs.tc, hs.notDriving, hs.quiet, hs.pool⟩
  | unpresent q =>
    exact ⟨hs.sc, hs.tc, hs.notDriving, hs.quiet,
      fun e he => hs.pool.presented e (List.mem_of_mem_filter he), hs.pool.queue, hs.pool.serves⟩
  | present q k engaged =>
    refine ⟨hs.sc, hs.tc, hs.notDriving, hs.quiet, fun e he => ?_, hs.pool.queue, hs.pool.serves⟩
    obtain rfl | he := mem_insertRequest he
    · exact (hs.not_engaged engaged).symm
    · exact hs.pool.presented e he
  | grant k q kind _ asked =>
    have other : q ≠ p := hs.pool.presented _ asked
    have served := hs.pool.setCorrelator k (v := .running ⟨s.roundDefinition q,
      s.snapshotOf (s.roundDefinition q).view, []⟩ 0 s.line.terminal) (beq_eq_false_iff_ne.mpr other)
    refine ⟨(grantTo_sc_ne s k kind other.symm).trans hs.sc, ?_, hs.notDriving, hs.quiet, ?_⟩
    · exact (tc_of_telegrams (only_grantTo s k q kind).telegrams_eq p).trans hs.tc
    · rw [grantTo_pool]
      exact ⟨fun e he => hs.pool.presented e (List.mem_of_mem_filter he), hs.pool.queue, served.serves⟩
  | submit q t =>
    have only := only_submit s q t
    exact ⟨(sc_of_survey only.survey_eq p).trans hs.sc, (submit_undriven hs.undriven q t).trans hs.tc, hs.notDriving,
      hs.quiet, only.pool_eq ▸ hs.pool⟩
  | askAuto k n q =>
    have only := only_askAuto s k n q
    exact hs.of_eq only.survey_eq only.telegrams_eq only.pool_eq
  | leave o =>
    have only := only_leaveService s o
    exact hs.of_eq only.survey_eq only.telegrams_eq only.pool_eq

theorem WorkSteps.retired {s t : State} {p : Pair} {c : SurveyController} {d : TelegramController} (h : WorkSteps s t)
    (hs : s.Retired p c d) : t.Retired p c d := h.keeps (I := fun s => s.Retired p c d) WorkMove.retired hs

/-! ### The close of an event -/

theorem TelegramController.fill_of_idle {c : TelegramController} (h : c.idle = true) : c.fill = c := by
  obtain ⟨queue, waiting, -⟩ := idle_iff.mp h
  unfold TelegramController.fill
  rw [queue, waiting]
  cases c
  cases queue
  cases waiting
  rfl

theorem fillPair_tc (s : State) (q p : Pair) : (s.fillPair q).tc p = if p = q then (s.tc q).fill else s.tc p :=
  tc_setTc s q _ p

theorem sendHead_undriven {s : State} {p : Pair} (undriven : s.driving p = false) (q : Pair) :
    (s.sendHead q).tc p = s.tc p := by
  unfold State.sendHead
  dsimp only
  split
  next driving _ _ =>
    have other : p ≠ q := by
      rintro rfl
      rw [undriven] at driving
      cases driving
    split
    · exact (State.tc_setTc_ne _ _ other).trans (State.tc_setTc_ne _ _ other)
    · exact State.tc_setTc_ne _ _ other
  next => rfl

theorem advanceCursor_undriven {s : State} {p : Pair} (undriven : s.driving p = false) (q : Pair) :
    (s.advanceCursor q).tc p = s.tc p := by
  unfold State.advanceCursor
  split
  next free =>
    split
    · refine State.tc_setTc_ne _ _ ?_
      rintro rfl
      simp [State.cursorFree, undriven] at free
    · rfl
  next => rfl

theorem State.Retired.settle {s : State} {p : Pair} {c : SurveyController} {d : TelegramController}
    (h : s.Retired p c d) (idle : d.idle = true) : s.settle.Retired p c d := by
  refine settle_keeps (I := fun u => u.Retired p c d) (fun u q hu => ?fill) (fun u q hu => ?send) (fun u q hu => ?advance)
    (fun _ _ hu => hu.of_eq rfl rfl rfl) h
  case fill =>
    refine ⟨hu.sc, ?_, hu.notDriving, hu.quiet, hu.pool⟩
    rw [fillPair_tc]
    split
    next same =>
      rw [← same, hu.tc]
      exact TelegramController.fill_of_idle idle
    next => exact hu.tc
  case send =>
    have only := only_sendHead u q
    exact ⟨(sc_of_survey only.survey_eq p).trans hu.sc, (sendHead_undriven hu.undriven q).trans hu.tc, hu.notDriving,
      hu.quiet, only.pool_eq ▸ hu.pool⟩
  case advance =>
    have only := only_advanceCursor u q
    exact ⟨(sc_of_survey only.survey_eq p).trans hu.sc, (advanceCursor_undriven hu.undriven q).trans hu.tc, hu.notDriving,
      hu.quiet, only.pool_eq ▸ hu.pool⟩

/-! ### Attention in the part's own work -/

/-- The port of the second state is that of the first, but that CASE_HELD may have been raised. -/
def MayHold (s t : State) : Prop := t.port = s.port ∨ t.port = (s.raise .caseHeld).port

theorem MayHold.trans {s t u : State} (h : MayHold s t) (k : MayHold t u) : MayHold s u := by
  obtain same | held := k
  · rwa [MayHold, same]
  · obtain first | first := h
    · refine .inr (held.trans ?_)
      rw [State.raise, first, State.raise]
      rfl
    · refine .inr (held.trans ?_)
      rw [State.raise, first]
      rfl

theorem WorkMove.mayHold {s t : State} (h : WorkMove s t) : MayHold s t := by
  cases h with
  | contexts | occupy | controller | unpresent | present => exact .inl rfl
  | grant k p kind => exact .inl (only_grantTo s k p kind).port_eq
  | submit p t => exact .inl (only_submit s p t).port_eq
  | askAuto k n p _ => exact .inl (only_askAuto s k n p).port_eq
  | leave o =>
    unfold State.leaveService
    split
    · exact .inl rfl
    · exact .inr (only_activateTop _).port_eq

theorem WorkSteps.mayHold {s t : State} (h : WorkSteps s t) : MayHold s t :=
  h.lift (R := MayHold) (fun _ => .inl rfl) .trans WorkMove.mayHold

theorem MayHold.operatorDone {s t : State} (h : MayHold s t) :
    t.port.attention.operatorDone = s.port.attention.operatorDone := by
  obtain same | held := h
  · rw [same]
  · rw [held]
    rfl

theorem MayHold.contention {s t : State} (h : MayHold s t) :
    t.port.attention.contention = s.port.attention.contention := by
  obtain same | held := h
  · rw [same]
  · rw [held]
    rfl

theorem MayHold.state {s t : State} (h : MayHold s t) : t.port.state = s.port.state := by
  obtain same | held := h
  · rw [same]
  · rw [held]
    rfl

end Sys2Proof.Machine
end

section
/-! PROOFS. The records of a pair whose telegrams are abandoned (R96). -/

namespace Sys2Proof.Machine

/-! ### The table, step by step -/

/-- The pair part of a station of a kind after a command to the station was lost (R94, R96). -/
def PairPart.doubted (kind : StationKind) (k : TelegramKind) (y : PairPart) : PairPart :=
  { y with
    isolation := if kind = .repeater ∧ (k = .isolateSpare ∨ k = .isolateLimit ∨ k = .restore) then .uncertain
      else y.isolation,
    connection := if kind ≠ .repeater ∧ (k = .cut ∨ k = .reconnect) then some .uncertain else y.connection }

/-- The table with one change of every record. -/
def StationTable.each (t : StationTable) (f : Station → Station) : StationTable :=
  { t with stations := t.stations.map f }

theorem StationTable.each_id {t : StationTable} {f : Station → Station} (same : ∀ r ∈ t.stations, f r = r) :
    t.each f = t := by
  have stations : t.stations.map f = t.stations := (List.map_congr_left same).trans (List.map_id _)
  rw [StationTable.each, stations]

theorem StationTable.each_each (t : StationTable) (f g : Station → Station) : (t.each f).each g = t.each (g ∘ f) := by
  rw [StationTable.each, StationTable.each, StationTable.each, List.map_map]

theorem StationTable.each_congr {t : StationTable} {f g : Station → Station} (same : ∀ r ∈ t.stations, f r = g r) :
    t.each f = t.each g := by
  rw [StationTable.each, StationTable.each, List.map_congr_left same]

/-- One pair part of the stations of a number written. -/
def Station.partWritten (n : Nat) (p : Pair) (f : PairPart → PairPart) (r : Station) : Station :=
  if r.number = n then { r with parts := r.parts.map fun y => if y.pair = p then f y else y } else r

theorem updatePart_each (s : State) (n : Nat) (p : Pair) (f : PairPart → PairPart) :
    (s.updatePart n p f).table = s.table.each (Station.partWritten n p f) := by
  rw [updatePart_stations, StationTable.each]
  refine congrArg (fun l => { s.table with stations := l }) (List.map_congr_left fun r _ => ?_)
  rw [Station.updatePart_eq]
  rfl

theorem Station.partWritten_congr {n : Nat} {p : Pair} {f g : PairPart → PairPart} {r : Station}
    (same : r.number = n → ∀ y, f y = g y) : r.partWritten n p f = r.partWritten n p g := by
  unfold Station.partWritten
  by_cases number : r.number = n
  · simp [number, same number]
  · simp [number]

theorem Station.partWritten_id {n : Nat} {p : Pair} {f : PairPart → PairPart} {r : Station}
    (same : r.number = n → ∀ y, f y = y) : r.partWritten n p f = r := by
  unfold Station.partWritten
  split
  next number =>
    have parts : (r.parts.map fun y => if y.pair = p then f y else y) = r.parts :=
      (List.map_congr_left fun y _ => by rw [same number, ite_self, id_eq]).trans (List.map_id _)
    rw [parts]
  next => rfl

/-- A lost command to a station, record by record (R94, R96). -/
theorem markUncertain_each {s : State} (keys : s.keyLaw = true) (n : Nat) (p : Pair) (k : TelegramKind) :
    (s.markUncertain n p k).table =
      s.table.each fun r => r.partWritten n p (PairPart.doubted r.kind k) := by
  cases found : s.station? n with
  | none =>
    have stands : s.markUncertain n p k = s := by
      unfold State.markUncertain
      rw [found]
    rw [stands]
    exact (StationTable.each_id fun r hr => Station.partWritten_id fun number =>
      absurd number (station?_none.mp found r hr)).symm
  | some q =>
    obtain ⟨member, number⟩ := station?_some found
    have one {r : Station} (hr : r ∈ s.table.stations) (e : r.number = n) : r = q :=
      eq_of_number_eq keys hr member (e.trans number.symm)
    have writes {f : PairPart → PairPart} (written : s.markUncertain n p k = s.updatePart n p f)
        (same : ∀ y, f y = y.doubted q.kind k) :
        (s.markUncertain n p k).table = s.table.each fun r => r.partWritten n p (PairPart.doubted r.kind k) := by
      rw [written, updatePart_each]
      exact StationTable.each_congr fun r hr => Station.partWritten_congr fun e y => one hr e ▸ same y
    have eq : s.markUncertain n p k = s.markUncertain n p k := rfl
    conv at eq => rhs; unfold State.markUncertain; rw [found]
    dsimp only at eq
    split at eq
    next _ _ kind => exact writes eq fun y => by simp [PairPart.doubted, kind]
    next _ _ kind => exact writes eq fun y => by simp [PairPart.doubted, kind]
    next _ _ kind => exact writes eq fun y => by simp [PairPart.doubted, kind]
    next _ _ b kind =>
      refine writes (f := fun y => { y with connection := some .uncertain }) eq fun y => ?_
      simp [PairPart.doubted, kind]
    next _ _ b kind =>
      refine writes (f := fun y => { y with connection := some .uncertain }) eq fun y => ?_
      simp [PairPart.doubted, kind]
    next _ _ spare limit restore cut reconnect =>
      rw [eq]
      refine (StationTable.each_id fun r hr => Station.partWritten_id fun e y => ?_).symm
      rw [one hr e, PairPart.doubted, if_neg, if_neg]
      · rintro ⟨notRepeater, lost⟩
        cases kind : q.kind with
        | repeater => exact notRepeater kind
        | branching b =>
          obtain rfl | rfl := lost
          · exact cut b kind rfl
          · exact reconnect b kind rfl
      · rintro ⟨kind, rfl | rfl | rfl⟩
        · exact spare kind rfl
        · exact limit kind rfl
        · exact restore kind rfl

/-- The pair part with the outcome of its operator action written. -/
def PairPart.ended (o : OperatorOutcome) (y : PairPart) : PairPart :=
  { y with operator := y.operator.map fun a => { a with outcome := o } }

theorem PairPart.ended_ended (o : OperatorOutcome) (y : PairPart) : (y.ended o).ended o = y.ended o := by
  simp only [PairPart.ended, Option.map_map]
  rfl

/-- One pair part of the stations that meet a condition written. -/
def Station.partsWritten (c : Station → Prop) [DecidablePred c] (p : Pair) (f : PairPart → PairPart) (r : Station) :
    Station :=
  if c r then { r with parts := r.parts.map fun y => if y.pair = p then f y else y } else r

/-- Outcomes written for a list of telegrams, record by record. -/
theorem writeOperators_each (p : Pair) (o : OperatorOutcome) (l : List Telegram) (s : State) :
    (l.foldl (fun s t => s.writeOperator p t o) s).table =
      s.table.each (Station.partsWritten (fun r => ∃ t ∈ l, t.dest = r.number) p (PairPart.ended o)) := by
  induction l generalizing s with
  | nil =>
    refine (StationTable.each_id fun r _ => if_neg ?_).symm
    simp
  | cons t l ih =>
    rw [List.foldl_cons, ih]
    have written : (s.writeOperator p t o).table = s.table.each (Station.partWritten t.dest p (PairPart.ended o)) :=
      updatePart_each s t.dest p _
    rw [written, StationTable.each_each]
    refine StationTable.each_congr fun r _ => ?_
    rw [Function.comp_apply]
    by_cases first : r.number = t.dest
    · rw [Station.partWritten, if_pos first, Station.partsWritten, Station.partsWritten,
        if_pos (c := ∃ u ∈ t :: l, u.dest = r.number) ⟨t, List.mem_cons_self, first.symm⟩]
      split
      · refine congrArg (fun l => { r with parts := l }) ?_
        rw [List.map_map]
        refine List.map_congr_left fun y _ => ?_
        by_cases pair : y.pair = p
        · have still : (y.ended o).pair = p := pair
          rw [Function.comp_apply, if_pos pair, if_pos still, PairPart.ended_ended]
        · rw [Function.comp_apply, if_neg pair, if_neg pair]
      · rfl
    · rw [Station.partWritten, if_neg first, Station.partsWritten, Station.partsWritten]
      refine if_congr ?_ rfl rfl
      rw [List.exists_mem_cons_iff]
      exact (or_iff_right fun same => first same.symm).symm

/-! ### The telegrams whose outcomes end -/

theorem operatorCurrent_some {s : State} {p : Pair} {t : Telegram} : s.operatorCurrent p t = true ↔
    ∃ q, s.part? t.dest p = some q ∧ t.submitter = .operator q.issue := by
  constructor
  · intro current
    cases part : s.part? t.dest p with
    | none =>
      unfold State.operatorCurrent at current
      rw [part] at current
      split at current <;> cases current
    | some q => exact ⟨q, rfl, (operatorCurrent_iff part).mp current⟩
  · rintro ⟨q, part, submitter⟩
    exact (operatorCurrent_iff part).mpr submitter

theorem mem_operatorWork {c : TelegramController} {t : Telegram} :
    t ∈ c.operatorWork ↔ t ∈ c.queue ∨ ∃ o, c.outstanding = some o ∧ o.telegram = t := by
  unfold TelegramController.operatorWork
  cases c.outstanding with
  | none => simp
  | some o =>
    rw [List.mem_append, List.mem_singleton, or_comm]
    refine or_congr_right ⟨fun e => ⟨o, rfl, e.symm⟩, ?_⟩
    rintro ⟨o', same, e⟩
    cases same
    exact e.symm

theorem mem_abandonedWork {s : State} {p : Pair} {t : Telegram} : t ∈ s.abandonedWork p ↔
    (t ∈ (s.tc p).queue ∨ ∃ o, (s.tc p).outstanding = some o ∧ o.telegram = t) ∧
      ∃ q, s.part? t.dest p = some q ∧ t.submitter = .operator q.issue := by
  rw [State.abandonedWork, List.mem_filter, mem_operatorWork, operatorCurrent_some]

/-- A part's action ends with the pair's telegrams when one of them is the action's own. -/
theorem abandonsAction_iff {s : State} (keys : s.keyLaw = true) (parts : s.partsLaw = true) {p : Pair} {x : Station}
    {y : PairPart} (hx : x ∈ s.table.stations) (hy : y ∈ x.parts) (pair : y.pair = p) :
    s.abandonsAction p x y ↔ ∃ t ∈ s.abandonedWork p, t.dest = x.number := by
  have part : s.part? x.number p = some y := pair ▸ part?_of_mem keys parts hx hy
  constructor
  · rintro ⟨t, borne, dest, submitter⟩
    exact ⟨t, mem_abandonedWork.mpr ⟨borne, y, dest ▸ part, submitter⟩, dest⟩
  · rintro ⟨t, ht, dest⟩
    obtain ⟨borne, q, found, submitter⟩ := mem_abandonedWork.mp ht
    rw [dest, part] at found
    cases found
    exact ⟨t, borne, dest, submitter⟩

theorem markUncertain_issue (s : State) (n m : Nat) (p : Pair) (k : TelegramKind) :
    ((s.markUncertain n p k).part? m p).map (·.issue) = (s.part? m p).map (·.issue) := by
  have written {f : PairPart → PairPart} (pair : ∀ y, (f y).pair = y.pair) (issue : ∀ y, (f y).issue = y.issue) :
      ((s.updatePart n p f).part? m p).map (·.issue) = (s.part? m p).map (·.issue) := by
    by_cases same : m = n
    · rw [same, part?_updatePart_self s n p pair, Option.map_map]
      exact congrArg (fun g => (s.part? n p).map g) (funext issue)
    · rw [part?_updatePart_other s pair (.inl same)]
  unfold State.markUncertain
  split
  · rfl
  · split
    · exact written (fun _ => rfl) fun _ => rfl
    · exact written (fun _ => rfl) fun _ => rfl
    · exact written (fun _ => rfl) fun _ => rfl
    · exact written (f := fun q => { q with connection := some .uncertain }) (fun _ => rfl) fun _ => rfl
    · exact written (f := fun q => { q with connection := some .uncertain }) (fun _ => rfl) fun _ => rfl
    · rfl

theorem operatorCurrent_of_issue {s t : State} {p : Pair}
    (issue : ∀ m, (t.part? m p).map (·.issue) = (s.part? m p).map (·.issue)) (w : Telegram) :
    t.operatorCurrent p w = s.operatorCurrent p w := by
  have any (u : State) (i : Nat) : ((u.part? w.dest p).any fun q => q.issue == i) =
      ((u.part? w.dest p).map (·.issue)).any (· == i) := by
    cases u.part? w.dest p <;> rfl
  unfold State.operatorCurrent
  cases w.submitter with
  | operator i =>
    dsimp only
    rw [any, any, issue]
  | _ => rfl

/-- The loss of the outstanding telegram leaves which actions are in force. -/
theorem loseOutstanding_current (s : State) (p : Pair) (w : Telegram) :
    (s.loseOutstanding p).operatorCurrent p w = s.operatorCurrent p w := by
  refine operatorCurrent_of_issue (fun m => ?_) w
  unfold State.loseOutstanding
  split
  · exact markUncertain_issue s _ m p _
  · rfl

/-! ### The records of an abandonment -/

/-- A pair part, on the pair, after the outstanding telegram is lost. -/
def State.partLost (s : State) (p : Pair) (x : Station) (y : PairPart) : PairPart :=
  match (s.tc p).outstanding with
  | some o => if o.telegram.dest = x.number then y.doubted x.kind o.telegram.kind else y
  | none => y

theorem loseOutstanding_each {s : State} (keys : s.keyLaw = true) (p : Pair) :
    (s.loseOutstanding p).table = s.table.each fun x => { x with
      parts := x.parts.map fun y => if y.pair = p then s.partLost p x y else y } := by
  unfold State.loseOutstanding State.partLost
  cases (s.tc p).outstanding with
  | none => exact (StationTable.each_id fun r _ => by simp).symm
  | some o =>
    refine (markUncertain_each keys _ p _).trans (StationTable.each_congr fun r _ => ?_)
    dsimp only
    unfold Station.partWritten
    by_cases number : r.number = o.telegram.dest
    · simp [number]
    · simp [number, Ne.symm number]

/-- A pair part after the pair's telegrams are abandoned (R96). -/
def State.partAbandoned (s : State) (p : Pair) (x : Station) (y : PairPart) : PairPart :=
  if ∃ t ∈ s.abandonedWork p, t.dest = x.number then (s.partLost p x y).ended .abandoned else s.partLost p x y

theorem partLost_pair (s : State) (p : Pair) (x : Station) (y : PairPart) : (s.partLost p x y).pair = y.pair := by
  unfold State.partLost
  split
  · split <;> rfl
  · rfl

theorem abandonTelegrams_each {s : State} (keys : s.keyLaw = true) (p : Pair) (keep : Bool) :
    (s.abandonTelegrams p keep).table = s.table.each fun x => { x with
      parts := x.parts.map fun y => if y.pair = p then s.partAbandoned p x y else y } := by
  have filtered : (s.abandonedWork p).filter (((s.loseOutstanding p).setTc p
      ((s.tc p).emptied ((s.tc p).kept keep))).operatorCurrent p) = s.abandonedWork p := by
    refine List.filter_eq_self.mpr fun t ht => ?_
    change (s.loseOutstanding p).operatorCurrent p t = true
    rw [loseOutstanding_current]
    exact (List.mem_filter.mp ht).2
  have table : (s.abandonTelegrams p keep).table = (s.abandoned p keep).table := by
    rw [abandonTelegrams_eq]
    split <;> rfl
  rw [table, State.abandoned, State.abandonOutcomes, filtered, writeOperators_each]
  change (s.loseOutstanding p).table.each _ = _
  rw [loseOutstanding_each keys, StationTable.each_each]
  refine StationTable.each_congr fun x _ => ?_
  rw [Function.comp_apply]
  unfold Station.partsWritten State.partAbandoned
  dsimp only
  by_cases hit : ∃ t ∈ s.abandonedWork p, t.dest = x.number
  · rw [if_pos hit, List.map_map]
    refine congrArg (fun l => { x with parts := l }) (List.map_congr_left fun y _ => ?_)
    by_cases pair : y.pair = p
    · rw [Function.comp_apply, if_pos pair, if_pos ((partLost_pair s p x y).trans pair), if_pos pair, if_pos hit]
    · rw [Function.comp_apply, if_neg pair, if_neg pair, if_neg pair]
  · simp only [if_neg hit]

theorem loses_iff {s : State} {p : Pair} {o : Outstanding} (out : (s.tc p).outstanding = some o) (n : Nat)
    (k : TelegramKind) : s.loses p n k ↔ o.telegram.dest = n ∧ o.telegram.kind = k := by
  unfold State.loses
  rw [out]
  simp

theorem not_loses {s : State} {p : Pair} (idle : (s.tc p).outstanding = none) (n : Nat) (k : TelegramKind) :
    ¬s.loses p n k := by
  rintro ⟨o, out, -⟩
  rw [idle] at out
  cases out

/-- What the loss of the outstanding telegram makes of the isolation and the connection. -/
theorem partLost_fields (s : State) (p : Pair) (x : Station) (y : PairPart) :
    (s.partLost p x y) = { y with
      isolation := (s.partLost p x y).isolation, connection := (s.partLost p x y).connection } ∧
    (x.kind = .repeater ∧ (s.loses p x.number .isolateSpare ∨ s.loses p x.number .isolateLimit ∨ s.loses p x.number .restore) →
      (s.partLost p x y).isolation = .uncertain) ∧
    (¬(x.kind = .repeater ∧ (s.loses p x.number .isolateSpare ∨ s.loses p x.number .isolateLimit ∨ s.loses p x.number .restore)) →
      (s.partLost p x y).isolation = y.isolation) ∧
    (x.kind ≠ .repeater ∧ (s.loses p x.number .cut ∨ s.loses p x.number .reconnect) →
      (s.partLost p x y).connection = some .uncertain) ∧
    (¬(x.kind ≠ .repeater ∧ (s.loses p x.number .cut ∨ s.loses p x.number .reconnect)) →
      (s.partLost p x y).connection = y.connection) := by
  unfold State.partLost
  cases out : (s.tc p).outstanding with
  | none =>
    have none := not_loses out x.number
    exact ⟨rfl, fun ⟨_, lost⟩ => by simp [none] at lost, fun _ => rfl, fun ⟨_, lost⟩ => by simp [none] at lost, fun _ => rfl⟩
  | some o =>
    simp only [loses_iff out]
    by_cases dest : o.telegram.dest = x.number
    · simp only [dest, if_true, true_and, PairPart.doubted]
      exact ⟨fun hit => if_pos hit, fun miss => if_neg miss, fun hit => if_pos hit, fun miss => if_neg miss⟩
    · simp [dest]

theorem abandoned_port (s : State) (p : Pair) (keep : Bool) : (s.abandoned p keep).port = s.port := by
  have lost : (s.loseOutstanding p).port = s.port := by
    unfold State.loseOutstanding
    split
    · exact (only_markUncertain s _ p _).port_eq
    · rfl
  exact (only_abandonOutcomes _ p _).port_eq.trans lost

/-- The pair parts and attention after an abandonment are what leaving DRIVING makes of them. -/
theorem recordsAbandoned_abandonTelegrams {s : State} (keys : s.keyLaw = true) (parts : s.partsLaw = true) (p : Pair)
    (keep : Bool) : RecordsAbandoned s (s.abandonTelegrams p keep) p := by
  have table := abandonTelegrams_each keys p keep
  have attention : (s.abandonTelegrams p keep).port.attention.operatorDone =
      (!(s.abandonedWork p).isEmpty || s.port.attention.operatorDone) := by
    rw [abandonTelegrams_eq]
    cases (s.abandonedWork p).isEmpty with
    | true =>
      rw [if_pos rfl, abandoned_port]
      rfl
    | false => rfl
  refine ⟨by rw [table]; rfl, by rw [table]; rfl, ?stations, ?hit, ?miss⟩
  case stations =>
    rw [table, StationTable.each, List.forall₂_map_right_iff, List.forall₂_same]
    refine fun x hx => ⟨rfl, ?_⟩
    rw [List.forall₂_map_right_iff, List.forall₂_same]
    refine fun y hy => ⟨fun pair => ?_, fun other => if_neg other⟩
    rw [if_pos pair]
    obtain ⟨fields, isolated, isolation, connected, connection⟩ := partLost_fields s p x y
    have operator : (s.partLost p x y).operator = y.operator := by rw [fields]
    unfold State.partAbandoned
    by_cases hit : ∃ t ∈ s.abandonedWork p, t.dest = x.number
    · rw [if_pos hit]
      refine ⟨?_, ⟨isolated, isolation⟩, ⟨connected, connection⟩, fun _ => ?_, fun miss => ?_⟩
      · rw [PairPart.ended, fields]
      · exact congrArg (Option.map _) operator
      · exact absurd ((abandonsAction_iff keys parts hx hy pair).mpr hit) miss
    · rw [if_neg hit]
      refine ⟨?_, ⟨isolated, isolation⟩, ⟨connected, connection⟩, fun acts => ?_, fun _ => operator⟩
      · rw [fields]
      · exact absurd ((abandonsAction_iff keys parts hx hy pair).mp acts) hit
  case hit =>
    rintro ⟨x, hx, y, hy, pair, acts⟩
    obtain ⟨t, ht, -⟩ := (abandonsAction_iff keys parts hx hy pair).mp acts
    rw [attention]
    cases work : s.abandonedWork p with
    | nil => simp [work] at ht
    | cons => rfl
  case miss =>
    intro miss
    have empty : s.abandonedWork p = [] := List.eq_nil_iff_forall_not_mem.mpr fun t ht => by
      obtain ⟨borne, q, found, submitter⟩ := mem_abandonedWork.mp ht
      obtain ⟨x, station, part⟩ := part?_found found
      obtain ⟨hx, number⟩ := station?_some station
      obtain ⟨hy, pair⟩ := Station.part?_some part
      exact miss ⟨x, hx, q, hy, pair, t, borne, number.symm, submitter⟩
    rw [attention, empty]
    rfl

/-- What makes records abandoned reads the table, the pair's controller and OPERATOR_DONE alone. -/
theorem RecordsAbandoned.congr {s t u v : State} {p : Pair} (h : RecordsAbandoned u v p) (table : u.table = s.table)
    (tc : u.tc p = s.tc p) (done : u.port.attention.operatorDone = s.port.attention.operatorDone)
    (after : t.table = v.table) (raised : t.port.attention.operatorDone = v.port.attention.operatorDone) :
    RecordsAbandoned s t p := by
  have loses : u.loses p = s.loses p := by
    unfold State.loses
    rw [tc]
  have acts : u.abandonsAction p = s.abandonsAction p := by
    unfold State.abandonsAction
    rw [tc]
  unfold RecordsAbandoned abandonedIn at h ⊢
  rwa [table, loses, acts, done, ← after, ← raised] at h

end Sys2Proof.Machine
end

section
/-! PROOFS. The cases of a pair that leaves DRIVING, and what every block leaves of the pair: O28. -/

namespace Sys2Proof.Machine

/-! ### The cases and contexts -/

/-- A case of a pair that leaves DRIVING (R142). -/
def Case.interrupted (c : Case) : Case := if c.inService then { c with state := .held .interrupted } else c

theorem Case.interrupted_idle (c : Case) : c.interrupted.inService = false := by
  unfold Case.interrupted
  split
  · rfl
  next idle => simpa using idle

/-- The state right after a pair's cases in service have ended (R142). -/
structure Interrupted (s t : State) (p : Pair) : Prop where
  ordered : t.Ordered
  cases : ∀ c ∈ s.arbiter.cases, c.pair = p → c.interrupted ∈ t.arbiter.cases
  closed : ∀ c ∈ s.arbiter.cases, c.pair = p → c.inService = true → t.closed c.level
  stack : t.arbiter.stack = s.arbiter.stack.filter fun k => !(s.arbiter.cases.any fun c => c.number == k && c.pair == p)
  held : (∃ c ∈ s.arbiter.cases, c.pair = p ∧ c.inService = true) → t.port.attention.caseHeld = true

theorem State.Attended.inService_iff {s : State} {l : List Case} (h : s.Attended l) {c : Case}
    (hc : c ∈ s.arbiter.cases) : c.inService = true ↔ c ∈ l := ⟨h.listed.complete c hc, h.served.inService c⟩

/-- The numbers of the stack that are of the pair are those of its cases in service. -/
theorem State.Attended.struck_stack {s : State} {l : List Case} (h : s.Attended l) (p : Pair) :
    s.arbiter.stack.filter (fun k => !(s.struckNumbers p).contains k) =
      s.arbiter.stack.filter fun k => !(s.arbiter.cases.any fun c => c.number == k && c.pair == p) := by
  refine List.filter_congr fun k on => congrArg not (Bool.eq_iff_iff.mpr ?_)
  rw [h.listed.stack] at on
  obtain ⟨c, hl, rfl⟩ := List.mem_map.mp on
  have hc := h.listed.mem c hl
  rw [h.struckNumbers_iff hc, List.any_eq_true]
  constructor
  · exact fun hit => ⟨c, hc, by simp [hit.1]⟩
  · rintro ⟨d, hd, same⟩
    simp only [Bool.and_eq_true, beq_iff_eq] at same
    rw [h.lawful.eq_of_number hd hc same.1] at same
    exact ⟨same.2, hl⟩

theorem struck_cases (s : State) (p : Pair) : (s.struck p).arbiter.cases = s.arbiter.cases.map fun c =>
    if (s.struckNumbers p).contains c.number then { c with state := .held .interrupted } else c := rfl

theorem struck_context (s : State) (p : Pair) (l : Level) : (s.struck p).context l =
    if ((s.arbiter.cases.filter (s.interrupts p)).map (·.level)).contains l then none else s.context l :=
  Oct.get_make _ l

theorem State.Attended.eq_of_level {s : State} {l : List Case} (h : s.Attended l) {c d : Case} (hc : c ∈ l) (hd : d ∈ l)
    (level : c.level = d.level) : c = d := by
  have apart : (l.map (·.level)).Nodup := List.pairwise_map.mpr (h.listed.levels.imp fun lt => Fin.ne_of_lt lt)
  exact List.inj_on_of_nodup_map apart hc hd level

/-- The level of an ended case is closed. -/
theorem closed_struck {s : State} {l : List Case} (h : s.Attended l) {p : Pair} {c : Case} (hc : c ∈ s.arbiter.cases)
    (pair : c.pair = p) (serves : c.inService = true) : (s.struck p).closed c.level := by
  have hl := (h.inService_iff hc).mp serves
  obtain ⟨lawful, listed⟩ := listed_struck h p
  constructor
  · rw [struck_context, if_pos]
    rw [List.contains_iff_mem]
    exact List.mem_map_of_mem (List.mem_filter.mpr ⟨hc, (h.interrupts_iff hc).mpr ⟨pair, hl⟩⟩)
  · intro d hd on same
    rw [listed.stack] at on
    obtain ⟨e, he, number⟩ := List.mem_map.mp on
    obtain rfl := lawful.eq_of_number (listed.mem e he) hd number
    obtain ⟨hel, other⟩ := List.mem_filter.mp he
    rw [h.eq_of_level hel hl same, pair] at other
    simp at other

theorem interrupted_interruptCases {s : State} (ordered : s.Ordered) (p : Pair) : Interrupted s (s.interruptCases p) p := by
  obtain ⟨l, h⟩ := ordered
  obtain ⟨m, after, -⟩ := attended_interruptCases h p
  have stack := h.struck_stack p
  have eq := interruptCases_eq s p
  split at eq
  next none =>
    rw [List.isEmpty_iff, List.filter_eq_nil_iff] at none
    have idle {c : Case} (hc : c ∈ s.arbiter.cases) (pair : c.pair = p) : c.inService = false := by
      by_contra serves
      rw [Bool.not_eq_false, h.inService_iff hc] at serves
      exact none c hc ((h.interrupts_iff hc).mpr ⟨pair, serves⟩)
    have numbers : s.struckNumbers p = [] := by
      rw [State.struckNumbers, List.filter_eq_nil_iff.mpr none]
      rfl
    have absurd {c : Case} (hc : c ∈ s.arbiter.cases) (pair : c.pair = p) (serves : c.inService = true) : False := by
      rw [idle hc pair] at serves
      cases serves
    rw [numbers] at stack
    rw [eq] at after ⊢
    refine ⟨⟨m, after⟩, fun c hc pair => ?_, fun c hc pair serves => (absurd hc pair serves).elim, ?_,
      fun ⟨c, hc, pair, serves⟩ => (absurd hc pair serves).elim⟩
    · rwa [Case.interrupted, idle hc pair]
    · rw [← stack]
      simp
  next =>
    obtain ⟨lawful, listed⟩ := listed_struck h p
    have only := only_activateTop (s.struck p)
    rw [eq] at after ⊢
    refine ⟨⟨m, after⟩, fun c hc pair => ?_, fun c hc pair serves => ?_, ?_, fun _ => ?_⟩
    · have struck : c.interrupted ∈ (s.struck p).arbiter.cases := by
        rw [struck_cases]
        refine List.mem_map.mpr ⟨c, hc, ?_⟩
        unfold Case.interrupted
        refine if_congr ?_ rfl rfl
        rw [h.struckNumbers_iff hc, h.inService_iff hc]
        exact and_iff_right pair
      refine idle_activateTop lawful listed struck fun member => ?_
      have other := (List.mem_filter.mp member).2
      have same : c.interrupted.pair = c.pair := by
        unfold Case.interrupted
        split <;> rfl
      rw [same, pair] at other
      simp at other
    · have closed := closed_struck h hc pair serves
      refine closed_of_cases closed ?_ (casesKept_activateTop _) ?_
      · rw [context_of_eq only.contexts_eq]
        exact closed.1
      · rw [activateTop_stack]
    · rw [activateTop_stack, ← stack]
      rfl
    · rw [only.port_eq]
      rfl

theorem interrupt_steps (s : State) (p : Pair) : WorkSteps (s.interruptCases p) (s.interrupt p) := by
  unfold State.interrupt
  dsimp only
  split
  · exact .refl
  · exact (workSteps_resume _).trans (workSteps_conclude _)

/-- The case on top of a stack in order is ACTIVE. -/
theorem State.Ordered.top_active {s : State} (h : s.Ordered) {k : Nat} (top : s.arbiter.stack.head? = some k) :
    ∃ c ∈ s.arbiter.cases, c.number = k ∧ c.state = .active := by
  obtain ⟨l, attended⟩ := h
  rw [attended.listed.stack] at top
  cases l with
  | nil => cases top
  | cons c rest => exact ⟨c, attended.listed.mem c List.mem_cons_self, Option.some.inj top, attended.served.1⟩

/-- The work after the interruption leaves the interrupted cases as they are (R142, R171). -/
theorem Interrupted.service {s t u : State} {p : Pair} (h : Interrupted s t p) (work : WorkSteps t u) :
    ServiceInterrupted s u p := by
  obtain ⟨ordered, stand⟩ := work.idleCasesKept h.ordered
  have stands {c : Case} (hc : c ∈ s.arbiter.cases) (pair : c.pair = p) : c.interrupted ∈ u.arbiter.cases :=
    stand _ (h.cases c hc pair) c.interrupted_idle
  refine ⟨fun c hc pair => stands hc pair, fun c hc pair serves => ⟨?_, (work.closed (h.closed c hc pair serves)).1⟩,
    h.stack ▸ work.stack, fun k top => ordered.top_active top, fun served => work.attention.caseHeld (h.held served)⟩
  have off := ordered.notOnStack (stands hc pair) c.interrupted_idle
  rwa [Case.interrupted, if_pos serves] at off

theorem serviceInterrupted_interrupt {s : State} (ordered : s.Ordered) (p : Pair) :
    ServiceInterrupted s (s.interrupt p) p := (interrupted_interruptCases ordered p).service (interrupt_steps s p)

theorem ServiceInterrupted.congr {s t u v : State} {p : Pair} (h : ServiceInterrupted u v p)
    (before : u.arbiter = s.arbiter) (arbiter : t.arbiter = v.arbiter) (contexts : t.contexts = v.contexts)
    (port : t.port = v.port) : ServiceInterrupted s t p := by
  have context (l : Level) : t.context l = v.context l := context_of_eq contexts l
  unfold ServiceInterrupted interruptedIn at h ⊢
  simpa only [before, arbiter, context, port] using h

/-! ### The controllers -/

/-- The controller as the survey halts, with the units that a STEER was in flight to (R46). -/
def SurveyController.halt (c : SurveyController) (lost : List Nat) : SurveyController :=
  { c with
    state := .halted, roundView := none, roundKind := none, focused := none, planStale := false,
    steering := c.steering.map fun e => if lost.contains e.1 then (e.1, Steering.unknown) else e }

theorem haltSurvey_eq (s : State) (p : Pair) :
    s.haltSurvey p = s.setSc p ((s.sc p).halt ((s.steersInFlight p).map (·.dest))) := rfl

/-- What every block leaves of the pair. -/
theorem retired_leaveDriving {s : State} {p : Pair} (left : (s.sc p).role ≠ .driving) (keep : Bool) :
    (s.leaveDriving p keep).Retired p ((s.sc p).halt ((s.steersInFlight p).map (·.dest)))
      ((s.tc p).emptied ((s.tc p).kept keep)) := by
  have halted : ((s.haltSurvey p).setPool ((s.haltSurvey p).pool.abort p)).Retired p
      ((s.sc p).halt ((s.steersInFlight p).map (·.dest))) (s.tc p) :=
    ⟨State.sc_setSc_self s p _, rfl, left, rfl, CorrelatorPool.without_abort _ p⟩
  have aborted : ((s.haltSurvey p).abortRounds p).Retired p ((s.sc p).halt ((s.steersInFlight p).map (·.dest))) (s.tc p) :=
    (planSteps_grantAll _).work.retired halted
  have only := only_abandonTelegrams ((s.haltSurvey p).abortRounds p) p keep
  have emptied : (((s.haltSurvey p).abortRounds p).abandonTelegrams p keep).Retired p
      ((s.sc p).halt ((s.steersInFlight p).map (·.dest))) ((s.tc p).emptied ((s.tc p).kept keep)) := by
    refine ⟨(sc_of_survey only.survey_eq p).trans aborted.sc, ?_, aborted.notDriving, aborted.quiet,
      only.pool_eq ▸ aborted.pool⟩
    rw [State.tc, abandonTelegrams_telegrams, Oct.get_set_self, aborted.tc]
  have cases := only_interruptCases (((s.haltSurvey p).abortRounds p).abandonTelegrams p keep) p
  exact (interrupt_steps _ p).retired (emptied.of_eq cases.survey_eq cases.telegrams_eq cases.pool_eq)

end Sys2Proof.Machine
end

section
/-! PROOFS. A pair that leaves DRIVING by ROLE or by contention: O28. -/

namespace Sys2Proof.Machine

/-! ### Every block -/

theorem mayHold_interruptCases (s : State) (p : Pair) : MayHold s (s.interruptCases p) := by
  rw [interruptCases_eq]
  split
  · exact .inl rfl
  · exact .inr (only_activateTop (s.struck p)).port_eq

theorem contains_map_dest (l : List Telegram) (n : Nat) : (l.map (·.dest)).contains n = l.any (·.dest == n) := by
  rw [List.contains_eq_any_beq, List.any_map]
  exact congrArg l.any (funext fun t => BEq.comm)

theorem TelegramController.kept_eq (c : TelegramController) (keep : Bool) : c.kept keep =
    if keep then c.outstanding.map fun o => { address := o.address, tag := o.tag, kind := o.telegram.kind } else none := by
  unfold TelegramController.kept
  cases keep <;> cases c.outstanding <;> rfl

/-- The state in which the pair's cases are then interrupted. -/
def State.workEnded (s : State) (p : Pair) (keep : Bool) : State :=
  ((s.haltSurvey p).abortRounds p).abandonTelegrams p keep

theorem workEnded_only (s : State) (p : Pair) (keep : Bool) :
    Only [.pool, .survey, .contexts, .telegrams, .table, .port] s (s.workEnded p keep) :=
  ((only_haltSurvey s p).up.trans (only_abortRounds _ p).up).trans (only_abandonTelegrams _ p keep).up

theorem leaveDriving_steps (s : State) (p : Pair) (keep : Bool) :
    WorkSteps ((s.workEnded p keep).interruptCases p) (s.leaveDriving p keep) := interrupt_steps _ p

theorem leaveDriving_mayHold (s : State) (p : Pair) (keep : Bool) :
    MayHold (s.workEnded p keep) (s.leaveDriving p keep) :=
  (mayHold_interruptCases _ p).trans (leaveDriving_steps s p keep).mayHold

theorem leaveDriving_table (s : State) (p : Pair) (keep : Bool) :
    (s.leaveDriving p keep).table = (s.workEnded p keep).table :=
  (leaveDriving_steps s p keep).only.table_eq.trans (only_interruptCases _ p).table_eq

theorem recordsAbandoned_leaveDriving {s : State} (keys : s.keyLaw = true) (parts : s.partsLaw = true) (p : Pair)
    (keep : Bool) : RecordsAbandoned s (s.leaveDriving p keep) p := by
  have only := only_abortRounds (s.haltSurvey p) p
  have table : ((s.haltSurvey p).abortRounds p).table = s.table := only.table_eq
  have records := recordsAbandoned_abandonTelegrams (s := (s.haltSurvey p).abortRounds p)
    (by rwa [State.keyLaw, table]) (by rwa [State.partsLaw, table]) p keep
  refine records.congr table (tc_of_telegrams only.telegrams_eq p) ?_ (leaveDriving_table s p keep)
    (leaveDriving_mayHold s p keep).operatorDone
  rw [only.port_eq]
  rfl

/-- What the end of every block's work leaves, the role of the pair being the new one (R117). -/
theorem leftDriving_leaveDriving {s : State} {p : Pair} (left : (s.sc p).role ≠ .driving) (ordered : s.Ordered)
    (keep : Bool) : LeftDriving s (s.leaveDriving p keep) p keep := by
  have retired := retired_leaveDriving left keep
  have ended := workEnded_only s p keep
  have cases := only_interruptCases (s.workEnded p keep) p
  have ordered' : (s.workEnded p keep).Ordered := by
    obtain ⟨l, attended⟩ := ordered
    exact ⟨l, attended.of_eq (congrArg CaseArbiter.cases ended.arbiter_eq) (congrArg CaseArbiter.stack ended.arbiter_eq)⟩
  unfold LeftDriving
  rw [retired.sc, retired.tc]
  refine ⟨rfl, free_iff.mpr retired.pool, rfl, rfl, ?steering, rfl, TelegramController.kept_eq _ _,
    fun keys parts => recordsAbandoned_leaveDriving keys parts p keep,
    (serviceInterrupted_interrupt ordered' p).congr ended.arbiter_eq rfl rfl rfl, fun c hc => ?claims⟩
  case steering =>
    unfold SurveyController.halt
    simp only [contains_map_dest]
  case claims =>
    refine (leaveDriving_steps s p keep).claimsGrow.1 c ?_
    rwa [cases.claims_eq, ended.claims_eq]

/-! ### Before and after -/

theorem keyLaw_of_table {s t : State} (table : t.table = s.table) : t.keyLaw = s.keyLaw := by
  rw [State.keyLaw, State.keyLaw, table]

theorem partsLaw_of_table {s t : State} (table : t.table = s.table) : t.partsLaw = s.partsLaw := by
  rw [State.partsLaw, State.partsLaw, table]

/-- The role and the flags of the pair, and attention, are written before the blocks end their work. -/
theorem LeftDriving.before {s t : State} {p : Pair} {keep : Bool} {c : SurveyController} {v : RequestPort}
    (h : LeftDriving ((s.setSc p c).setPort v) t p keep) (steering : c.steering = (s.sc p).steering)
    (counter : c.roundCounter = (s.sc p).roundCounter)
    (done : v.attention.operatorDone = s.port.attention.operatorDone) : LeftDriving s t p keep := by
  have sc : ((s.setSc p c).setPort v).sc p = c := State.sc_setSc_self s p c
  unfold LeftDriving at h
  rw [sc] at h
  obtain ⟨quiet, free, idle, rounds, steered, tag, kept, records, service, claims⟩ := h
  exact ⟨quiet, free, idle, rounds.trans counter, steering ▸ steered, tag, kept,
    fun keys parts => (records keys parts).congr rfl rfl done rfl rfl, service.congr rfl rfl rfl rfl, claims⟩

/-- The overheard telegrams are written, and the event closes, after the blocks have ended their work. -/
theorem LeftDriving.after {s t u : State} {p : Pair} {keep : Bool} {c : SurveyController} {d : TelegramController}
    (h : LeftDriving s t p keep) (before : t.Retired p c d) {l : List Overheard}
    (after : u.Retired p c { d with overheard := l }) (only : Only [.telegrams, .sweeper] t u) :
    LeftDriving s u p keep := by
  obtain ⟨-, -, idle, rounds, steered, tag, kept, records, service, claims⟩ := h
  rw [before.sc] at rounds steered
  rw [before.tc] at idle tag kept
  unfold LeftDriving
  rw [after.sc, after.tc]
  exact ⟨after.quiet, free_iff.mpr after.pool, idle, rounds, steered, tag, kept,
    fun keys parts => (records keys parts).congr rfl rfl rfl only.table_eq (by rw [only.port_eq]),
    service.congr rfl only.arbiter_eq only.contexts_eq only.port_eq, only.claims_eq ▸ claims⟩

/-! ### ROLE -/

theorem role_from_driving {s : State} {p : Pair} (driving : (s.sc p).role = .driving) {r : Role} (other : r ≠ .driving) :
    s.role p r = ((s.setRole p r).leaveDriving p (r == .listening)).settle := by
  rw [State.role_other (by rw [driving]; exact other.symm)]
  unfold State.changeRole
  rw [driving]
  cases r with
  | driving => exact absurd rfl other
  | off => rfl
  | listening => rfl

theorem ordered_written {s : State} (ordered : s.Ordered) (p : Pair) (c : SurveyController) (v : RequestPort) :
    ((s.setSc p c).setPort v).Ordered := by
  obtain ⟨l, attended⟩ := ordered
  exact ⟨l, attended.of_eq rfl rfl⟩

theorem setRole_written (s : State) (p : Pair) (r : Role) :
    s.setRole p r = (s.setSc p { s.sc p with role := r }).setPort s.port := rfl

theorem contend_written (s : State) (p : Pair) : s.contend p =
    ((s.setSc p { s.sc p with role := .listening, contention := true, statusRead := false }).setPort
      (s.raise .contention).port).leaveDriving p true := by
  have flagged : (s.setRole p .listening).flagContention p =
      s.setSc p { s.sc p with role := .listening, contention := true, statusRead := false } := by
    rw [State.flagContention, State.setRole, State.sc_setSc_self]
    exact State.setSc_setSc s p _ _
  rw [State.contend, flagged]
  rfl

/-- What leaving DRIVING makes of the pair, its new controller and attention being written first. -/
theorem leftDriving_written {s : State} {p : Pair} {c : SurveyController} {v : RequestPort} (ordered : s.Ordered)
    (left : c.role ≠ .driving) (steering : c.steering = (s.sc p).steering) (counter : c.roundCounter = (s.sc p).roundCounter)
    (done : v.attention.operatorDone = s.port.attention.operatorDone) (keep : Bool) :
    LeftDriving s (((s.setSc p c).setPort v).leaveDriving p keep) p keep ∧
    ∃ lost, (((s.setSc p c).setPort v).leaveDriving p keep).Retired p (c.halt lost)
      ((s.tc p).emptied ((s.tc p).kept keep)) := by
  have sc : ((s.setSc p c).setPort v).sc p = c := State.sc_setSc_self s p c
  have left' : (((s.setSc p c).setPort v).sc p).role ≠ .driving := by rwa [sc]
  have retired := retired_leaveDriving left' keep
  rw [sc] at retired
  exact ⟨(leftDriving_leaveDriving left' (ordered_written ordered p c v) keep).before steering counter done, _, retired⟩

/-- ROLE out of DRIVING. -/
theorem leftDriving_role {s : State} {p : Pair} (ordered : s.Ordered) (driving : (s.sc p).role = .driving) {r : Role}
    (other : r ≠ .driving) : LeftDriving s (s.role p r) p (r == .listening) ∧
    ∃ lost, (s.role p r).Retired p (({ s.sc p with role := r } : SurveyController).halt lost)
      ((s.tc p).emptied ((s.tc p).kept (r == .listening))) := by
  obtain ⟨leaves, lost, retired⟩ := leftDriving_written (c := { s.sc p with role := r }) (v := s.port) ordered other rfl rfl
    rfl (r == .listening)
  rw [role_from_driving driving other, setRole_written]
  have settled := retired.settle rfl
  exact ⟨leaves.after retired settled (only_settle _), lost, settled⟩

/-! ### Contention -/

/-- The numbers and the addresses of the stations. -/
def State.keys (s : State) : List (Nat × Nat) := s.table.stations.map fun r => (r.number, r.address)

theorem updatePart_keys (s : State) (n : Nat) (p : Pair) (f : PairPart → PairPart) : (s.updatePart n p f).keys = s.keys := by
  rw [State.keys, updatePart_stations, List.map_map]
  refine List.map_congr_left fun r _ => ?_
  rw [Function.comp_apply]
  split <;> rfl

theorem markUncertain_keys (s : State) (n : Nat) (p : Pair) (k : TelegramKind) : (s.markUncertain n p k).keys = s.keys := by
  unfold State.markUncertain
  split
  · rfl
  · split
    · exact updatePart_keys s n p _
    · exact updatePart_keys s n p _
    · exact updatePart_keys s n p _
    · exact updatePart_keys s n p fun q => { q with connection := some .uncertain }
    · exact updatePart_keys s n p fun q => { q with connection := some .uncertain }
    · rfl

theorem writeOperators_keys (p : Pair) (o : OperatorOutcome) (l : List Telegram) (s : State) :
    (l.foldl (fun s t => s.writeOperator p t o) s).keys = s.keys := by
  induction l generalizing s with
  | nil => rfl
  | cons t l ih => exact (ih _).trans (updatePart_keys s t.dest p _)

theorem keys_of_table {s t : State} (table : t.table = s.table) : t.keys = s.keys := by rw [State.keys, table, State.keys]

theorem abandonTelegrams_keys (s : State) (p : Pair) (keep : Bool) : (s.abandonTelegrams p keep).keys = s.keys := by
  have lost : (s.loseOutstanding p).keys = s.keys := by
    unfold State.loseOutstanding
    split
    · exact markUncertain_keys s _ p _
    · rfl
  have abandoned : (s.abandoned p keep).keys = s.keys := (writeOperators_keys p .abandoned _ _).trans lost
  rw [abandonTelegrams_eq]
  split
  · exact abandoned
  · exact abandoned

theorem leaveDriving_keys (s : State) (p : Pair) (keep : Bool) : (s.leaveDriving p keep).keys = s.keys := by
  rw [keys_of_table (leaveDriving_table s p keep), State.workEnded, abandonTelegrams_keys]
  exact keys_of_table (only_abortRounds (s.haltSurvey p) p).table_eq

theorem contend_keys (s : State) (p : Pair) : (s.contend p).keys = s.keys := by
  rw [contend_written, leaveDriving_keys]
  exact keys_of_table rfl

theorem byAddress?_keys (s : State) (a : Nat) : (s.byAddress? a).map (·.number) = (s.keys.find? (·.2 == a)).map (·.1) := by
  rw [State.keys, List.find?_map, Option.map_map]
  rfl

/-- A far-end telegram to an address of no station is dropped. -/
theorem overhear_absent {s t : State} (keys : t.keys = s.keys) {a : Nat} (unknown : ∀ r ∈ s.table.stations, r.address ≠ a)
    (p : Pair) (g : Nat) (k : TelegramKind) : t.overhear p a g k = t := by
  have none := byAddress?_keys t a
  rw [keys, ← byAddress?_keys, byAddress?_none.mpr unknown, Option.map_none, Option.map_eq_none_iff] at none
  unfold State.overhear
  rw [none]

/-- A far-end telegram to a station becomes its overheard telegram. -/
theorem overhear_present {s t : State} (keys : t.keys = s.keys) (law : s.keyLaw = true) {r : Station}
    (member : r ∈ s.table.stations) (p : Pair) (g : Nat) (k : TelegramKind) :
    t.overhear p r.address g k = t.setTc p { t.tc p with
      overheard := recordOverheard { station := r.number, kind := k, tag := g } (t.tc p).overheard } := by
  have some := byAddress?_keys t r.address
  rw [keys, ← byAddress?_keys, byAddress?_of_mem law member, Option.map_some, Option.map_eq_some_iff] at some
  obtain ⟨q, found, number⟩ := some
  unfold State.overhear
  rw [found, ← number]

/-- A telegram decoded writes the overheard telegrams alone. -/
theorem decode_tc (s : State) (p : Pair) (sig : FarSignal) :
    (s.decode p sig).tc p = { s.tc p with overheard := ((s.decode p sig).tc p).overheard } := by
  unfold State.decode
  split
  · rfl
  · unfold State.overhear
    split
    · rfl
    · rw [State.tc_setTc_self]

theorem retired_decode {s : State} {p : Pair} {c : SurveyController} {d : TelegramController} (h : s.Retired p c d)
    (sig : FarSignal) : (s.decode p sig).Retired p c { d with overheard := ((s.decode p sig).tc p).overheard } := by
  have only := only_decode s p sig
  refine ⟨(sc_of_survey only.survey_eq p).trans h.sc, ?_, h.notDriving, h.quiet, only.pool_eq ▸ h.pool⟩
  rw [← h.tc]
  exact decode_tc s p sig

theorem farEndDrive_driving {s : State} {p : Pair} {sig : FarSignal} (equipped : s.equipped p = true)
    (driving : (s.sc p).role = .driving) (far : s.fromFarEnd sig = true) :
    s.farEndDrive p sig = ((s.contend p).decode p sig).settle := by
  unfold State.farEndDrive
  rw [if_pos (by rw [equipped, far]; rfl), driving]

/-- What contention makes of the pair, whatever far-end drive it was. -/
structure Contended (s : State) (p : Pair) (sig : FarSignal) (t : State) : Prop where
  leaves : LeftDriving s t p true
  controller : ∃ lost, t.sc p =
    ({ s.sc p with role := .listening, contention := true, statusRead := false } : SurveyController).halt lost
  before : ((s.contend p).tc p).overheard = (s.tc p).overheard
  overheard : (t.tc p).overheard = (((s.contend p).decode p sig).tc p).overheard
  raised : t.port.attention.contention = true
  state : t.port.state = s.port.state

theorem contend_port (s : State) (p : Pair) : (s.contend p).port.attention.contention = true ∧
    (s.contend p).port.state = s.port.state := by
  rw [contend_written]
  generalize written : (s.setSc p { s.sc p with role := .listening, contention := true, statusRead := false }).setPort
    (s.raise .contention).port = u
  have port : u.port = (s.raise .contention).port := by rw [← written]; rfl
  have held := leaveDriving_mayHold u p true
  have ended : (u.workEnded p true).port.attention.contention = u.port.attention.contention ∧
      (u.workEnded p true).port.state = u.port.state := by
    have aborted : ((u.haltSurvey p).abortRounds p).port = u.port := (only_abortRounds _ p).port_eq
    have abandoned := (abandoned_port ((u.haltSurvey p).abortRounds p) p true).trans aborted
    rw [State.workEnded, abandonTelegrams_eq]
    split
    · rw [abandoned]
      exact ⟨rfl, rfl⟩
    · rw [State.raise, State.setPort_port, abandoned]
      exact ⟨rfl, rfl⟩
  rw [held.contention, held.state, ended.1, ended.2, port]
  exact ⟨rfl, rfl⟩

theorem contended_farEndDrive {s : State} {p : Pair} {sig : FarSignal} (ordered : s.Ordered) (equipped : s.equipped p = true)
    (driving : (s.sc p).role = .driving) (far : s.fromFarEnd sig = true) : Contended s p sig (s.farEndDrive p sig) := by
  obtain ⟨leaves, lost, retired⟩ := leftDriving_written
    (c := { s.sc p with role := .listening, contention := true, statusRead := false }) (v := (s.raise .contention).port)
    ordered (by nofun) rfl rfl rfl true
  obtain ⟨raised, state⟩ := contend_port s p
  rw [← contend_written] at leaves retired
  rw [farEndDrive_driving equipped driving far]
  have settled := (retired_decode retired sig).settle rfl
  have only : Only [.telegrams, .sweeper] (s.contend p) ((s.contend p).decode p sig).settle :=
    (only_decode _ p sig).up.trans (only_settle _)
  refine ⟨leaves.after retired settled only, ⟨lost, settled.sc⟩, ?_, ?_, ?_, ?_⟩
  · rw [retired.tc]
    rfl
  · rw [settled.tc]
  · rw [only.port_eq, raised]
  · rw [only.port_eq, state]

/-- Settles O28: the blocks end their work in the new role, and nothing that follows touches the pair again. -/
theorem leavingDrivingEndsEveryWork : Obligations.LeavingDrivingEndsEveryWork := by
  intro p s cases stack driving
  have ordered := ordered_iff.mpr ⟨cases, stack⟩
  constructor
  · intro r new idle read other
    obtain ⟨leaves, lost, retired⟩ := leftDriving_role ordered driving other
    have only := only_role s p new
    have notDriving : (new == Role.driving) = false := by simpa using other
    refine ⟨s.role p new, answers_of_eq rfl idle ?_, ?_, ?_, ?_, ?_, leaves, only.line_eq, only.settings_eq, only.strays_eq⟩
    · rw [performRole_read s read, notDriving]
      rfl
    · rw [retired.sc]
      rfl
    · rw [retired.sc]
      rfl
    · rw [retired.sc]
      rfl
    · rw [retired.tc]
      rfl
  · intro sig equipped heard
    have far : s.fromFarEnd sig = true := by
      obtain rfl | ⟨a, g, k, rfl⟩ := heard
      · exact s.fromFarEnd_probe
      · exact s.fromFarEnd_telegram a g k
    obtain ⟨leaves, ⟨lost, controller⟩, before, overheard, raised, state⟩ :=
      contended_farEndDrive ordered equipped driving far
    have only := only_farEndDrive s p sig
    refine ⟨s.farEndDrive p sig, rfl, ?_, ?_, ?_, raised, state, leaves, ?probe, ?telegram, only.line_eq, only.settings_eq,
      only.strays_eq⟩
    · rw [controller]
      rfl
    · rw [controller]
      rfl
    · rw [controller]
      rfl
    case probe =>
      rintro rfl
      exact overheard.trans before
    case telegram =>
      rintro a g k rfl
      refine ⟨fun unknown => ?_, fun keys r member address => ?_⟩
      · rw [overheard, ← before]
        change (((s.contend p).overhear p a g k).tc p).overheard = _
        rw [overhear_absent (contend_keys s p) unknown]
      · subst address
        have heard : ((s.farEndDrive p (.telegram s.line.terminal.other r.address g k)).tc p).overheard =
            recordOverheard { station := r.number, kind := k, tag := g } (s.tc p).overheard := by
          rw [overheard, ← before]
          change (((s.contend p).overhear p r.address g k).tc p).overheard = _
          rw [overhear_present (contend_keys s p) keys member, State.tc_setTc_self]
        rw [heard]
        exact ⟨find?_recordOverheard { station := r.number, kind := k, tag := g } _,
          fun n other => find?_recordOverheard_other { station := r.number, kind := k, tag := g } other _⟩

end Sys2Proof.Machine
end

section
/-! PROOFS. The working context: the check, the command and its target, resumption and the start of a context. -/

namespace Sys2Proof.Machine

/-! ### The check and the command -/

theorem setsState_iff (cmd : Command) (st : StateInForce) : cmd.setsState st = true ↔ commanded cmd st := by
  unfold commanded
  constructor
  · intro sets
    unfold Command.setsState at sets
    split at sets
    · exact .inl ⟨rfl, rfl⟩
    · exact .inr (.inl ⟨rfl, rfl⟩)
    · exact .inr (.inr ⟨rfl, _, rfl⟩)
    · cases sets
  · rintro (⟨rfl, rfl⟩ | ⟨rfl, rfl⟩ | ⟨rfl, side, rfl⟩)
    · rfl
    · rfl
    · rfl

theorem near_iff (a b w : Nat) : near a b w = true ↔ b ≤ a + w ∧ a ≤ b + w := by
  simp [near, and_comm]

theorem isSome_iff_ne_none {α : Type} {o : Option α} : o.isSome = true ↔ o ≠ none := Option.isSome_iff_ne_none

/-- A step past its threshold, either way (R160). -/
theorem stepExceeds_iff (t v : Int) : t ≤ (v.natAbs : Int) ↔ t ≤ v ∨ v ≤ -t := by omega

theorem findingHolds_iff {s : State} {k : Case} {x : Station} (found : s.station? k.station = some x) (f : Finding) :
    s.findingHolds k f = true ↔ s.stillHolds k x (.finding f) := by
  unfold State.findingHolds State.stillHolds
  dsimp only
  rw [Bool.or_eq_true, Bool.or_eq_true, Bool.and_eq_true, Bool.and_eq_true, or_assoc]
  refine or_congr ?step (or_congr ?lost ?stray)
  case step =>
    refine and_congr isSome_iff_ne_none ?_
    rw [Bool.or_eq_true, Bool.not_eq_true', Option.any_eq_true]
    simp only [decide_eq_true_eq, stepExceeds_iff]
  case lost => exact and_congr isSome_iff_ne_none (Bool.not_eq_true' _).to_iff
  case stray =>
    rw [found]
    cases k.evidence.stray with
    | none => simp
    | some e =>
      cases f.stray with
      | none => simp
      | some g => simp [near_iff]

theorem alarmHolds_iff {s : State} {k : Case} {x : Station} (found : s.station? k.station = some x) (w : AlarmWord)
    (st : StateInForce) : s.alarmHolds k w = true ↔ s.stillHolds k x (.statusReply w st) := by
  have bits (i : Nat) : (x.watched &&& pairIndicators k.pair).getLsbD i = true ↔
      ∃ q ∈ x.parts, q.pair = k.pair ∧ (i = 2 * q.pair.val ∨ i = 2 * q.pair.val + 1) ∧ x.mask.getLsbD i = false := by
    rw [BitVec.getLsbD_and, Bool.and_eq_true, watched_bit, pairIndicators_bit]
    constructor
    · rintro ⟨⟨clear, q, hq, own⟩, here⟩
      exact ⟨q, hq, by ext; omega, own, clear⟩
    · rintro ⟨q, hq, pair, own, clear⟩
      exact ⟨⟨clear, q, hq, own⟩, pair ▸ own⟩
  unfold State.alarmHolds State.stillHolds
  rw [found, Bool.and_eq_true]
  refine and_congr isSome_iff_ne_none ?_
  cases latched : x.latched with
  | none => simp [latched]
  | some l =>
    simp only [latched]
    simp only [equalIn_iff, bits, Option.some.injEq, exists_eq_left']
    constructor
    · exact fun same q hq pair i own clear => same i ⟨q, hq, pair, own, clear⟩
    · rintro same i ⟨q, hq, pair, own, clear⟩
      exact same q hq pair i own clear

/-- The check of the model is the rule's (R160). -/
theorem positive_iff {s : State} {k : Case} {x : Station} (found : s.station? k.station = some x) (e : ContextEvent) :
    s.positive k e = true ↔ s.stillHolds k x e := by
  cases e with
  | finding f => exact findingHolds_iff found f
  | statusReply w st => exact alarmHolds_iff found w st
  | failed => exact isSome_iff_ne_none
  | _ => exact iff_of_false Bool.false_ne_true id

/-- The command of the map, and the station that it goes to (R162, R163). -/
theorem commandsBy_iff {s : State} (law : s.geometryLaw = true) {k : Case} {x : Station}
    (found : s.station? k.station = some x) (a : MapAction) (cmd : Command) (y : Station) :
    s.commandsBy a x cmd y ↔ a.command x = some cmd ∧ s.commandTarget k cmd = some y := by
  have target (b : Branch) (segment : x.segment = .branch b) : s.commandTarget k .cut = s.unit? b := by
    unfold State.commandTarget
    rw [found]
    dsimp only
    rw [segment]
  have own {cmd : Command} (other : cmd ≠ .cut) : s.commandTarget k cmd = some x := by
    unfold State.commandTarget
    rw [found]
    cases cmd with
    | cut => exact absurd rfl other
    | _ => rfl
  constructor
  · rintro (⟨rfl, kind, rfl, rfl⟩ | ⟨rfl, kind, rfl, rfl⟩ | ⟨rfl, rfl, member, b, segment, kind⟩)
    · exact ⟨by simp [MapAction.command, kind], own (by decide)⟩
    · exact ⟨by simp [MapAction.command, kind], own (by decide)⟩
    · refine ⟨by simp [MapAction.command, segment], ?_⟩
      rw [target b segment, unit?_of_mem law member kind]
  · rintro ⟨chosen, goes⟩
    unfold MapAction.command at chosen
    split at chosen
    next kind =>
      cases chosen
      rw [own (by decide)] at goes
      exact .inl ⟨rfl, kind, rfl, (Option.some.inj goes).symm⟩
    next kind =>
      cases chosen
      rw [own (by decide)] at goes
      exact .inr (.inl ⟨rfl, kind, rfl, (Option.some.inj goes).symm⟩)
    next b segment =>
      cases chosen
      rw [target b segment] at goes
      obtain ⟨member, kind⟩ := unit?_some goes
      exact .inr (.inr ⟨rfl, rfl, member, b, segment, kind⟩)
    next => cases chosen

theorem telegramReaches_iff {s : State} (law : s.geometryLaw = true) (parts : s.partsLaw = true) {r : Station} {p : Pair} :
    s.telegramReaches r p = true ↔ s.linkUp p r := by
  rw [linkUp_iff law parts]
  unfold State.telegramReaches
  cases r.segment with
  | trunk => simp
  | branch b => simp

theorem roundForm_iff (e : Evidence) : e.roundForm = true ↔ e.step ≠ none ∨ e.lost ≠ none ∨ e.stray ≠ none := by
  unfold Evidence.roundForm
  rw [Bool.or_eq_true, Bool.or_eq_true, or_assoc]
  exact or_congr isSome_iff_ne_none (or_congr isSome_iff_ne_none isSome_iff_ne_none)

/-! ### The conclusion of work -/

theorem State.Ordered.served {s : State} (h : s.Ordered) (some : s.arbiter.stack ≠ []) : ∃ k rest, s.Attended (k :: rest) := by
  obtain ⟨l, attended⟩ := h
  cases l with
  | nil => exact absurd attended.listed.stack some
  | cons k rest => exact ⟨k, rest, attended⟩

theorem leaveService_shrinks {s : State} (ordered : s.Ordered) (o : Outcome) :
    (s.leaveService o).resume.1.Ordered ∧
      (s.leaveService o).resume.1.arbiter.stack.length ≤ s.arbiter.stack.length - 1 := by
  have steps : WorkSteps s (s.leaveService o).resume.1 := (WorkMove.leave s o).steps.trans (workSteps_resume _)
  refine ⟨(steps.idleCasesKept ordered).1, ?_⟩
  by_cases empty : s.arbiter.stack = []
  · have shrinks := steps.stack.length_le
    rw [empty] at shrinks ⊢
    exact shrinks
  · obtain ⟨k, rest, attended⟩ := ordered.served empty
    have off : (s.leaveService o).arbiter.stack = s.arbiter.stack.tail := by
      unfold State.leaveService
      rw [attended.topCase?]
      exact activateTop_stack _
    rw [← List.length_tail, ← off]
    exact (workSteps_resume _).stack.length_le

/-- With no case in service there is no work. -/
theorem leaveService_empty {s : State} (empty : s.arbiter.stack = []) (o : Outcome) :
    (s.leaveService o).resume = (s, none) := by
  have none : s.topCase? = none := by rw [State.topCase?, empty]
  have left : s.leaveService o = s := by rw [State.leaveService, none]
  rw [left, State.resume, State.workingCase?, none]

/-- A number no less than the cases in service bounds the cases that leave. -/
theorem concludeWithin_enough (n : Nat) : ∀ {m : Nat} {w : Work}, w.1.Ordered → w.1.arbiter.stack.length ≤ n →
    w.1.arbiter.stack.length ≤ m → concludeWithin n w = concludeWithin m w := by
  have none (m : Nat) {w : Work} (idle : w.2 = none) : concludeWithin m w = w.1 := by
    cases m with
    | zero => rfl
    | succ m => rw [concludeWithin, idle]
  have empty (m : Nat) {w : Work} (empty : w.1.arbiter.stack = []) : concludeWithin m w = w.1 := by
    cases m with
    | zero => rfl
    | succ m =>
      cases out : w.2 with
      | none => exact none _ out
      | some o =>
        rw [concludeWithin, out]
        dsimp only
        rw [leaveService_empty empty]
        exact none m rfl
  induction n with
  | zero =>
    intro m w ordered bound _
    have nothing := List.eq_nil_of_length_eq_zero (Nat.le_zero.mp bound)
    rw [empty m nothing]
    rfl
  | succ n ih =>
    intro m w ordered bound enough
    cases m with
    | zero => exact empty _ (List.eq_nil_of_length_eq_zero (Nat.le_zero.mp enough))
    | succ m =>
      cases out : w.2 with
      | none => rw [none _ out, none _ out]
      | some o =>
        rw [concludeWithin, concludeWithin, out]
        obtain ⟨ordered', shorter⟩ := leaveService_shrinks ordered o
        exact ih ordered' (by omega) (by omega)

/-- A case that ends makes way for the next one (R141, R169). -/
theorem conclude_some {s : State} (ordered : s.Ordered) (served : s.arbiter.stack ≠ []) (o : Outcome) :
    conclude (s, some o) = conclude (s.leaveService o).resume := by
  obtain ⟨k, rest, attended⟩ := ordered.served served
  obtain ⟨ordered', shorter⟩ := leaveService_shrinks ordered o
  have length : s.arbiter.stack.length = rest.length + 1 := by
    rw [attended.listed.stack, List.length_map, List.length_cons]
  rw [conclude_top attended o]
  exact concludeWithin_enough rest.length ordered' (by omega) (Nat.le_refl _)

/-! ### Events recorded and resumed -/

theorem writeAction_done {s : State} {c : Context} {cmd : Command} {st : StateInForce} (act : c.step = .act)
    (chosen : c.chosen = some cmd) (done : commanded cmd st) :
    s.writeAction c (.ack st) = s.updateCase c.caseNumber fun k => { k with actionTaken := some cmd } := by
  unfold State.writeAction
  dsimp only
  rw [act, chosen]
  exact if_pos ((setsState_iff cmd st).mpr done)

theorem writeAction_undone {s : State} {c : Context} {e : ContextEvent}
    (undone : ∀ cmd st, c.step = .act → c.chosen = some cmd → e = .ack st → ¬commanded cmd st) : s.writeAction c e = s := by
  unfold State.writeAction
  split
  next st =>
    split
    next cmd act chosen => exact if_neg (mt (setsState_iff cmd st).mp (undone cmd st act chosen rfl))
    next => rfl
  next => rfl

/-- An event reaches a suspended context (R164, R168). -/
theorem tell_records {s : State} {l : Level} {c : Context} {e : ContextEvent} (h : s.context l = some c)
    (suspended : s.arbiter.stack.head? ≠ some c.caseNumber) :
    Only [.arbiter, .contexts] s (s.tell l e) ∧
    (s.tell l e).contexts = s.contexts.set l (some { c with recorded := some e }) ∧
    (s.tell l e).arbiter = (s.writeAction c e).arbiter := by
  have only := only_writeAction s c e
  have context : (s.writeAction c e).context l = some c := (writeAction_context s c e l).trans h
  rw [tell_suspended h suspended]
  refine ⟨only.up.trans (only_updateContext _ l _).up, ?_, rfl⟩
  rw [updateContext_contexts context, only.contexts_eq]

theorem Works.attended {s : State} {k : Case} {c : Context} (h : Works s k c) (cases : s.caseLaw = true)
    (stack : s.stackLaw = true) : ∃ rest, s.Attended (k :: rest) := attended_of_top cases stack h.1 h.2.1

theorem workingCase?_of {s : State} {k : Case} {c : Context} {rest : List Case} (attended : s.Attended (k :: rest))
    (context : s.context k.level = some c) (number : c.caseNumber = k.number) : s.workingCase? = some (c, k) := by
  unfold State.workingCase?
  rw [attended.topCase?]
  dsimp only
  rw [context]
  exact if_pos (beq_iff_eq.mpr number)

theorem takeEvent_recorded (s : State) (c : Context) (k : Case) (e : ContextEvent) (r : Option ContextEvent) :
    s.takeEvent { c with recorded := r } k e = s.takeEvent c k e := by
  unfold State.takeEvent
  dsimp only
  split
  · rfl
  · rfl
  · unfold State.endAct
    rfl
  · rfl

end Sys2Proof.Machine
end

section
/-! PROOFS. What the requests of the working context come to: the start of a check, ACT and CLAIM. -/

namespace Sys2Proof.Machine

/-! ### Contexts written -/

theorem Context.asks_tries (c : Context) (ph : ContextPhase) : (c.asks ph).tries = min (c.tries + 1) 255 := by
  unfold Context.asks
  dsimp only
  split <;> omega

theorem Context.asks_eq (c : Context) (ph : ContextPhase) :
    c.asks ph = { c with phase := ph, tries := min (c.tries + 1) 255 } := by
  rw [← c.asks_tries ph]
  rfl

theorem context_updated {s : State} {l : Level} {c : Context} (h : s.context l = some c) (f : Context → Context) :
    (s.updateContext l f).context l = some (f c) := by rw [context_updateContext, if_pos rfl, h, Option.map_some]

theorem setContexts_of_updateContext {s : State} {l : Level} {c : Context} (h : s.context l = some c) (f : Context → Context) :
    s.updateContext l f = s.setContexts (s.contexts.set l (some (f c))) := by
  rw [State.updateContext, h]
  rfl

theorem updateContext_twice (s : State) (l : Level) (f g : Context → Context) :
    (s.updateContext l f).updateContext l g = s.updateContext l (g ∘ f) := by
  have inner : (s.updateContext l f).context l = (s.context l).map f := by rw [context_updateContext, if_pos rfl]
  rw [State.updateContext, inner, Option.map_map]
  change (s.updateContext l f).setContexts ((s.updateContext l f).contexts.set l _) = s.setContexts (s.contexts.set l _)
  change s.setContexts ((s.contexts.set l ((s.context l).map f)).set l _) = _
  rw [Oct.set_set]

/-! ### A telegram sent for a case -/

theorem State.Attended.of_arbiter {s t : State} {l : List Case} (h : s.Attended l) (arbiter : t.arbiter = s.arbiter) :
    t.Attended l := h.of_eq (congrArg CaseArbiter.cases arbiter) (congrArg CaseArbiter.stack arbiter)

theorem submit_tc {s : State} {p : Pair} (driving : (s.sc p).role = .driving) (w : Telegram) :
    ((s.submit p w).tc p).has w := by
  unfold State.submit
  rw [if_pos (by rw [State.driving, driving]; rfl), State.tc_setTc_self]
  exact submit_has _ _

/-- The state after a telegram of the context of a case has been submitted. -/
theorem sendFor_reaches {s : State} {k : Case} {r : Station} {c : Context} (reaches : s.telegramReaches r k.pair = true)
    (context : s.context k.level = some c) (driving : (s.sc k.pair).role = .driving) (kind : TelegramKind) :
    ∃ t, s.sendFor k r kind = (t, none) ∧ Only [.contexts, .telegrams] s t ∧
      t.contexts = s.contexts.set k.level (some (c.asks .sent)) ∧
      (t.tc k.pair).has { dest := r.number, kind := kind, submitter := .context k.level } := by
  refine ⟨_, if_pos reaches, (only_updateContext s _ _).up.trans (only_submit _ _ _).up, ?_, submit_tc (s := s.updateContext k.level (·.asks .sent)) driving _⟩
  rw [(only_submit _ _ _).contexts_eq, updateContext_contexts context]

theorem sendFor_unreachable {s : State} {k : Case} {r : Station} (cut : ¬s.telegramReaches r k.pair = true)
    (kind : TelegramKind) : s.sendFor k r kind = (s, some .unreachable) := if_neg cut

/-! ### ACT -/

/-- What ACT comes to, whichever state is taken as the one before. -/
theorem Acts.congr {s u t : State} {k : Case} {cmd : Command} {y : Station} (h : Acts u t k cmd y)
    (table : u.table = s.table) : Acts s t k cmd y := by
  have link (p : Pair) (r : Station) : u.linkUp p r ↔ s.linkUp p r := by
    unfold State.linkUp
    rw [table]
  unfold Acts at h ⊢
  rwa [link] at h

theorem acts_act {s : State} {k : Case} {cmd : Command} {y : Station} {c : Context} {rest : List Case}
    (law : s.geometryLaw = true) (parts : s.partsLaw = true) (attended : s.Attended (k :: rest))
    (driving : (s.sc k.pair).role = .driving) (context : s.context k.level = some c) (number : c.caseNumber = k.number)
    (timer : c.timer = none) (chosen : c.chosen = some cmd) : Acts s (conclude (s.act k cmd y)) k cmd y := by
  have entered := context_updated context (·.enter .act)
  have attended' : (s.updateContext k.level (·.enter .act)).Attended (k :: rest) := attended.of_arbiter rfl
  have reaches : (s.updateContext k.level (·.enter .act)).telegramReaches y k.pair = s.telegramReaches y k.pair := rfl
  have link := telegramReaches_iff law parts (r := y) (p := k.pair)
  constructor
  · intro up
    obtain ⟨t, sent, only, contexts, has⟩ := sendFor_reaches (reaches.trans (link.mpr up)) entered driving cmd.telegram
    have eq : s.act k cmd y = (t, none) := sent
    rw [eq, conclude_none]
    refine ⟨?_, ⟨(c.enter .act).asks .sent, ?_, number, rfl, rfl, rfl, timer, chosen⟩, has⟩
    · rw [only.arbiter_eq]
      exact attended'.listed.mem k List.mem_cons_self
    · rw [State.context, contexts, Oct.get_set_self]
  · intro down
    have eq : s.act k cmd y = (s.updateContext k.level (·.enter .act), some .unreachable) :=
      sendFor_unreachable (by rwa [reaches, link]) cmd.telegram
    rw [eq]
    exact conclude_leaves attended' .unreachable

/-! ### CLAIM -/

/-- An AUTO claim granted: the claim is made and the case's claim field written. -/
def State.autoGranted (s : State) (k : Case) (n : Nat) (y : Station) : State :=
  (s.addClaim { number := n, station := y.number, pair := .one k.pair, owner := .auto k.number }).updateCase k.number
    fun c => { c with claim := some n }

/-- The state in which a granted case goes on to ACT: its claim wait timer is stopped. -/
def State.readyToAct (s : State) (k : Case) (n : Nat) (y : Station) : State :=
  (s.autoGranted k n y).updateContext k.level fun c => { c with timer := none }

theorem askAuto_granted {s : State} {k : Case} {y : Station} (free : ∀ h ∈ s.claims, ¬h.on y.number k.pair)
    (room : s.claims.length < 16) : ∃ n, s.lowestFree n ∧
      s.askAuto k.number y.number k.pair = (s.autoGranted k n y, .granted n) := by
  obtain ⟨n, number⟩ := freeClaimNumber_isSome room
  have answer := (State.claimAnswer_free (s := s) (n := y.number) (scope := .one k.pair) fun h hh =>
    mt (covers_iff h _ _).mp (free h hh)).1 n number
  refine ⟨n, freeClaimNumber_some number, ?_⟩
  unfold State.askAuto
  rw [answer]
  rfl

theorem askAuto_denied {s : State} (claims : s.claimLaw = true) {k : Case} {y : Station}
    (denied : (∃ h ∈ s.claims, h.on y.number k.pair) ∨ 16 ≤ s.claims.length) :
    (∃ h, s.askAuto k.number y.number k.pair = (s, .busy h)) ∨ s.askAuto k.number y.number k.pair = (s, .full) := by
  unfold State.askAuto
  cases held : s.holder? y.number (.one k.pair) with
  | some h =>
    rw [State.claimAnswer_busy held]
    exact .inl ⟨h, rfl⟩
  | none =>
    have free : ∀ h ∈ s.claims, ¬h.overlaps y.number (.one k.pair) = true := by simpa [State.holder?] using held
    have many : 16 ≤ s.claims.length := denied.resolve_left fun ⟨h, hh, on⟩ => free h hh ((covers_iff h _ _).mpr on)
    rw [(State.claimAnswer_free free).2 (freeClaimNumber_none claims many)]
    exact .inr rfl

/-- A case whose fields are written, on top of its stack. -/
theorem State.Attended.written {s t : State} {k : Case} {rest : List Case} (h : s.Attended (k :: rest)) {f : Case → Case}
    (cases : t.arbiter.cases = (s.updateCase k.number f).arbiter.cases) (stack : t.arbiter.stack = s.arbiter.stack)
    (same : ∀ c : Case, c.sameCase (f c) ∧ (f c).evidence = c.evidence ∧ (f c).level = c.level ∧ (f c).state = c.state) :
    ∃ others, t.Attended (f k :: others) := by
  have mapped := h.map_same (t := t) (g := (·.on k.number f)) (by rw [cases, updateCase_cases]) stack fun c _ => by
    dsimp only [Case.on]
    split
    · exact same c
    · exact ⟨⟨rfl, rfl, rfl⟩, rfl, rfl, rfl⟩
  rw [List.map_cons, Case.on_self rfl] at mapped
  exact ⟨_, mapped⟩

/-- The CLAIM step's request granted leads to ACT (R163). -/
theorem askClaim_granted {s : State} {k : Case} {cmd : Command} {y : Station} {c : Context} {rest : List Case}
    (law : s.geometryLaw = true) (parts : s.partsLaw = true) (attended : s.Attended (k :: rest))
    (driving : (s.sc k.pair).role = .driving) (context : s.context k.level = some c) (number : c.caseNumber = k.number)
    (chosen : c.chosen = some cmd) (enlisted : s.enlisted y.number)
    (free : ∀ h ∈ s.claims, ¬h.on y.number k.pair) (room : s.claims.length < 16) :
    ∃ n, s.lowestFree n ∧ (∀ h ∈ s.claims, h ∈ (conclude (s.askClaim k cmd y)).claims) ∧
      ({ number := n, station := y.number, pair := .one k.pair, owner := .auto k.number } : Claim) ∈
        (conclude (s.askClaim k cmd y)).claims ∧
      Acts s (conclude (s.askClaim k cmd y)) { k with claim := some n } cmd y := by
  obtain ⟨n, lowest, granted⟩ := askAuto_granted free room
  have eq : s.askClaim k cmd y = (s.readyToAct k n y).act k cmd y := by
    unfold State.askClaim
    rw [granted]
    rfl
  obtain ⟨others, attended'⟩ := attended.written (t := s.readyToAct k n y) (f := fun c => { c with claim := some n }) rfl rfl
    fun _ => ⟨⟨rfl, rfl, rfl⟩, rfl, rfl, rfl⟩
  have context' : (s.readyToAct k n y).context k.level = some { c with timer := none } :=
    context_updated (s := s.autoGranted k n y) context _
  have steps : WorkSteps (s.readyToAct k n y) (conclude ((s.readyToAct k n y).act k cmd y)) :=
    (workSteps_act (s := s.readyToAct k n y) (target := y) enlisted k cmd).trans (workSteps_conclude _)
  have acts := acts_act (s := s.readyToAct k n y) (y := y) (k := { k with claim := some n }) law parts attended' driving
    context' number rfl chosen
  rw [eq]
  exact ⟨n, lowest, fun h hh => steps.claimsGrow.1 h (mem_addClaim.mpr (.inr hh)),
    steps.claimsGrow.1 _ (mem_addClaim.mpr (.inl rfl)), acts.congr rfl⟩

/-- The CLAIM step's request denied leads to CLAIM WAIT (R163). -/
theorem askClaim_denied {s : State} {k : Case} {cmd : Command} {y : Station} {c : Context} (claims : s.claimLaw = true)
    (context : s.context k.level = some c) (denied : (∃ h ∈ s.claims, h.on y.number k.pair) ∨ 16 ≤ s.claims.length) :
    Only [.contexts] s (conclude (s.askClaim k cmd y)) ∧ (conclude (s.askClaim k cmd y)).context k.level =
      some { c with phase := .claimWait, tries := min (c.tries + 1) 255, timer := some (c.timer.getD s.line.claimWait) } := by
  have eq : s.askClaim k cmd y = (s.updateContext k.level fun c =>
      { c.asks .claimWait with timer := some (c.timer.getD s.line.claimWait) }, none) := by
    unfold State.askClaim
    obtain ⟨h, busy⟩ | full := askAuto_denied claims denied
    · rw [busy]
    · rw [full]
  rw [eq, conclude_none]
  refine ⟨only_updateContext s _ _, ?_⟩
  rw [context_updated context, Context.asks_eq]

/-! ### The start of a check -/

theorem requestFocus_outcome {s : State} {p : Pair} (driving : (s.sc p).role = .driving) (f : FocusedRequest) :
    (s.requestFocus p f).2 = none ∨ (s.requestFocus p f).2 = some .unreachable := by
  unfold State.requestFocus
  dsimp only
  rw [if_pos (by rw [State.driving, driving]; rfl)]
  split
  · split
    · exact .inr rfl
    · exact .inl rfl
  · split
    · exact .inl rfl
    · exact .inr rfl
  · exact .inl rfl

/-- The check of VERIFY or of CONFIRM starts with its request, or ends UNREACHABLE at once (R159, R161). -/
theorem startCheck_starts {s : State} {k : Case} {c : Context} {x : Station} {rest : List Case}
    (attended : s.Attended (k :: rest)) (driving : (s.sc k.pair).role = .driving) (context : s.context k.level = some c)
    (number : c.caseNumber = k.number) (found : s.station? k.station = some x) (st : ContextStep) :
    LeftService (conclude (s.startCheck k st)) k .unreachable ∨ (k ∈ (conclude (s.startCheck k st)).arbiter.cases ∧
      ∃ d, (conclude (s.startCheck k st)).context k.level = some d ∧ d.caseNumber = k.number ∧ d.step = st ∧ d.tries = 1) := by
  have concluded {w : Work} (arbiter : w.1.arbiter = s.arbiter) (outcome : w.2 = none ∨ w.2 = some .unreachable)
      (waits : w.2 = none → ∃ d, w.1.context k.level = some d ∧ d.caseNumber = k.number ∧ d.step = st ∧ d.tries = 1) :
      LeftService (conclude w) k .unreachable ∨ (k ∈ (conclude w).arbiter.cases ∧
        ∃ d, (conclude w).context k.level = some d ∧ d.caseNumber = k.number ∧ d.step = st ∧ d.tries = 1) := by
    obtain ⟨t, o⟩ := w
    obtain rfl | rfl := outcome
    · rw [conclude_none]
      exact .inr ⟨by rw [arbiter]; exact attended.listed.mem k List.mem_cons_self, waits rfl⟩
    · exact .inl (conclude_leaves (attended.of_arbiter arbiter) .unreachable)
  have entered := context_updated context (·.enter st)
  have found' : (s.updateContext k.level (·.enter st)).station? k.station = some x := found
  unfold State.startCheck
  dsimp only
  rw [found']
  dsimp only
  split
  · have asked := context_updated entered (·.asks .asked)
    have plans := planSteps_requestFocus ((s.updateContext k.level (·.enter st)).updateContext k.level (·.asks .asked)) k.pair
      { view := x.segment, station := x.number, level := k.level, taken := false }
    refine concluded plans.only.arbiter_eq (requestFocus_outcome (s := (s.updateContext k.level (·.enter st)).updateContext
      k.level (·.asks .asked)) driving _) fun _ => ?_
    obtain ⟨g, phased⟩ := plans.phased k.level
    rw [asked, Option.map_some] at phased
    exact ⟨_, phased, number, rfl, rfl⟩
  · by_cases reaches : (s.updateContext k.level (·.enter st)).telegramReaches x k.pair = true
    · obtain ⟨t, sent, only, contexts, -⟩ := sendFor_reaches (s := s.updateContext k.level (·.enter st)) reaches entered driving
        .status
      rw [sent]
      refine concluded only.arbiter_eq (.inl rfl) fun _ => ⟨(c.enter st).asks .sent, ?_, number, rfl, rfl⟩
      rw [State.context, contexts, Oct.get_set_self]
    · rw [sendFor_unreachable reaches]
      exact concluded rfl (.inr rfl) nofun

end Sys2Proof.Machine
end

section
/-! PROOFS. The steps of the working context: O46. -/

namespace Sys2Proof.Machine

/-! ### Events -/

/-- An event that writes no action taken is taken by the working context (R160 to R165). -/
theorem tell_takes {s : State} {k : Case} {c : Context} {e : ContextEvent} (cases : s.caseLaw = true) (works : Works s k c)
    (undone : ∀ cmd st, c.step = .act → c.chosen = some cmd → e = .ack st → ¬commanded cmd st) :
    s.tell k.level e = conclude (s.takeEvent c k e) := by
  obtain ⟨member, top, context, number⟩ := works
  have still := writeAction_undone (s := s) undone
  have told := tell_working (c := c) (k := k) (e := e) context (by rw [top, number])
    (by rw [still, number]; exact case?_of_mem cases member)
  rwa [still] at told

theorem takeEvent_verify {s : State} {c : Context} (step : c.step = .verify) (k : Case) (e : ContextEvent) :
    s.takeEvent c k e = if s.positive k e then s.chooseAction k else (s, some .unconfirmed) := by
  unfold State.takeEvent
  rw [step]

theorem takeEvent_act {s : State} {c : Context} (step : c.step = .act) (k : Case) (e : ContextEvent) :
    s.takeEvent c k e = s.endAct c k e := by
  unfold State.takeEvent
  rw [step]

theorem takeEvent_confirm {s : State} {c : Context} (step : c.step = .confirm) (k : Case) (e : ContextEvent) :
    s.takeEvent c k e = (s, some (if s.positive k e then .ineffective else .isolated)) := by
  unfold State.takeEvent
  rw [step]

/-! ### VERIFY -/

theorem chooseAction_reported {s : State} (law : s.geometryLaw = true) {k : Case} {x : Station} {d : Cause}
    (found : s.station? k.station = some x) (decided : decides s.arbiter.policy.levelMap k.evidence d)
    (reports : s.arbiter.policy.modes.get k.level = .report ∨
      ∀ cmd y, ¬s.commandsBy (s.arbiter.policy.actionMap.get d) x cmd y) : s.chooseAction k = (s, some .reported) := by
  unfold State.chooseAction
  rw [decidingCause_eq decided, found]
  dsimp only
  split
  next cmd chosen auto =>
    have none := reports.resolve_left fun report => by
      rw [report] at auto
      cases auto
    split
    next y target => exact absurd ((commandsBy_iff law found _ cmd y).mpr ⟨chosen, target⟩) (none cmd y)
    next => rfl
  next => rfl

theorem chooseAction_claims {s : State} (law : s.geometryLaw = true) {k : Case} {x y : Station} {d : Cause} {cmd : Command}
    (found : s.station? k.station = some x) (decided : decides s.arbiter.policy.levelMap k.evidence d)
    (auto : s.arbiter.policy.modes.get k.level = .auto)
    (commands : s.commandsBy (s.arbiter.policy.actionMap.get d) x cmd y) :
    s.chooseAction k = s.startClaim k cmd y ∧ s.enlisted y.number := by
  obtain ⟨chosen, target⟩ := (commandsBy_iff law found _ cmd y).mp commands
  refine ⟨?_, commandTarget_enlisted target⟩
  unfold State.chooseAction
  rw [decidingCause_eq decided, found]
  dsimp only
  rw [chosen, auto]
  dsimp only
  rw [target]

/-- The state as CLAIM is entered with the command chosen (R163). -/
def State.claiming (s : State) (k : Case) (cmd : Command) : State :=
  s.updateContext k.level fun c => { c.enter .claim with chosen := some cmd }

theorem startClaim_held {s : State} {k : Case} {n : Nat} (holds : k.claim = some n) (cmd : Command) (y : Station) :
    s.startClaim k cmd y =
      if s.claimFits k n y then (s.claiming k cmd).act k cmd y else (s.claiming k cmd, some .blocked) := by
  unfold State.startClaim
  rw [holds]
  rfl

theorem startClaim_none {s : State} {k : Case} (none : k.claim = none) (cmd : Command) (y : Station) :
    s.startClaim k cmd y = (s.claiming k cmd).askClaim k cmd y := by
  unfold State.startClaim
  rw [none]
  rfl

theorem claimFits_iff {s : State} (claims : s.claimLaw = true) {h : Claim} (hh : h ∈ s.claims) (k : Case) (y : Station) :
    s.claimFits k h.number y = true ↔ h.station = y.number ∧ h.pair = .one k.pair := by
  unfold State.claimFits
  rw [claim?_of_mem claims hh]
  simp

/-- The CLAIM step of a case (R163). -/
theorem startClaim_spec {s : State} {k : Case} {c : Context} {y : Station} {cmd : Command} {rest : List Case}
    (law : s.geometryLaw = true) (parts : s.partsLaw = true) (claims : s.claimLaw = true) (attended : s.Attended (k :: rest))
    (driving : (s.sc k.pair).role = .driving) (context : s.context k.level = some c) (number : c.caseNumber = k.number)
    (timer : c.timer = none) (enlisted : s.enlisted y.number) :
    let t := conclude (s.startClaim k cmd y)
    (∀ n, k.claim = some n → ∀ h ∈ s.claims, h.number = n →
      (h.station = y.number → h.pair = .one k.pair → Acts s t k cmd y) ∧
      (¬(h.station = y.number ∧ h.pair = .one k.pair) → LeftService t k .blocked)) ∧
    (k.claim = none →
      ((∀ h ∈ s.claims, ¬h.on y.number k.pair) → s.claims.length < 16 → ∃ n, s.lowestFree n ∧
        (∀ h ∈ s.claims, h ∈ t.claims) ∧
        ({ number := n, station := y.number, pair := .one k.pair, owner := .auto k.number } : Claim) ∈ t.claims ∧
        Acts s t { k with claim := some n } cmd y) ∧
      ((∃ h ∈ s.claims, h.on y.number k.pair) ∨ 16 ≤ s.claims.length → Only [.contexts] s t ∧
        t.context k.level = some { c with
          step := .claim, phase := .claimWait, tries := 1, timer := some s.line.claimWait, chosen := some cmd })) := by
  have context' : (s.claiming k cmd).context k.level = some { c.enter .claim with chosen := some cmd } :=
    context_updated context _
  have attended' : (s.claiming k cmd).Attended (k :: rest) := attended.of_arbiter rfl
  refine ⟨fun n holds h hh same => ?_, fun none => ⟨fun free room => ?_, fun denied => ?_⟩⟩
  · subst same
    rw [startClaim_held holds]
    refine ⟨fun station pair => ?_, fun other => ?_⟩
    · rw [if_pos ((claimFits_iff claims hh k y).mpr ⟨station, pair⟩)]
      exact (acts_act (s := s.claiming k cmd) law parts attended' driving context' number timer rfl).congr rfl
    · rw [if_neg (mt (claimFits_iff claims hh k y).mp other)]
      exact conclude_leaves attended' .blocked
  · rw [startClaim_none none]
    obtain ⟨n, lowest, stand, new, acts⟩ := askClaim_granted (s := s.claiming k cmd) law parts attended' driving context' number
      rfl enlisted free room
    exact ⟨n, lowest, stand, new, acts.congr rfl⟩
  · rw [startClaim_none none]
    obtain ⟨only, waits⟩ := askClaim_denied (s := s.claiming k cmd) (cmd := cmd) claims context' denied
    refine ⟨(only_updateContext s _ _).trans only, waits.trans ?_⟩
    change some { c with step := .claim, phase := .claimWait, tries := 1, timer := some (c.timer.getD s.line.claimWait), chosen := some cmd } = _
    rw [timer]
    rfl

/-! ### ACT -/

/-- The state after the action taken of a case has been written (R164). -/
def State.acted (s : State) (k : Case) (cmd : Command) : State :=
  s.updateCase k.number fun c => { c with actionTaken := some cmd }

/-- An ACK of the commanded state (R164, R165). -/
theorem tell_acted {s : State} {k : Case} {c : Context} {cmd : Command} {st : StateInForce} (cases : s.caseLaw = true)
    (stack : s.stackLaw = true) (works : Works s k c) (act : c.step = .act) (chosen : c.chosen = some cmd)
    (done : commanded cmd st) : (∃ rest, (s.acted k cmd).Attended ({ k with actionTaken := some cmd } :: rest)) ∧
      s.tell k.level (.ack st) = conclude ((s.acted k cmd).afterAct { k with actionTaken := some cmd } cmd) := by
  obtain ⟨rest, attended⟩ := works.attended cases stack
  obtain ⟨member, top, context, number⟩ := works
  have written := writeAction_done (s := s) act chosen done
  rw [number] at written
  obtain ⟨others, attended'⟩ := attended.written (t := s.acted k cmd) (f := fun c => { c with actionTaken := some cmd }) rfl rfl
    fun _ => ⟨⟨rfl, rfl, rfl⟩, rfl, rfl, rfl⟩
  have found : (s.acted k cmd).case? k.number = some { k with actionTaken := some cmd } :=
    case?_of_mem (c := { k with actionTaken := some cmd }) (caseLaw_iff.mpr attended'.lawful)
      (attended'.listed.mem _ List.mem_cons_self)
  have told := tell_working (c := c) (k := { k with actionTaken := some cmd }) (e := .ack st) context (by rw [top, number])
    (by rw [written, number]; exact found)
  refine ⟨⟨others, attended'⟩, told.trans ?_⟩
  rw [written, takeEvent_act act]
  unfold State.endAct
  dsimp only
  rw [chosen]
  exact congrArg conclude (if_pos ((setsState_iff cmd st).mpr done))

theorem endAct_refused {s : State} {c : Context} {k : Case} {cmd : Command} {e : ContextEvent} (chosen : c.chosen = some cmd)
    (refused : (∃ st, e = .ack st ∧ ¬commanded cmd st) ∨ ∃ reason st, e = .nak reason st) :
    s.endAct c k e = (s, some .refused) := by
  obtain ⟨st, rfl, other⟩ | ⟨reason, st, rfl⟩ := refused
  · unfold State.endAct
    dsimp only
    rw [chosen]
    exact if_neg (mt (setsState_iff cmd st).mp other)
  · rfl

/-! ### An event at the working context -/

/-- VERIFY (R160 to R163). -/
theorem verify_takes {s : State} {k : Case} {c : Context} {x : Station} {e : ContextEvent} (cases : s.caseLaw = true)
    (stack : s.stackLaw = true) (law : s.geometryLaw = true) (works : Works s k c) (found : s.station? k.station = some x)
    (step : c.step = .verify) :
    let t := s.tell k.level e
    (¬s.stillHolds k x e → LeftService t k .unconfirmed) ∧
    (s.stillHolds k x e → ∀ d, decides s.arbiter.policy.levelMap k.evidence d →
      let a := s.arbiter.policy.actionMap.get d
      ((s.arbiter.policy.modes.get k.level = .report ∨ ∀ cmd y, ¬s.commandsBy a x cmd y) → LeftService t k .reported) ∧
      ∀ cmd y, s.arbiter.policy.modes.get k.level = .auto → s.commandsBy a x cmd y →
        t = conclude (s.startClaim k cmd y) ∧ s.enlisted y.number) := by
  obtain ⟨rest, attended⟩ := works.attended cases stack
  have told := tell_takes (e := e) cases works fun _ _ act => by
    rw [step] at act
    cases act
  rw [takeEvent_verify step] at told
  intro t
  change t = _ at told
  have positive := positive_iff found e
  refine ⟨fun fails => ?_, fun holds d decided => ⟨fun reports => ?_, fun cmd y auto commands => ?_⟩⟩
  · rw [told, if_neg (mt positive.mp fails)]
    exact conclude_leaves attended .unconfirmed
  · rw [told, if_pos (positive.mpr holds), chooseAction_reported law found decided reports]
    exact conclude_leaves attended .reported
  · obtain ⟨claimed, enlisted⟩ := chooseAction_claims law found decided auto commands
    exact ⟨by rw [told, if_pos (positive.mpr holds), claimed], enlisted⟩

/-- ACT (R164, R165). -/
theorem act_takes {s : State} {k : Case} {c : Context} {x : Station} {e : ContextEvent} {cmd : Command}
    (cases : s.caseLaw = true) (stack : s.stackLaw = true) (driving : (s.sc k.pair).role = .driving) (works : Works s k c)
    (found : s.station? k.station = some x) (step : c.step = .act) (chosen : c.chosen = some cmd) :
    let t := s.tell k.level e
    (∀ st, e = .ack st → commanded cmd st →
      let done := { k with actionTaken := some cmd }
      (cmd = .cut → LeftService t done .isolated) ∧
      (cmd ≠ .cut → LeftService t done .unreachable ∨ (done ∈ t.arbiter.cases ∧ ∃ d, t.context k.level = some d ∧
        d.caseNumber = k.number ∧ d.step = .confirm ∧ d.tries = 1))) ∧
    ((∃ st, e = .ack st ∧ ¬commanded cmd st) ∨ (∃ reason st, e = .nak reason st) → LeftService t k .refused) ∧
    (e = .failed → LeftService t k .failed) := by
  obtain ⟨rest, attended⟩ := works.attended cases stack
  refine ⟨fun st ack done => ?_, fun refused => ?_, fun failed => ?_⟩
  · subst ack
    obtain ⟨⟨others, attended'⟩, told⟩ := tell_acted cases stack works step chosen done
    rw [told]
    refine ⟨fun cut => ?_, fun other => ?_⟩
    · subst cut
      exact conclude_leaves attended' .isolated
    · have confirms : (s.acted k cmd).afterAct { k with actionTaken := some cmd } cmd =
          (s.acted k cmd).startCheck { k with actionTaken := some cmd } .confirm := by
        cases cmd with
        | cut => exact absurd rfl other
        | _ => rfl
      rw [confirms]
      exact startCheck_starts (s := s.acted k cmd) (k := { k with actionTaken := some cmd }) attended' driving works.2.2.1
        works.2.2.2 found .confirm
  · have told := tell_takes (e := e) cases works fun cmd' st _ chosen' ack done => by
      rw [chosen] at chosen'
      cases chosen'
      obtain ⟨st', ack', other⟩ | ⟨reason, st', nak⟩ := refused
      · rw [ack] at ack'
        cases ack'
        exact other done
      · rw [ack] at nak
        cases nak
    rw [told, takeEvent_act step, endAct_refused chosen refused]
    exact conclude_leaves attended .refused
  · subst failed
    have told := tell_takes (e := .failed) cases works fun _ _ _ _ ack => by cases ack
    rw [told, takeEvent_act step]
    exact conclude_leaves attended .failed

/-- CONFIRM (R165). -/
theorem confirm_takes {s : State} {k : Case} {c : Context} {x : Station} {e : ContextEvent} (cases : s.caseLaw = true)
    (stack : s.stackLaw = true) (works : Works s k c) (found : s.station? k.station = some x) (step : c.step = .confirm) :
    (s.stillHolds k x e → LeftService (s.tell k.level e) k .ineffective) ∧
    (¬s.stillHolds k x e → LeftService (s.tell k.level e) k .isolated) := by
  obtain ⟨rest, attended⟩ := works.attended cases stack
  have told := tell_takes (e := e) cases works fun _ _ act => by
    rw [step] at act
    cases act
  have positive := positive_iff found e
  rw [told, takeEvent_confirm step]
  refine ⟨fun holds => ?_, fun fails => ?_⟩
  · rw [if_pos (positive.mpr holds)]
    exact conclude_leaves attended .ineffective
  · rw [if_neg (mt positive.mp fails)]
    exact conclude_leaves attended .isolated

end Sys2Proof.Machine
end

section
/-! PROOFS. Resumption, announcements and the start of a context; every step of the working context together: O46. -/

namespace Sys2Proof.Machine

/-! ### Announcements -/

/-- A context in CLAIM WAIT asks again when a claim is released (R155, R163). -/
theorem announce_asks {s : State} (law : s.geometryLaw = true) {k : Case} {c : Context} {x y : Station} {a : MapAction}
    {cmd : Command} (cases : s.caseLaw = true) (stack : s.stackLaw = true) (works : Works s k c)
    (found : s.station? k.station = some x) (waits : c.phase = .claimWait) (chosen : c.chosen = some cmd)
    (commands : s.commandsBy a x cmd y) : s.announce = conclude (s.askClaim k cmd y) ∧ s.enlisted y.number := by
  obtain ⟨rest, attended⟩ := works.attended cases stack
  obtain ⟨-, target⟩ := (commandsBy_iff law found a cmd y).mp commands
  refine ⟨?_, commandTarget_enlisted target⟩
  unfold State.announce State.askAgain
  rw [workingCase?_of attended works.2.2.1 works.2.2.2]
  dsimp only
  rw [waits, chosen]
  dsimp only
  rw [target]

/-! ### Resumption -/

/-- A context takes the event recorded as if it came now (R169). -/
theorem resume_recorded {s : State} {k : Case} {c : Context} {e : ContextEvent} (cases : s.caseLaw = true)
    (stack : s.stackLaw = true) (works : Works s k c) (recorded : c.recorded = some e)
    (taken : ∀ cmd st, c.step = .act → c.chosen = some cmd → e = .ack st → commanded cmd st → k.actionTaken = some cmd) :
    conclude s.resume = (s.setContexts (s.contexts.set k.level (some { c with recorded := none }))).tell k.level e := by
  obtain ⟨rest, attended⟩ := works.attended cases stack
  obtain ⟨member, top, context, number⟩ := works
  have resumed : s.resume = (s.setContexts (s.contexts.set k.level (some { c with recorded := none }))).takeEvent c k e := by
    unfold State.resume
    rw [workingCase?_of attended context number]
    dsimp only
    rw [recorded, setContexts_of_updateContext context]
  generalize written : s.setContexts (s.contexts.set k.level (some { c with recorded := none })) = t at resumed ⊢
  have cases' : t.caseLaw = true := by rw [← written]; exact cases
  have stack' : t.stackLaw = true := by rw [← written]; exact stack
  have works' : Works t k { c with recorded := none } := by
    rw [← written]
    exact ⟨member, top, Oct.get_set_self _ _ _, number⟩
  rw [resumed]
  by_cases done : ∃ cmd st, c.step = .act ∧ c.chosen = some cmd ∧ e = .ack st ∧ commanded cmd st
  · obtain ⟨cmd, st, act, chosen, rfl, sets⟩ := done
    obtain ⟨-, told⟩ := tell_acted cases' stack' works' act chosen sets
    have same : ({ k with actionTaken := some cmd } : Case) = k := by rw [← taken cmd st act chosen rfl sets]
    have still : t.acted k cmd = t := by
      have list : (t.acted k cmd).arbiter.cases = t.arbiter.cases := by
        rw [State.acted, updateCase_cases]
        refine (List.map_congr_left fun d hd => ?_).trans (List.map_id _)
        by_cases e : d.number = k.number
        · rw [(caseLaw_iff.mp cases').eq_of_number hd works'.1 e, Case.on_self rfl, same]
          rfl
        · rw [Case.on_other e]
          rfl
      change t.setArbiter { t.arbiter with cases := (t.acted k cmd).arbiter.cases } = t
      rw [list]
      rfl
    rw [told, same, still, takeEvent_act act]
    unfold State.endAct
    dsimp only
    rw [chosen]
    exact congrArg conclude (if_pos ((setsState_iff cmd st).mpr sets))
  · rw [tell_takes (c := { c with recorded := none }) cases' works' fun cmd st act chosen ack sets =>
      done ⟨cmd, st, act, chosen, ack, sets⟩]
    exact congrArg conclude (takeEvent_recorded t c k e none).symm

/-- A context with nothing recorded goes on with what it waits for (R169). -/
theorem resume_waits {s : State} {k : Case} {c : Context} {x : Station} (cases : s.caseLaw = true)
    (stack : s.stackLaw = true) (works : Works s k c) (found : s.station? k.station = some x) (none : c.recorded = none) :
    (c.phase = .asked → s.resume =
      (s.setContexts (s.contexts.set k.level (some { c with tries := min (c.tries + 1) 255 }))).requestFocus k.pair
        { view := x.segment, station := k.station, level := k.level, taken := false }) ∧
    (c.phase = .claimWait → conclude s.resume = s.announce) ∧
    (c.phase = .measuring ∨ c.phase = .sent → s.resume = (s, .none)) := by
  obtain ⟨rest, attended⟩ := works.attended cases stack
  have working := workingCase?_of attended works.2.2.1 works.2.2.2
  unfold State.resume
  rw [working]
  dsimp only
  rw [none]
  dsimp only
  refine ⟨fun asked => ?_, fun waits => ?_, fun under => ?_⟩
  · rw [asked, found]
    dsimp only
    have number : x.number = k.station := (station?_some found).2
    have asks : c.asks .asked = { c with tries := min (c.tries + 1) 255 } := by rw [Context.asks_eq, ← asked]
    rw [State.askRound, setContexts_of_updateContext works.2.2.1, asks, number, asked, none]
  · rw [waits]
    rfl
  · obtain phase | phase := under <;> rw [phase]

/-! ### The start of a context -/

theorem startContext_fresh {s : State} {k : Case} (none : k.actionTaken = none) : s.startContext k =
    (s.setContexts (s.contexts.set k.level (some (Context.occupied k)))).startCheck k .verify := by
  unfold State.startContext
  dsimp only
  rw [none]
  rfl

theorem startContext_acted {s : State} {k : Case} (taken : k.actionTaken = some .spare ∨ k.actionTaken = some .limit) :
    s.startContext k =
      (s.setContexts (s.contexts.set k.level (some (Context.occupied k)))).startCheck k .confirm := by
  unfold State.startContext
  dsimp only
  obtain taken | taken := taken <;> rw [taken] <;> rfl

/-- A context that starts after CUT reads the unit's branch connection (R165). -/
theorem startContext_cut {s : State} {k : Case} {h : Claim} {q : PairPart} (claims : s.claimLaw = true) (hh : h ∈ s.claims)
    (taken : k.actionTaken = some .cut) (holds : k.claim = some h.number) (part : s.part? h.station k.pair = some q) :
    s.startContext k = (s.setContexts (s.contexts.set k.level (some (Context.occupied k))),
      some (if q.connection = some .cut then .isolated else .ineffective)) := by
  have reads : s.cutInForce k = (q.connection == some .cut) := by
    unfold State.cutInForce
    rw [holds]
    dsimp only
    rw [claim?_of_mem claims hh]
    dsimp only
    rw [part]
  have occupied : (s.setContext k.level (some (Context.occupied k))).cutInForce k = s.cutInForce k := rfl
  unfold State.startContext
  dsimp only
  rw [taken]
  dsimp only
  rw [occupied, reads]
  simp only [beq_iff_eq]
  rfl

/-- A request at a pair in RUNNING or RESULT is held pending (R42). -/
theorem requestFocus_pending {s : State} {p : Pair} (driving : (s.sc p).role = .driving)
    (busy : (s.sc p).state = .running ∨ (s.sc p).state = .result) (f : FocusedRequest) :
    s.requestFocus p f = (s.setSc p { s.sc p with focused := some { f with taken := false } }, none) := by
  unfold State.requestFocus
  dsimp only
  rw [if_pos (by rw [State.driving, driving]; rfl)]
  obtain state | state := busy <;> rw [state]

/-- The form of a check, and its request (R159). -/
theorem startCheck_form {s : State} {k : Case} {c : Context} {x : Station} (law : s.geometryLaw = true)
    (parts : s.partsLaw = true) (driving : (s.sc k.pair).role = .driving) (context : s.context k.level = some c)
    (found : s.station? k.station = some x) (st : ContextStep) :
    let round := k.evidence.step ≠ none ∨ k.evidence.lost ≠ none ∨ k.evidence.stray ≠ none
    (round → (s.sc k.pair).state = .running ∨ (s.sc k.pair).state = .result →
      s.startCheck k st = ((s.setContexts (s.contexts.set k.level
          (some { c with step := st, phase := .asked, tries := 1 }))).setSurvey (s.survey.set k.pair
          { s.sc k.pair with focused := some { view := x.segment, station := k.station, level := k.level,
                                               taken := false } }), none)) ∧
    (¬round → (¬s.linkUp k.pair x → (s.startCheck k st).2 = some .unreachable) ∧
      (s.linkUp k.pair x → ∃ t, s.startCheck k st = (t, none) ∧ Only [.contexts, .telegrams] s t ∧
        t.contexts = s.contexts.set k.level (some { c with step := st, phase := .sent, tries := 1 }) ∧
        (t.tc k.pair).has { dest := k.station, kind := .status, submitter := .context k.level })) := by
  have number : x.number = k.station := (station?_some found).2
  have entered : (s.updateContext k.level (·.enter st)).station? k.station = some x := found
  have form := roundForm_iff k.evidence
  refine ⟨fun round busy => ?_, fun telegram => ?_⟩
  · unfold State.startCheck
    dsimp only
    rw [entered]
    dsimp only
    rw [if_pos (form.mpr round), State.askRound, updateContext_twice, setContexts_of_updateContext context, number]
    exact requestFocus_pending (s := s.setContexts (s.contexts.set k.level (some ((c.enter st).asks .asked)))) driving busy _
  · have sends : s.startCheck k st = (s.updateContext k.level (·.enter st)).sendFor k x .status := by
      unfold State.startCheck
      dsimp only
      rw [entered]
      dsimp only
      rw [if_neg (mt form.mp telegram)]
    have link : (s.updateContext k.level (·.enter st)).telegramReaches x k.pair = true ↔ s.linkUp k.pair x :=
      telegramReaches_iff (s := s) law parts
    refine ⟨fun down => ?_, fun up => ?_⟩
    · rw [sends, sendFor_unreachable (mt link.mp down)]
    · obtain ⟨t, sent, only, contexts, has⟩ := sendFor_reaches (s := s.updateContext k.level (·.enter st)) (link.mpr up)
        (context_updated context _) driving .status
      refine ⟨t, sends.trans sent, (only_updateContext s _ _).up.trans only, ?_, number ▸ has⟩
      rw [contexts, updateContext_contexts context, Oct.set_set]
      rfl

/-! ### Every step -/

/-- What an event written into a suspended context leaves of the arbiter (R168). -/
theorem tell_records_arbiter {s : State} {l : Level} {c : Context} {e : ContextEvent} (h : s.context l = some c)
    (suspended : s.arbiter.stack.head? ≠ some c.caseNumber) :
    let done := ∃ cmd st, c.step = .act ∧ c.chosen = some cmd ∧ e = .ack st ∧ commanded cmd st
    (done → (s.tell l e).arbiter = { s.arbiter with cases := s.arbiter.cases.map fun k =>
      if k.number = c.caseNumber then { k with actionTaken := c.chosen } else k }) ∧
    (¬done → (s.tell l e).arbiter = s.arbiter) := by
  obtain ⟨-, -, arbiter⟩ := tell_records (e := e) h suspended
  refine ⟨?_, fun undone => ?_⟩
  · rintro ⟨cmd, st, act, chosen, rfl, sets⟩
    rw [arbiter, writeAction_done act chosen sets, chosen]
    simp only [State.updateCase, beq_iff_eq]
    rfl
  · rw [arbiter, writeAction_undone fun cmd st act chosen ack sets => undone ⟨cmd, st, act, chosen, ack, sets⟩]

/-- Settles O46: the conjuncts are the rules of an event at a suspended and at the working context, of an announcement,
of a case that leaves service, of resumption, of a start and of a check. -/
theorem contextWorksItsSteps : Obligations.ContextWorksItsSteps := by
  refine ⟨fun s l c e h suspended => ?suspended, fun s k c x e cases stack law parts claims driving works found => ?working,
    fun s k c x y a cmd cases stack law parts claims driving works found waits chosen commands => ?announced,
    fun s o cases stack served => conclude_some (ordered_iff.mpr ⟨cases, stack⟩) served o,
    fun s k c x cases stack works found => ⟨fun e recorded taken => resume_recorded cases stack works recorded taken,
      fun none => resume_waits cases stack works found none⟩,
    fun s k claims => ⟨startContext_fresh, startContext_acted, fun h hh q taken holds part =>
      startContext_cut claims hh taken holds part⟩,
    fun s k c x st law parts driving context found => startCheck_form law parts driving context found st⟩
  case suspended =>
    obtain ⟨only, contexts, -⟩ := tell_records (e := e) h suspended
    exact ⟨only, contexts, tell_records_arbiter h suspended⟩
  case working =>
    obtain ⟨rest, attended⟩ := works.attended cases stack
    refine ⟨fun step => ?_, fun step cmd chosen => act_takes cases stack driving works found step chosen,
      fun step => confirm_takes cases stack works found step⟩
    obtain ⟨fails, holds⟩ := verify_takes (e := e) cases stack law works found step
    refine ⟨fails, fun still d decided => ?_⟩
    obtain ⟨reports, claimed⟩ := holds still d decided
    refine ⟨reports, fun cmd y auto commands timer => ?_⟩
    obtain ⟨told, enlisted⟩ := claimed cmd y auto commands
    rw [told]
    exact startClaim_spec law parts claims attended driving works.2.2.1 works.2.2.2 timer enlisted
  case announced =>
    obtain ⟨rest, attended⟩ := works.attended cases stack
    obtain ⟨asks, enlisted⟩ := announce_asks law cases stack works found waits chosen commands
    rw [asks]
    refine ⟨fun free room => ?_, fun denied => ?_⟩
    · obtain ⟨n, lowest, -, new, acts⟩ := askClaim_granted law parts attended driving works.2.2.1 works.2.2.2 chosen enlisted
        free room
      exact ⟨n, lowest, new, acts⟩
    · obtain ⟨only, context⟩ := askClaim_denied (cmd := cmd) claims works.2.2.1 denied
      refine ⟨only, context.trans ?_⟩
      rw [← waits]

end Sys2Proof.Machine
end

section
/-! PROOFS. Views, steering plans and shadows in the records' own terms (R9, R32 to R37, R43). -/

namespace Sys2Proof.Machine

/-! ### Units and availability -/

theorem unit?_iff {s : State} (law : s.geometryLaw = true) {b : Branch} {u : Station} :
    s.unit? b = some u ↔ u ∈ s.table.stations ∧ u.kind = .branching b :=
  ⟨unit?_some, fun ⟨member, kind⟩ => unit?_of_mem law member kind⟩

theorem available_iff {s : State} (law : s.geometryLaw = true) (parts : s.partsLaw = true) {p : Pair} {v : View} :
    s.available p v = true ↔ s.viewAvailable p v := by
  cases v with
  | trunk => exact iff_of_true rfl trivial
  | branch b =>
    unfold State.available State.viewAvailable
    cases found : s.unit? b with
    | none =>
      simp only [found]
      exact iff_of_false Bool.false_ne_true fun ⟨_, u, member, kind, _⟩ => unit?_none.mp found u member kind
    | some u =>
      obtain ⟨member, kind⟩ := unit?_some found
      have one {w : Station} (hw : w ∈ s.table.stations) (same : w.kind = .branching b) : w = u :=
        Option.some.inj ((unit?_of_mem law hw same).symm.trans found)
      simp only [found, Bool.and_eq_true, Bool.or_eq_true, beq_iff_eq, connectionOf_iff law parts, and_assoc]
      refine and_congr_right fun _ => ⟨?_, ?_⟩
      · rintro ⟨⟨w, hw, same, connected⟩, steering⟩
        exact ⟨u, member, kind, one hw same ▸ connected, steering⟩
      · rintro ⟨w, hw, same, connected, steering⟩
        exact ⟨⟨w, hw, same, connected⟩, one hw same ▸ steering⟩

theorem trunk_mem_viewsAfter (v : View) : .trunk ∈ viewsAfter v := by
  obtain _ | (_ | _ | _) := v <;> decide

/-- The rotation moves to the next available view (R32). -/
theorem rotationMoves_nextView {s : State} (law : s.geometryLaw = true) (parts : s.partsLaw = true) (p : Pair) (v : View) :
    s.rotationMoves p v (s.nextView p v) := by
  unfold State.nextView
  cases found : (viewsAfter v).find? (s.available p) with
  | none => exact absurd rfl (List.find?_eq_none.mp found .trunk (trunk_mem_viewsAfter v))
  | some w =>
    obtain ⟨here, passed, rest, split, before⟩ := List.find?_eq_some_iff_append.mp found
    refine ⟨passed, rest, split, fun u hu => ?_, (available_iff law parts).mp here⟩
    rw [← available_iff law parts]
    simpa using before u hu

theorem ownUnit_iff {s : State} (law : s.geometryLaw = true) {v : View} {u : Station} (member : u ∈ s.table.stations) :
    s.ownUnit v = some u.number ↔ ∃ b, v = .branch b ∧ u.kind = .branching b := by
  cases v with
  | trunk => exact iff_of_false nofun fun ⟨_, other, _⟩ => nomatch other
  | branch b =>
    unfold State.ownUnit
    rw [Option.map_eq_some_iff]
    constructor
    · rintro ⟨w, found, same⟩
      obtain ⟨hw, kind⟩ := unit?_some found
      exact ⟨b, rfl, eq_of_number_eq (geometry_parts law).1 hw member same ▸ kind⟩
    · rintro ⟨b, ⟨⟩, kind⟩
      exact ⟨u, unit?_of_mem law member kind, rfl⟩

theorem viewTurned_iff {s : State} (law : s.geometryLaw = true) {p : Pair} {v : View} :
    s.viewTurned p v = true ↔ s.turnedTo p v := by
  unfold State.turnedTo
  cases v with
  | trunk => exact iff_of_true rfl nofun
  | branch b =>
    unfold State.viewTurned
    simp only [Segment.branch.injEq, forall_eq']
    cases found : s.unit? b with
    | none => exact iff_of_false nofun fun ⟨u, member, kind, _⟩ => unit?_none.mp found u member kind
    | some u =>
      obtain ⟨member, kind⟩ := unit?_some found
      rw [beq_iff_eq]
      constructor
      · exact fun turned => ⟨u, member, kind, turned⟩
      · rintro ⟨w, hw, same, turned⟩
        rwa [Option.some.inj ((unit?_of_mem law hw same).symm.trans found)] at turned

/-! ### Steering plans -/

theorem mem_steeredUnits_iff {s : State} (law : s.geometryLaw = true) {p : Pair} {u : Station} :
    u ∈ s.steeredUnits p ↔ u ∈ s.table.stations ∧ u.segment = .trunk ∧ (s.sc p).steeringOf u.number ≠ none := by
  rw [State.steeredUnits, List.mem_filter, mem_segmentStations law, Option.isSome_iff_ne_none, and_assoc]

theorem steeredUnits_sorted {s : State} (law : s.geometryLaw = true) (p : Pair) (f : Station → Bool) :
    rising (((s.steeredUnits p).filter f).map (·.delay)) = true :=
  (rising_iff _).mpr (List.pairwise_map.mpr (((segmentStations_sorted law .trunk).filter _).filter _))

/-- The units that a plan sends STEER TRUNK to (R34). -/
def State.steeredTrunk (s : State) (p : Pair) (v : View) (entry : Bool) : List Station :=
  (s.steeredUnits p).filter fun u =>
    (s.ownUnit v != some u.number && (s.sc p).steeringOf u.number == some .branch) ||
      (v == .trunk && entry && (s.sc p).steeringOf u.number == some .unknown)

/-- The units that a plan sends STEER BRANCH to (R34). -/
def State.steeredBranch (s : State) (p : Pair) (v : View) : List Station :=
  (s.steeredUnits p).filter fun u => s.ownUnit v == some u.number && (s.sc p).steeringOf u.number == some .trunk

/-- The model's plan is the telegrams to these units. -/
theorem steeringPlan_eq (s : State) (p : Pair) (v : View) (entry : Bool) :
    s.steeringPlan p v entry = steerTelegrams (s.steeredTrunk p v entry) (s.steeredBranch p v) := by
  cases v with
  | trunk =>
    have none : s.steeredBranch p .trunk = [] := List.filter_eq_nil_iff.mpr fun u _ => by simp [State.ownUnit]
    rw [none, steerTelegrams, List.map_nil, List.append_nil]
    refine congrArg (List.map _) (List.filter_congr fun u _ => ?_)
    have foreign : (s.ownUnit .trunk != some u.number) = true := rfl
    rw [foreign]
    rfl
  | branch b =>
    rw [steerTelegrams, State.steeringPlan]
    refine congrArg₂ _ (congrArg (List.map _) (List.filter_congr fun u _ => ?_)) rfl
    simp

theorem steeringPlanOf {s : State} (law : s.geometryLaw = true) (p : Pair) (v : View) (entry : Bool) :
    s.SteeringPlanOf p v (entry = true) (s.steeredTrunk p v entry) (s.steeredBranch p v) := by
  refine ⟨fun u => ?_, fun u => ?_, steeredUnits_sorted law p _, steeredUnits_sorted law p _⟩
  · rw [State.steeredTrunk, List.mem_filter, mem_steeredUnits_iff law, State.steersTrunk]
    simp only [Bool.or_eq_true, Bool.and_eq_true, beq_iff_eq, bne_iff_ne]
    constructor
    · rintro ⟨⟨member, trunk, -⟩, plan⟩
      refine ⟨member, trunk, plan.imp (fun ⟨other, branch⟩ => ⟨branch, fun b view kind => ?_⟩) fun ⟨⟨view, enters⟩, unknown⟩ =>
        ⟨view, enters, unknown⟩⟩
      exact other ((ownUnit_iff law member).mpr ⟨b, view, kind⟩)
    · rintro ⟨member, trunk, plan⟩
      obtain ⟨branch, other⟩ | ⟨view, enters, unknown⟩ := plan
      · refine ⟨⟨member, trunk, by rw [branch]; nofun⟩, .inl ⟨fun own => ?_, branch⟩⟩
        obtain ⟨b, view, kind⟩ := (ownUnit_iff law member).mp own
        exact other b view kind
      · exact ⟨⟨member, trunk, by rw [unknown]; nofun⟩, .inr ⟨⟨view, enters⟩, unknown⟩⟩
  · rw [State.steeredBranch, List.mem_filter, mem_steeredUnits_iff law, State.steersBranch]
    simp only [Bool.and_eq_true, beq_iff_eq]
    constructor
    · rintro ⟨⟨member, -, -⟩, own, trunk⟩
      obtain ⟨b, view, kind⟩ := (ownUnit_iff law member).mp own
      exact ⟨member, b, view, kind, trunk⟩
    · rintro ⟨member, b, view, kind, trunk⟩
      exact ⟨⟨member, (geometryLaw_iff.mp law).trunk u member b kind, by rw [trunk]; nofun⟩,
        (ownUnit_iff law member).mpr ⟨b, view, kind⟩, trunk⟩

/-! ### Shadows -/

theorem mem_shadowers_iff {s : State} (law : s.geometryLaw = true) {p : Pair} {v : View} {u : Station} :
    u ∈ s.shadowers p v ↔ s.shades p v u := by
  rw [State.shadowers, List.mem_filter, mem_steeredUnits_iff law, State.shades]
  simp only [Bool.and_eq_true, bne_iff_ne, ne_eq, and_assoc]
  refine and_congr_right fun member => and_congr_right fun _ => ?_
  rw [ownUnit_iff law member]
  constructor
  · rintro ⟨held, other, notTrunk⟩
    refine ⟨fun b view kind => other ⟨b, view, kind⟩, ?_⟩
    cases steering : (s.sc p).steeringOf u.number with
    | none => exact absurd steering held
    | some v =>
      cases v with
      | trunk => exact absurd steering notTrunk
      | branch => exact .inr rfl
      | unknown => exact .inl rfl
  · rintro ⟨other, unknown | branch⟩
    · exact ⟨by rw [unknown]; nofun, fun ⟨b, view, kind⟩ => other b view kind, by rw [unknown]; nofun⟩
    · exact ⟨by rw [branch]; nofun, fun ⟨b, view, kind⟩ => other b view kind, by rw [branch]; nofun⟩

theorem beyond_iff {s : State} (law : s.geometryLaw = true) (u x : Station) : s.beyond u x = true ↔
    (x.segment = .trunk ∧ u.delay < x.delay) ∨ ∃ b, x.segment = .branch b ∧ ∃ w ∈ s.table.stations,
      w.kind = .branching b ∧ (w.number = u.number ∨ u.delay < w.delay) := by
  unfold State.beyond
  cases x.segment with
  | trunk => simp
  | branch b =>
    simp only [reduceCtorEq, false_and, false_or, Segment.branch.injEq, exists_eq_left']
    cases found : s.unit? b with
    | none => exact iff_of_false nofun fun ⟨w, member, kind, _⟩ => unit?_none.mp found w member kind
    | some w =>
      obtain ⟨member, kind⟩ := unit?_some found
      simp only [Bool.or_eq_true, beq_iff_eq, decide_eq_true_eq]
      constructor
      · exact fun far => ⟨w, member, kind, far⟩
      · rintro ⟨y, hy, same, far⟩
        rwa [Option.some.inj ((unit?_of_mem law hy same).symm.trans found)] at far

theorem isShadowed_iff {s : State} (law : s.geometryLaw = true) {p : Pair} {v : View} {x : Station} :
    s.isShadowed p v x = true ↔ s.inShadow p v x := by
  rw [State.isShadowed, List.any_eq_true, State.inShadow]
  simp only [mem_shadowers_iff law, beyond_iff law]

/-! ### The stations of a view -/

theorem mem_upTo {u x : Station} : ∀ {l : List Station}, (l.Pairwise fun r q => r.delay < q.delay) →
    (∀ r ∈ l, r.number = u.number → r = u) → u ∈ l → (x ∈ upTo u.number l ↔ x ∈ l ∧ x.delay ≤ u.delay)
  | [], _, _, member => by cases member
  | r :: rest, sorted, one, member => by
    obtain ⟨first, sorted⟩ := List.pairwise_cons.mp sorted
    unfold upTo
    by_cases here : r.number = u.number
    · obtain rfl := one r List.mem_cons_self here
      rw [if_pos (beq_self_eq_true _), List.mem_singleton, List.mem_cons]
      refine ⟨fun same => ⟨.inl same, same ▸ Nat.le_refl _⟩, ?_⟩
      rintro ⟨same | later, near⟩
      · exact same
      · exact absurd (first x later) (by omega)
    · have later : u ∈ rest := (List.mem_cons.mp member).resolve_left fun same => here (same ▸ rfl)
      rw [if_neg (by simpa using here), List.mem_cons, List.mem_cons,
        mem_upTo sorted (fun q hq => one q (List.mem_cons_of_mem _ hq)) later]
      constructor
      · rintro (rfl | ⟨hx, near⟩)
        · exact ⟨.inl rfl, (first u later).le⟩
        · exact ⟨.inr hx, near⟩
      · rintro ⟨same | hx, near⟩
        · exact .inl same
        · exact .inr ⟨hx, near⟩

theorem mem_viewStations_iff {s : State} (law : s.geometryLaw = true) {v : View} {x : Station} :
    x ∈ s.viewStations v ↔ s.inView v x := by
  have keys := (geometry_parts law).1
  cases v with
  | trunk =>
    rw [State.viewStations, mem_segmentStations law, State.inView]
    refine and_congr_right fun _ => ⟨.inl, ?_⟩
    rintro (trunk | ⟨-, b, ⟨⟩, -⟩)
    exact trunk
  | branch b =>
    unfold State.viewStations State.inView
    cases found : s.unit? b with
    | none =>
      have none := unit?_none.mp found
      simp only [found]
      refine iff_of_false List.not_mem_nil ?_
      rintro ⟨member, segment | ⟨-, b', ⟨⟩, u, hu, kind, -⟩⟩
      · obtain ⟨u, hu, kind, -⟩ := (geometryLaw_iff.mp law).beyond x member b segment
        exact none u hu kind
      · exact none u hu kind
    | some u =>
      obtain ⟨member, kind⟩ := unit?_some found
      have onTrunk : u ∈ s.segmentStations .trunk :=
        (mem_segmentStations law).mpr ⟨member, (geometryLaw_iff.mp law).trunk u member b kind⟩
      simp only [found]
      rw [List.mem_append, mem_upTo (segmentStations_sorted law .trunk) (fun r hr same => eq_of_number_eq keys
        ((mem_segmentStations law).mp hr).1 member same) onTrunk, mem_segmentStations law, mem_segmentStations law]
      constructor
      · rintro (⟨⟨hx, trunk⟩, near⟩ | ⟨hx, segment⟩)
        · exact ⟨hx, .inr ⟨trunk, b, rfl, u, member, kind, near⟩⟩
        · exact ⟨hx, .inl segment⟩
      · rintro ⟨hx, segment | ⟨trunk, b', ⟨⟩, w, hw, same, near⟩⟩
        · exact .inr ⟨hx, segment⟩
        · rw [Option.some.inj ((unit?_of_mem law hw same).symm.trans found)] at near
          exact .inl ⟨⟨hx, trunk⟩, near⟩

/-- The station of a number in a view. -/
theorem viewStation_iff {s : State} (law : s.geometryLaw = true) {v : View} {n : Nat} {x : Station} :
    (s.viewStations v).find? (·.number == n) = some x ↔ s.inView v x ∧ x.number = n := by
  constructor
  · intro found
    exact ⟨(mem_viewStations_iff law).mp (List.mem_of_find?_eq_some found), by simpa using List.find?_some found⟩
  · rintro ⟨view, rfl⟩
    have member := (mem_viewStations_iff law).mpr view
    cases found : (s.viewStations v).find? (·.number == x.number) with
    | none =>
      have differs := List.find?_eq_none.mp found x member
      simp at differs
    | some y =>
      have hy := (mem_viewStations_iff law).mp (List.mem_of_find?_eq_some found)
      have same : y.number = x.number := by simpa using List.find?_some found
      rw [eq_of_number_eq (geometry_parts law).1 hy.1 view.1 same]

/-! ### The tests of a focused request -/

theorem canTake_iff {s : State} (law : s.geometryLaw = true) (parts : s.partsLaw = true) {p : Pair} {f : FocusedRequest} :
    s.canTake p f = true ↔ s.admits p f := by
  unfold State.canTake State.admits
  rw [Bool.and_eq_true, available_iff law parts]
  refine and_congr_right fun _ => ?_
  cases found : (s.viewStations f.view).find? (·.number == f.station) with
  | none =>
    refine iff_of_false nofun ?_
    rintro ⟨x, view, number, -⟩
    rw [(viewStation_iff law).mpr ⟨view, number⟩] at found
    cases found
  | some x =>
    obtain ⟨view, number⟩ := (viewStation_iff law).mp found
    have unseen : (f.view == .trunk && s.isShadowedUnknown p f.view x) = true ↔ f.view = .trunk ∧
        ∃ u, s.shades p .trunk u ∧ (s.sc p).steeringOf u.number = some .unknown ∧ u.delay < x.delay := by
      rw [Bool.and_eq_true, beq_iff_eq]
      refine and_congr_right fun trunk => ?_
      rw [trunk] at view ⊢
      have segment : x.segment = .trunk := view.2.elim id fun ⟨trunk, _⟩ => trunk
      rw [State.isShadowedUnknown, List.any_eq_true]
      refine exists_congr fun u => and_congr (mem_shadowers_iff law) ?_
      rw [Bool.and_eq_true, beq_iff_eq, State.beyond, segment]
      exact and_congr_right fun _ => decide_eq_true_iff
    dsimp only
    rw [Bool.not_eq_true', ← Bool.not_eq_true, unseen]
    constructor
    · exact fun clear => ⟨x, view, number, clear⟩
    · rintro ⟨y, view', number', clear⟩
      rwa [eq_of_number_eq (geometry_parts law).1 view'.1 view.1 (number'.trans number.symm)] at clear

theorem canSee_iff {s : State} (law : s.geometryLaw = true) {p : Pair} {f : FocusedRequest} :
    s.canSee p f = true ↔ s.sees p f := by
  unfold State.canSee State.sees
  rw [Bool.and_eq_true, viewTurned_iff law]
  refine and_congr_right fun _ => ?_
  cases found : (s.viewStations f.view).find? (·.number == f.station) with
  | none =>
    refine iff_of_false nofun ?_
    rintro ⟨x, view, number, -⟩
    rw [(viewStation_iff law).mpr ⟨view, number⟩] at found
    cases found
  | some x =>
    obtain ⟨view, number⟩ := (viewStation_iff law).mp found
    dsimp only
    rw [Bool.not_eq_true', ← Bool.not_eq_true, isShadowed_iff law]
    constructor
    · exact fun clear => ⟨x, view, number, clear⟩
    · rintro ⟨y, view', number', clear⟩
      rwa [eq_of_number_eq (geometry_parts law).1 view'.1 view.1 (number'.trans number.symm)] at clear

end Sys2Proof.Machine
end

section
/-! PROOFS. A pair's request at the Correlator Pool: it waits there, or its round runs (R31, R42, R50 to R53). -/

namespace Sys2Proof.Machine

/-! ### Requests -/

theorem mem_insertRequest_self (p : Pair) (k : RoundKind) (l : List (Pair × RoundKind)) : (p, k) ∈ insertRequest p k l := by
  induction l with
  | nil => exact List.mem_cons_self
  | cons e l ih =>
    unfold insertRequest
    split
    · exact List.mem_cons_self
    · split
      · exact List.mem_cons_self
      · exact List.mem_cons_of_mem _ ih

/-- A FOCUSED request goes before any other (R51). -/
theorem CorrelatorPool.chosen_focused {c : CorrelatorPool} {p : Pair} (focused : (p, RoundKind.focused) ∈ c.presented)
    {e : Pair × RoundKind} (chosen : c.chosen = some e) : e.2 = .focused := by
  obtain ⟨q, _, found⟩ := List.exists_of_findSome?_eq_some chosen
  have member := List.mem_of_find?_eq_some found
  have some : c.presented.any (·.2 == .focused) = true := List.any_eq_true.mpr ⟨_, focused, rfl⟩
  unfold CorrelatorPool.allowed at member
  rw [if_pos some] at member
  simpa using (List.mem_filter.mp member).2

/-! ### A request that waits, and a round that runs -/

/-- The focus of the round that a controller plans. -/
def SurveyController.roundFocus (c : SurveyController) : Option (Nat × Level) :=
  match c.roundKind.getD .regular, c.focused with
  | .focused, some f => some (f.station, f.level)
  | _, _ => none

/-- The round is the one that the controller plans for the pair. -/
structure RoundDefinition.IsOf (d : RoundDefinition) (p : Pair) (c : SurveyController) : Prop where
  pair : d.pair = p
  view : d.view = c.roundView.getD .trunk
  kind : d.kind = c.roundKind.getD .regular
  focus : d.focus = c.roundFocus

theorem roundDefinition_isOf {s : State} {p : Pair} {c : SurveyController} (sc : s.sc p = c) :
    (s.roundDefinition p).IsOf p c := by
  subst sc
  exact ⟨rfl, rfl, rfl, rfl⟩

/-- The pair's request is presented, its controller as it asked. -/
structure State.Waits (t : State) (p : Pair) (c : SurveyController) (kind : RoundKind) : Prop where
  sc : t.sc p = c
  asked : (p, kind) ∈ t.pool.presented

/-- The round that the controller asked for runs, from its first burst. -/
structure State.RunsFirst (t : State) (p : Pair) (c : SurveyController) : Prop where
  state : (t.sc p).state = .running
  unfocused : (t.sc p).focused = none
  gone : ∀ e ∈ t.pool.presented, e.1 ≠ p
  round : ∃ k r, t.pool.correlators.get k = .running r 0 t.line.terminal ∧ r.definition.IsOf p c
  measuring : ∀ n l, c.roundFocus = some (n, l) → ∀ x, t.context l = some x → x.phase = .measuring

theorem grantTo_sc_self (s : State) (k : CorrelatorNo) (p : Pair) (kind : RoundKind) :
    (s.grantTo k p kind).sc p = { s.sc p with
      state := .running, lastView := some (s.roundDefinition p).view,
      focused := if kind == .focused then none else (s.sc p).focused } := by
  unfold State.grantTo
  dsimp only
  split <;> exact Oct.get_set_self _ _ _

/-- A grant's context measures; another context stands. -/
theorem grantTo_context (s : State) (k : CorrelatorNo) (p : Pair) (kind : RoundKind) (l : Level) :
    (s.grantTo k p kind).context l = s.context l ∨ ∀ x, (s.grantTo k p kind).context l = some x → x.phase = .measuring := by
  obtain contexts | ⟨n, m, -, contexts⟩ := grantTo_contexts s k p kind
  · exact .inl (context_of_eq contexts l)
  · rw [context_of_eq contexts, context_updateContext]
    split
    · refine .inr fun x found => ?_
      obtain ⟨c, -, rfl⟩ := Option.map_eq_some_iff.mp found
      rfl
    · exact .inl rfl

theorem State.Waits.grantTo_other {s : State} {p : Pair} {c : SurveyController} {kind : RoundKind} (h : s.Waits p c kind)
    {q : Pair} (other : q ≠ p) (k : CorrelatorNo) (kind' : RoundKind) : (s.grantTo k q kind').Waits p c kind := by
  refine ⟨(grantTo_sc_ne s k kind' other.symm).trans h.sc, ?_⟩
  rw [grantTo_pool]
  exact List.mem_filter.mpr ⟨h.asked, by simpa using other.symm⟩

theorem State.RunsFirst.grantTo {s : State} {p : Pair} {c : SurveyController} (h : s.RunsFirst p c) {k : CorrelatorNo}
    (free : s.pool.correlators.get k = .free) {q : Pair} {kind : RoundKind} (asked : (q, kind) ∈ s.pool.presented) :
    (s.grantTo k q kind).RunsFirst p c := by
  have other : q ≠ p := h.gone _ asked
  have sc := grantTo_sc_ne s k kind other.symm
  refine ⟨sc ▸ h.state, sc ▸ h.unfocused, fun e he => ?_, ?_, fun n l focus x found => ?_⟩
  · rw [grantTo_pool] at he
    exact h.gone e (List.mem_of_mem_filter he)
  · obtain ⟨j, r, runs, isOf⟩ := h.round
    refine ⟨j, r, ?_, isOf⟩
    have apart : j ≠ k := by
      rintro rfl
      rw [free] at runs
      cases runs
    rw [grantTo_pool, (only_grantTo s k q kind).line_eq]
    exact (Quad.get_set_ne _ _ apart).trans runs
  · obtain same | measures := grantTo_context s k q kind l
    · rw [same] at found
      exact h.measuring n l focus x found
    · exact measures x found

theorem State.Waits.granted {s : State} {p : Pair} {c : SurveyController} {kind : RoundKind} (h : s.Waits p c kind)
    (k : CorrelatorNo) {kind' : RoundKind} (leaves : kind' = .focused ∨ c.focused = none) :
    (s.grantTo k p kind').RunsFirst p c := by
  have sc := grantTo_sc_self s k p kind'
  rw [h.sc] at sc
  refine ⟨by rw [sc], ?_, fun e he => ?_, ?_, fun n l focus x found => ?_⟩
  · rw [sc]
    obtain rfl | none := leaves
    · rfl
    · dsimp only
      rw [none, ite_self]
  · rw [grantTo_pool] at he
    simpa using (List.mem_filter.mp he).2
  · refine ⟨k, ⟨s.roundDefinition p, s.snapshotOf (s.roundDefinition p).view, []⟩, ?_, roundDefinition_isOf h.sc⟩
    rw [grantTo_pool, (only_grantTo s k p kind').line_eq]
    exact Quad.get_set_self _ _ _
  · have written : (s.grantTo k p kind').contexts = (s.updateContext l fun c => { c with phase := .measuring }).contexts := by
      have defined : (s.roundDefinition p).focus = some (n, l) := (roundDefinition_isOf h.sc).focus.trans focus
      unfold State.grantTo
      dsimp only
      rw [defined]
      rfl
    rw [context_of_eq written, context_updateContext, if_pos rfl] at found
    obtain ⟨y, -, rfl⟩ := Option.map_eq_some_iff.mp found
    rfl

/-- The request is presented still, or its round runs. -/
def State.Asked (t : State) (p : Pair) (c : SurveyController) (kind : RoundKind) : Prop :=
  t.Waits p c kind ∨ t.RunsFirst p c

theorem State.Asked.grantOne {s : State} {p : Pair} {c : SurveyController} {kind : RoundKind} (h : s.Asked p c kind)
    (leaves : kind = .focused ∨ c.focused = none) : s.grantOne.Asked p c kind := by
  unfold State.grantOne
  split
  next k q kind' free chosen =>
    have empty := CorrelatorPool.freeCorrelator_free free
    obtain waits | runs := h
    · by_cases same : q = p
      · subst same
        refine .inr (waits.granted k (leaves.imp_left fun focused => ?_))
        exact CorrelatorPool.chosen_focused (focused ▸ waits.asked) chosen
      · exact .inl (waits.grantTo_other same k kind')
    · exact .inr (runs.grantTo empty (CorrelatorPool.chosen_mem chosen))
  next => exact h

theorem State.Asked.grantAll {s : State} {p : Pair} {c : SurveyController} {kind : RoundKind} (h : s.Asked p c kind)
    (leaves : kind = .focused ∨ c.focused = none) : s.grantAll.Asked p c kind :=
  (((h.grantOne leaves).grantOne leaves).grantOne leaves).grantOne leaves

/-- What a controller that asks the Pool comes to, its request not being held back. -/
theorem askPool_asked {s : State} {p : Pair} {kind : RoundKind} (roundKind : (s.sc p).roundKind = some kind)
    (goes : s.heldBack ((s.sc p).roundView.getD .trunk) = false) (leaves : kind = .focused ∨ (s.sc p).focused = none) :
    (s.askPool p).Asked p { s.sc p with state := .waiting } kind := by
  have eq : s.askPool p = (s.setSc p { s.sc p with state := .waiting }).present p kind := by
    unfold State.askPool
    dsimp only
    rw [if_neg, roundKind]
    · rfl
    · change ¬s.heldBack ((s.sc p).roundView.getD .trunk) = true
      rw [goes]
      exact Bool.false_ne_true
  rw [eq]
  refine State.Asked.grantAll (.inl ⟨State.sc_setSc_self _ _ _, ?_⟩) leaves
  exact mem_insertRequest_self p kind _

theorem askPool_held {s : State} {p : Pair} (held : s.heldBack ((s.sc p).roundView.getD .trunk) = true) :
    s.askPool p = s.setSc p { s.sc p with state := .waiting } := by
  unfold State.askPool
  exact if_pos held

theorem heldBack_iff {s : State} (law : s.geometryLaw = true) (v : View) :
    s.heldBack v = true ↔ v = .trunk ∧ ∀ r ∈ s.table.stations, r.segment ≠ .trunk := by
  rw [State.heldBack, Bool.and_eq_true, beq_iff_eq, index_isEmpty law]

/-! ### Steering telegrams submitted -/

theorem submits_eq {p : Pair} (plan : List Telegram) : ∀ {s : State}, (s.sc p).role = .driving →
    plan.foldl (State.submit · p) s = s.setTc p (plan.foldl TelegramController.submit (s.tc p)) := by
  induction plan with
  | nil =>
    intro s _
    rw [List.foldl_nil, List.foldl_nil, State.setTc, State.tc, Oct.set_get_self]
    rfl
  | cons t plan ih =>
    intro s driving
    have first : s.submit p t = s.setTc p ((s.tc p).submit t) := if_pos (by rw [State.driving, driving]; rfl)
    rw [List.foldl_cons, List.foldl_cons, first, ih (s := s.setTc p ((s.tc p).submit t)) driving, State.tc_setTc_self]
    change s.setTelegrams ((s.telegrams.set p _).set p _) = _
    rw [Oct.set_set]
    rfl

theorem has_submit {c : TelegramController} {w : Telegram} (notPoll : w.isPoll = false) (h : c.has w) (t : Telegram) :
    (c.submit t).has w := by
  unfold TelegramController.submit
  split
  · exact h.imp_left fun queued => mem_enqueue.mpr (.inr queued)
  · split
    · exact h.imp_left fun queued => mem_enqueue.mpr (.inr (List.mem_filter.mpr ⟨queued, by simpa using notPoll⟩))
    · exact h.imp_right fun waits => mem_enqueue.mpr (.inr waits)

theorem has_submits {w : Telegram} (notPoll : w.isPoll = false) (plan : List Telegram) {c : TelegramController}
    (h : w ∈ plan ∨ c.has w) : (plan.foldl TelegramController.submit c).has w := by
  induction plan generalizing c with
  | nil => exact h.resolve_left List.not_mem_nil
  | cons t plan ih =>
    refine ih ?_
    obtain member | has := h
    · obtain rfl | later := List.mem_cons.mp member
      · exact .inr (submit_has c w)
      · exact .inl later
    · exact .inr (has_submit notPoll has t)

theorem steerTelegrams_notPoll {us ws : List Station} {w : Telegram} (h : w ∈ steerTelegrams us ws) : w.isPoll = false := by
  obtain h | h := List.mem_append.mp h <;> obtain ⟨u, -, rfl⟩ := List.mem_map.mp h <;> rfl

end Sys2Proof.Machine
end

section
/-! PROOFS. Regular and focused plans; the end of steering; focused requests that arrive and are withdrawn: O47. -/

namespace Sys2Proof.Machine

/-! ### What a plan reads of its controller -/

theorem steeringOf_congr {c d : SurveyController} (steering : d.steering = c.steering) (n : Nat) :
    d.steeringOf n = c.steeringOf n := by rw [SurveyController.steeringOf, steering, SurveyController.steeringOf]

section Steering
variable {s : State} {p : Pair} {c : SurveyController} (steering : c.steering = (s.sc p).steering)
include steering

theorem steeringOf_setSc (n : Nat) : ((s.setSc p c).sc p).steeringOf n = (s.sc p).steeringOf n := by
  rw [State.sc_setSc_self]
  exact steeringOf_congr steering n

theorem available_setSc : (s.setSc p c).available p = s.available p := by
  funext v
  have connection (b : Branch) : (s.setSc p c).connectionOf b p = s.connectionOf b p := rfl
  have unit (b : Branch) : (s.setSc p c).unit? b = s.unit? b := rfl
  unfold State.available
  simp only [steeringOf_setSc steering, connection, unit]
  rfl

theorem steeringPlan_setSc (v : View) (entry : Bool) : (s.setSc p c).steeringPlan p v entry = s.steeringPlan p v entry := by
  have units : (s.setSc p c).steeredUnits p = s.steeredUnits p := by
    unfold State.steeredUnits
    simp only [steeringOf_setSc steering]
    rfl
  have own : (s.setSc p c).ownUnit v = s.ownUnit v := rfl
  rw [steeringPlan_eq, steeringPlan_eq]
  unfold State.steeredTrunk State.steeredBranch
  simp only [units, own, steeringOf_setSc steering]

theorem shades_setSc (v : View) (u : Station) : (s.setSc p c).shades p v u ↔ s.shades p v u := by
  unfold State.shades
  rw [steeringOf_setSc steering]
  rfl

theorem sees_setSc (f : FocusedRequest) : (s.setSc p c).sees p f ↔ s.sees p f := by
  unfold State.sees State.turnedTo State.inShadow
  simp only [steeringOf_setSc steering, shades_setSc steering]
  rfl

theorem viewAvailable_setSc (v : View) : (s.setSc p c).viewAvailable p v ↔ s.viewAvailable p v := by
  unfold State.viewAvailable
  simp only [steeringOf_setSc steering]
  rfl

theorem admits_setSc (f : FocusedRequest) : (s.setSc p c).admits p f ↔ s.admits p f := by
  unfold State.admits
  simp only [viewAvailable_setSc steering, steeringOf_setSc steering, shades_setSc steering]
  rfl

end Steering

/-! ### Plans run -/

theorem runPlan_steers {s : State} {p : Pair} {plan : List Telegram} (driving : (s.sc p).role = .driving)
    (steers : plan ≠ []) : s.runPlan p plan =
      (s.setSc p { s.sc p with state := .steering }).setTc p (plan.foldl TelegramController.submit (s.tc p)) := by
  unfold State.runPlan
  rw [if_neg (by simpa using steers)]
  refine submits_eq (s := s.setSc p { s.sc p with state := .steering }) plan ?_
  rw [State.sc_setSc_self]
  exact driving

theorem runPlan_asks (s : State) (p : Pair) : s.runPlan p [] = s.askPool p := rfl

/-- A plan sets the survey state, whatever it was. -/
theorem runPlan_setSc_state (s : State) (p : Pair) (c : SurveyController) (st : SurveyState) (plan : List Telegram) :
    (s.setSc p { c with state := st }).runPlan p plan = (s.setSc p c).runPlan p plan := by
  unfold State.runPlan State.askPool
  simp only [State.sc_setSc_self, State.setSc_setSc]

/-! ### Regular plans -/

/-- The plan moves the rotation on (R32, R35). -/
def State.rotates (s : State) (p : Pair) (move : Bool) : Bool :=
  move || decide ((s.settings.get p).dwell ≤ (s.sc p).dwellCount) || !s.available p (s.sc p).rotation

/-- The view of a regular plan (R32). -/
def State.planView (s : State) (p : Pair) (move : Bool) : View :=
  if s.rotates p move then s.nextView p (s.sc p).rotation else (s.sc p).rotation

/-- The controller with a regular round planned (R31, R32). -/
def State.planned (s : State) (p : Pair) (move : Bool) : SurveyController :=
  { s.sc p with
    rotation := s.planView p move, dwellCount := if s.rotates p move then 0 else (s.sc p).dwellCount,
    roundView := some (s.planView p move), roundKind := some .regular, planStale := false }

/-- The plan is an entry to the TRUNK view, if that is its view (R30, R34). -/
def State.enters (s : State) (p : Pair) (move first : Bool) : Bool :=
  first || s.rotates p move || (s.sc p).lastView != some .trunk

/-- The telegrams of a regular plan. -/
def State.regularTelegrams (s : State) (p : Pair) (move first : Bool) : List Telegram :=
  steerTelegrams (s.steeredTrunk p (s.planView p move) (s.enters p move first)) (s.steeredBranch p (s.planView p move))

theorem steeredTrunk_entry (s : State) (p : Pair) (v : View) (e : Bool) :
    s.steeredTrunk p v (v == .trunk && e) = s.steeredTrunk p v e := by
  unfold State.steeredTrunk
  refine List.filter_congr fun u _ => ?_
  rw [← Bool.and_assoc (v == .trunk), Bool.and_self]

theorem planRegular_eq (s : State) (p : Pair) (move first : Bool) :
    s.planRegular p move first = (s.setSc p (s.planned p move)).runPlan p (s.regularTelegrams p move first) := by
  have plan := steeringPlan_setSc (s := s) (p := p) (c := s.planned p move) rfl (s.planView p move)
    (s.planView p move == .trunk && s.enters p move first)
  rw [steeringPlan_eq s, steeredTrunk_entry] at plan
  exact congrArg (State.runPlan _ p) plan

/-- A regular plan overwrites what an earlier plan has written. -/
theorem planRegular_setSc {s : State} {p : Pair} {c d : SurveyController} (same : d = { c with
      state := d.state, roundView := d.roundView, roundKind := d.roundKind, planStale := d.planStale })
    (move first : Bool) : (s.setSc p d).planRegular p move first = (s.setSc p c).planRegular p move first := by
  have steering : d.steering = c.steering := by rw [same]
  have again (x : State) : (x.setSc p d) = (x.setSc p c).setSc p d := (State.setSc_setSc x p c d).symm
  have steering' : d.steering = ((s.setSc p c).sc p).steering := by rw [State.sc_setSc_self, steering]
  have available : (s.setSc p d).available p = (s.setSc p c).available p := by
    rw [again s]
    exact available_setSc steering'
  have plan (v : View) (e : Bool) : (s.setSc p d).steeringPlan p v e = (s.setSc p c).steeringPlan p v e := by
    rw [again s]
    exact steeringPlan_setSc steering' v e
  have rotates : (s.setSc p d).rotates p move = (s.setSc p c).rotates p move := by
    have settings (x : SurveyController) : (s.setSc p x).settings = s.settings := rfl
    unfold State.rotates
    rw [available, State.sc_setSc_self, State.sc_setSc_self, same, settings, settings]
  have view : (s.setSc p d).planView p move = (s.setSc p c).planView p move := by
    unfold State.planView State.nextView
    rw [rotates, available, State.sc_setSc_self, State.sc_setSc_self, same]
  have enters : (s.setSc p d).enters p move first = (s.setSc p c).enters p move first := by
    unfold State.enters
    rw [rotates, State.sc_setSc_self, State.sc_setSc_self, same]
  have telegrams : (s.setSc p d).regularTelegrams p move first = (s.setSc p c).regularTelegrams p move first := by
    have whole := plan ((s.setSc p c).planView p move) ((s.setSc p c).enters p move first)
    rw [steeringPlan_eq, steeringPlan_eq] at whole
    rw [State.regularTelegrams, view, enters, whole, State.regularTelegrams]
  have planned : (s.setSc p d).planned p move = { (s.setSc p c).planned p move with state := d.state } := by
    unfold State.planned
    rw [view, rotates, State.sc_setSc_self, State.sc_setSc_self, same]
  rw [planRegular_eq, planRegular_eq, telegrams, planned, State.setSc_setSc, State.setSc_setSc]
  exact runPlan_setSc_state s p ((s.setSc p c).planned p move) d.state _

/-- What a regular plan leaves of its controller. -/
theorem planRegular_sc (s : State) (p : Pair) (move first : Bool) : ∃ st v f,
    (s.planRegular p move first).sc p = { s.planned p move with state := st, lastView := v, focused := f } ∧
    (f = (s.sc p).focused ∨ f = none) := by
  have before : (s.setSc p (s.planned p move)).sc p = s.planned p move := State.sc_setSc_self _ _ _
  have ran := runPlan_sc (s.setSc p (s.planned p move)) p (s.regularTelegrams p move first)
  rw [before, ← planRegular_eq] at ran
  obtain steers | ⟨stands, -, focused⟩ := ran
  · exact ⟨_, _, _, steers, .inl rfl⟩
  · exact ⟨_, _, _, stands, focused⟩

/-! ### The boundary without a focused request -/

theorem plan_regular {s : State} {p : Pair} (driving : (s.sc p).role = .driving) (unfocused : (s.sc p).focused = none) :
    s.plan p = (s.planRegular p false false, none) := by
  unfold State.plan
  rw [if_pos (by rw [State.driving, driving]; rfl), unfocused]

theorem rotates_iff {s : State} (law : s.geometryLaw = true) (parts : s.partsLaw = true) (p : Pair) :
    s.rotates p false = true ↔ (s.settings.get p).dwell ≤ (s.sc p).dwellCount ∨ ¬s.viewAvailable p (s.sc p).rotation := by
  simp [State.rotates, ← available_iff law parts]

theorem enters_iff {s : State} (law : s.geometryLaw = true) (parts : s.partsLaw = true) (p : Pair) :
    s.enters p false false = true ↔ ((s.settings.get p).dwell ≤ (s.sc p).dwellCount ∨
      ¬s.viewAvailable p (s.sc p).rotation) ∨ (s.sc p).lastView ≠ some .trunk := by
  simp [State.enters, ← rotates_iff law parts]

/-- With nothing to steer, the controller of a regular plan asks for a correlator (R31, R40). -/
theorem askPool_planned {s : State} (law : s.geometryLaw = true) {p : Pair} (unfocused : (s.sc p).focused = none) :
    let t := (s.setSc p (s.planned p false)).askPool p
    let v := s.planView p false
    (v = .trunk → (∀ r ∈ s.table.stations, r.segment ≠ .trunk) → (t.sc p).state = .waiting ∧ t.pool = s.pool) ∧
    ((v ≠ .trunk ∨ ∃ r ∈ s.table.stations, r.segment = .trunk) →
      ((t.sc p).state = .waiting ∧ (p, RoundKind.regular) ∈ t.pool.presented) ∨
      ((t.sc p).state = .running ∧ ∃ k r, t.pool.correlators.get k = .running r 0 s.line.terminal ∧
        r.definition.pair = p ∧ r.definition.view = v ∧ r.definition.kind = .regular)) := by
  have before : (s.setSc p (s.planned p false)).sc p = s.planned p false := State.sc_setSc_self _ _ _
  have held : (s.setSc p (s.planned p false)).heldBack (((s.setSc p (s.planned p false)).sc p).roundView.getD .trunk) = true ↔
      s.planView p false = .trunk ∧ ∀ r ∈ s.table.stations, r.segment ≠ .trunk := by
    rw [before]
    exact heldBack_iff law (s.planView p false)
  refine ⟨fun view empty => ?_, fun goes => ?_⟩
  · rw [askPool_held (held.mpr ⟨view, empty⟩), State.sc_setSc_self]
    exact ⟨rfl, rfl⟩
  · have notHeld := mt held.mp fun ⟨view, empty⟩ =>
      goes.elim (fun other => other view) fun ⟨r, hr, on⟩ => empty r hr on
    have asked := askPool_asked (s := s.setSc p (s.planned p false)) (p := p) (kind := .regular) (by rw [before]; rfl)
      (by simpa using notHeld) (.inr (by rw [before]; exact unfocused))
    rw [before] at asked
    obtain waits | runs := asked
    · exact .inl ⟨by rw [waits.sc], waits.asked⟩
    · obtain ⟨k, r, running, isOf⟩ := runs.round
      rw [(only_askPool _ p).line_eq] at running
      exact .inr ⟨runs.state, k, r, running, isOf.pair, isOf.view, isOf.kind⟩

/-- The first conjunct of O47: a boundary with no focused request. -/
theorem plan_boundary {p : Pair} {s : State} (law : s.geometryLaw = true) (parts : s.partsLaw = true)
    (driving : (s.sc p).role = .driving) (unfocused : (s.sc p).focused = none) :
    let c := s.sc p
    let moves := (s.settings.get p).dwell ≤ c.dwellCount ∨ ¬s.viewAvailable p c.rotation
    ∃ (t : State) (v : View) (us ws : List Station),
      s.plan p = (t, none) ∧ Only [.pool, .survey, .contexts, .telegrams] s t ∧
      (¬moves → v = c.rotation ∧ (t.sc p).dwellCount = c.dwellCount) ∧
      (moves → s.rotationMoves p c.rotation v ∧ (t.sc p).dwellCount = 0) ∧
      ((t.sc p).rotation = v ∧ (t.sc p).roundView = some v ∧ (t.sc p).roundKind = some .regular ∧
        (t.sc p).focused = none ∧ (t.sc p).steering = c.steering ∧ (t.sc p).roundCounter = c.roundCounter) ∧
      s.SteeringPlanOf p v (moves ∨ c.lastView ≠ some .trunk) us ws ∧
      let plan := steerTelegrams us ws
      (plan ≠ [] → (t.sc p).state = .steering ∧ t.pool = s.pool ∧ t.contexts = s.contexts ∧
        t.telegrams = s.telegrams.set p (plan.foldl TelegramController.submit (s.tc p)) ∧
        ∀ w ∈ plan, (t.tc p).has w) ∧
      (plan = [] → t.telegrams = s.telegrams ∧
        (v = .trunk → (∀ r ∈ s.table.stations, r.segment ≠ .trunk) → (t.sc p).state = .waiting ∧ t.pool = s.pool) ∧
        ((v ≠ .trunk ∨ ∃ r ∈ s.table.stations, r.segment = .trunk) →
          ((t.sc p).state = .waiting ∧ (p, RoundKind.regular) ∈ t.pool.presented) ∨
          ((t.sc p).state = .running ∧ ∃ k r, t.pool.correlators.get k = .running r 0 s.line.terminal ∧
            r.definition.pair = p ∧ r.definition.view = v ∧ r.definition.kind = .regular))) := by
  have moves := rotates_iff law parts p
  have entry : (s.enters p false false = true) = _ := propext (enters_iff law parts p)
  obtain ⟨st, l, f, sc, focused⟩ := planRegular_sc s p false false
  have none : f = .none := focused.elim (fun same => same.trans unfocused) id
  have steering := steeringPlanOf law p (s.planView p false) (s.enters p false false)
  rw [entry] at steering
  refine ⟨s.planRegular p false false, s.planView p false, _, _, plan_regular driving unfocused, only_planRegular s p _ _,
    fun stays => ?_, fun rotates => ?_, ?_, steering, fun steers => ?_, fun nothing => ?_⟩
  · have still : s.rotates p false = false := by simpa using mt moves.mp stays
    rw [sc, State.planView, State.planned, still]
    exact ⟨rfl, rfl⟩
  · have on : s.rotates p false = true := moves.mpr rotates
    rw [sc, State.planView, State.planned, on]
    exact ⟨rotationMoves_nextView law parts p _, rfl⟩
  · rw [sc]
    exact ⟨rfl, rfl, rfl, none, rfl, rfl⟩
  · have before : (s.setSc p (s.planned p false)).sc p = s.planned p false := State.sc_setSc_self _ _ _
    have eq := runPlan_steers (s := s.setSc p (s.planned p false)) (p := p) (plan := s.regularTelegrams p false false)
      (by rw [before]; exact driving) steers
    rw [planRegular_eq, eq]
    refine ⟨?_, rfl, rfl, rfl, fun w hw => ?_⟩
    · change ((((s.setSc p (s.planned p false)).setSc p _).sc p).state) = _
      rw [State.sc_setSc_self]
    · rw [State.tc_setTc_self]
      exact has_submits (steerTelegrams_notPoll hw) _ (.inl hw)
  · have eq : s.planRegular p false false = (s.setSc p (s.planned p false)).askPool p := by
      rw [planRegular_eq]
      have empty : s.regularTelegrams p false false = [] := nothing
      rw [empty, runPlan_asks]
    rw [eq]
    exact ⟨(only_askPool _ p).telegrams_eq, askPool_planned law unfocused⟩

end Sys2Proof.Machine
end

section
/-! PROOFS. Focused requests at a boundary, after their steering, on arrival and withdrawn: O47. -/

namespace Sys2Proof.Machine

theorem setSc_sc (s : State) (p : Pair) : s.setSc p (s.sc p) = s := by
  rw [State.setSc, State.sc, Oct.set_get_self]
  rfl

/-! ### Refusals -/

/-- A refusal leaves nothing of the request, whatever of it had been written (R43). -/
theorem refuseFocused_refused {s : State} {p : Pair} {f : FocusedRequest} (driving : (s.sc p).role = .driving)
    {c : SurveyController} (same : c = { s.sc p with
      state := c.state, focused := c.focused, roundView := c.roundView, roundKind := c.roundKind, planStale := c.planStale }) :
    FocusRefused s p f ((s.setSc p c).refuseFocused p f) := by
  have unfocused : (s.unfocused p).sc p = { s.sc p with focused := none } := Oct.get_set_self _ _ _
  have plan := plan_regular (s := s.unfocused p) (p := p) (by rw [unfocused]; exact driving) (by rw [unfocused])
  unfold FocusRefused State.refuseFocused
  rw [plan, State.sc_setSc_self, State.setSc_setSc]
  refine Prod.ext (planRegular_setSc (c := { s.sc p with focused := none }) ?_ false false) rfl
  rw [same]

/-! ### Requests taken -/

/-- The controller of a pair whose request is taken, its steering not yet begun (R31, R42). -/
def State.takingController (s : State) (p : Pair) (f : FocusedRequest) : SurveyController :=
  { s.sc p with
    focused := some { f with taken := true }, roundView := some f.view, roundKind := some .focused, planStale := false }

def State.taking (s : State) (p : Pair) (f : FocusedRequest) : State :=
  s.setSc p (s.takingController p f)

theorem taking_sc (s : State) (p : Pair) (f : FocusedRequest) : (s.taking p f).sc p = s.takingController p f :=
  State.sc_setSc_self _ _ _

/-- A station is in the view of a request that passes the second test, so that it is not held back. -/
theorem sees_goes {s : State} (law : s.geometryLaw = true) {p : Pair} {f : FocusedRequest} (sees : s.sees p f) :
    s.heldBack f.view = false := by
  obtain ⟨-, x, view, -, -⟩ := sees
  by_contra held
  obtain ⟨trunk, empty⟩ := (heldBack_iff law f.view).mp (by simpa using held)
  rw [trunk] at view
  exact empty x view.1 (view.2.elim id fun ⟨on, _⟩ => on)

/-- What a taken request with nothing left to steer comes to (R42, R43). -/
theorem focusAsked_askFocused {s : State} (law : s.geometryLaw = true) {p : Pair} {f : FocusedRequest}
    (driving : (s.sc p).role = .driving) : FocusAsked s p f ((s.taking p f).askFocused p f) := by
  have test : (s.taking p f).canSee p f = true ↔ s.sees p f :=
    (canSee_iff (s := s.taking p f) law).trans (sees_setSc (s := s) (p := p) (c := s.takingController p f) rfl f)
  have sc := taking_sc s p f
  refine ⟨fun sees => ?_, fun blind => ?_⟩
  · have eq : (s.taking p f).askFocused p f = ((s.taking p f).askPool p, none) := if_pos (test.mpr sees)
    have goes : (s.taking p f).heldBack (((s.taking p f).sc p).roundView.getD .trunk) = false := by
      rw [sc]
      exact sees_goes law sees
    have asked := askPool_asked (s := s.taking p f) (p := p) (kind := .focused) (by rw [sc]; rfl) goes (.inl rfl)
    rw [eq]
    refine ⟨rfl, (only_setSc s p _).up.trans (only_askPool _ p), ?_⟩
    rw [sc] at asked
    obtain waits | runs := asked
    · refine .inl ⟨waits.sc.trans ?_, waits.asked⟩
      exact (State.sc_setSc_self s p _).symm
    · obtain ⟨k, r, running, isOf⟩ := runs.round
      rw [(only_askPool _ p).line_eq] at running
      refine .inr ⟨runs.state, runs.unfocused, ⟨k, r, running, isOf.pair, isOf.view, isOf.kind, isOf.focus⟩, fun c context => ?_⟩
      have live : (s.taking p f).live p := .inl (by
        rw [State.driving, sc]
        exact beq_iff_eq.mpr driving)
      obtain ⟨g, phased⟩ := (planSteps_askPool live).phased f.level
      have before : (s.taking p f).context f.level = some c := context
      rw [before, Option.map_some] at phased
      have measures := runs.measuring f.station f.level rfl _ phased
      rw [phased]
      exact congrArg (fun ph => some { c with phase := ph }) measures
  · have eq : (s.taking p f).askFocused p f = (s.taking p f).refuseFocused p f := if_neg (mt test.mp blind)
    rw [eq]
    exact refuseFocused_refused driving rfl

/-- What a plan makes of a taken request (R34, R42). -/
theorem focusPlanned_steerFocused {s u : State} (law : s.geometryLaw = true) {p : Pair} {f : FocusedRequest}
    (driving : (s.sc p).role = .driving) (taking : u.setSc p { u.sc p with planStale := false } = s.taking p f)
    (last : (u.sc p).lastView = (s.sc p).lastView) : FocusPlanned s p f (u.steerFocused p f) := by
  have entry : ((s.sc p).lastView != some .trunk) = true ↔ (s.sc p).lastView ≠ some .trunk := bne_iff_ne
  have steering := steeringPlanOf law p f.view ((s.sc p).lastView != some .trunk)
  rw [show (((s.sc p).lastView != some .trunk) = true) = _ from propext entry] at steering
  have plan : (s.taking p f).steeringPlan p f.view (f.view == .trunk && (s.sc p).lastView != some .trunk) =
      steerTelegrams (s.steeredTrunk p f.view ((s.sc p).lastView != some .trunk)) (s.steeredBranch p f.view) := by
    rw [State.taking, steeringPlan_setSc (s := s) (p := p) (c := s.takingController p f) rfl, steeringPlan_eq, steeredTrunk_entry]
  have sc := taking_sc s p f
  have eq : u.steerFocused p f = if (steerTelegrams (s.steeredTrunk p f.view ((s.sc p).lastView != some .trunk))
      (s.steeredBranch p f.view)).isEmpty then (s.taking p f).askFocused p f else
        ((s.taking p f).runPlan p (steerTelegrams (s.steeredTrunk p f.view ((s.sc p).lastView != some .trunk))
          (s.steeredBranch p f.view)), none) := by
    unfold State.steerFocused
    dsimp only
    rw [taking, last, plan]
  refine ⟨_, _, steering, fun steers => ?_, fun nothing => ?_⟩
  · rw [eq, if_neg (by simpa using steers), runPlan_steers (by rw [sc]; exact driving) steers, sc, State.taking,
      State.setSc_setSc]
    rfl
  · rw [eq, if_pos (by rw [nothing]; rfl)]
    exact focusAsked_askFocused law driving

/-- The request in force is tested and taken, or refused (R31, R42, R43). -/
theorem takeFocused_taken {s : State} (law : s.geometryLaw = true) (parts : s.partsLaw = true) {p : Pair}
    {f : FocusedRequest} (driving : (s.sc p).role = .driving) :
    (s.admits p f → FocusPlanned s p f (s.takeFocused p f)) ∧ (¬s.admits p f → FocusRefused s p f (s.takeFocused p f)) := by
  have test := canTake_iff (p := p) (f := f) law parts
  refine ⟨fun admitted => ?_, fun barred => ?_⟩
  · rw [State.takeFocused, if_pos (test.mpr admitted)]
    refine focusPlanned_steerFocused law driving ?_ ?_
    · rw [State.sc_setSc_self, State.setSc_setSc]
      rfl
    · rw [State.sc_setSc_self]
      rfl
  · rw [State.takeFocused, if_neg (mt test.mp barred)]
    have refused := refuseFocused_refused (f := f) driving (c := s.sc p) rfl
    rwa [setSc_sc] at refused

theorem plan_focused {s : State} {p : Pair} {f : FocusedRequest} (driving : (s.sc p).role = .driving)
    (focused : (s.sc p).focused = some f) : s.plan p = s.takeFocused p f := by
  unfold State.plan
  rw [if_pos (by rw [State.driving, driving]; rfl), focused]

/-! ### The end of steering -/

/-- The end of steering with no focused request (R35). -/
theorem steerEnded_regular {s : State} {p : Pair} {v : View} (law : s.geometryLaw = true) (parts : s.partsLaw = true)
    (steers : (s.sc p).state = .steering) (ended : s.steersInFlight p = []) (unfocused : (s.sc p).focused = none)
    (stands : (s.sc p).planStale = false) (view : (s.sc p).roundView = some v) :
    ∃ t, s.steerEnded p = (t, none) ∧ Only [.pool, .survey, .contexts, .telegrams] s t ∧
      (s.turnedTo p v → (t.sc p).rotation = (s.sc p).rotation ∧ (t.sc p).dwellCount = (s.sc p).dwellCount ∧
        (t.sc p).roundView = some v ∧ ((t.sc p).state = .waiting ∨ (t.sc p).state = .running)) ∧
      (¬s.turnedTo p v → (t.sc p).dwellCount = 0 ∧ (t.sc p).roundView = some (t.sc p).rotation ∧
        (t.sc p).roundKind = some .regular ∧ s.rotationMoves p (s.sc p).rotation (t.sc p).rotation) := by
  have test := viewTurned_iff (p := p) (v := v) law
  have eq : s.steerEnded p = if s.viewTurned p v then (s.askPool p, none) else (s.planRegular p true false, none) := by
    unfold State.steerEnded
    dsimp only
    rw [if_pos (by rw [steers, ended]; rfl), unfocused]
    dsimp only
    rw [stands, view]
    rfl
  by_cases turned : s.turnedTo p v
  · refine ⟨s.askPool p, by rw [eq, if_pos (test.mpr turned)], (only_askPool s p).up, fun _ => ?_, fun other => absurd turned other⟩
    obtain ⟨same, state, -⟩ := askPool_granted s p
    rw [same]
    exact ⟨rfl, rfl, view, state⟩
  · refine ⟨s.planRegular p true false, by rw [eq, if_neg (mt test.mp turned)], only_planRegular s p _ _,
      fun other => absurd other turned, fun _ => ?_⟩
    obtain ⟨st, l, f, sc, -⟩ := planRegular_sc s p true false
    rw [sc]
    exact ⟨rfl, rfl, rfl, rotationMoves_nextView law parts p _⟩

/-- A request that stands as taken is in the state of one taken. -/
theorem taking_taken {s : State} {p : Pair} {f : FocusedRequest} (focused : (s.sc p).focused = some f) (taken : f.taken = true)
    (kind : (s.sc p).roundKind = some .focused) (view : (s.sc p).roundView = some f.view) :
    s.setSc p { s.sc p with planStale := false } = s.taking p f := by
  have same : ({ f with taken := true } : FocusedRequest) = f := by rw [← taken]
  rw [State.taking, State.takingController, same, ← focused, ← view, ← kind]

/-- The end of steering of a taken request (R42, R43; log 13). -/
theorem steerEnded_focused {s : State} (law : s.geometryLaw = true) {p : Pair} {f : FocusedRequest}
    (driving : (s.sc p).role = .driving) (steers : (s.sc p).state = .steering) (ended : s.steersInFlight p = [])
    (focused : (s.sc p).focused = some f) (taken : f.taken = true) (kind : (s.sc p).roundKind = some .focused)
    (view : (s.sc p).roundView = some f.view) :
    ((s.sc p).planStale = true → FocusPlanned s p f (s.steerEnded p)) ∧
    ((s.sc p).planStale = false → FocusAsked s p f (s.steerEnded p)) := by
  have taking := taking_taken focused taken kind view
  have eq : s.steerEnded p = if (s.sc p).planStale then s.steerFocused p f else s.askFocused p f := by
    unfold State.steerEnded
    dsimp only
    rw [if_pos (by rw [steers, ended]; rfl), focused, kind]
  refine ⟨fun stale => ?_, fun fresh => ?_⟩
  · rw [eq, if_pos stale]
    exact focusPlanned_steerFocused law driving taking rfl
  · have still : s.taking p f = s := by rw [← taking, ← fresh, setSc_sc]
    have asked := focusAsked_askFocused (f := f) law driving
    rw [still] at asked
    rwa [eq, if_neg (by rw [fresh]; exact Bool.false_ne_true)]

theorem steerEnded_stale {s : State} {p : Pair} (driving : (s.sc p).role = .driving) (steers : (s.sc p).state = .steering)
    (ended : s.steersInFlight p = []) (unfocused : (s.sc p).focused = none) (stale : (s.sc p).planStale = true) :
    s.steerEnded p = s.plan p := by
  rw [plan_regular driving unfocused]
  unfold State.steerEnded
  dsimp only
  rw [if_pos (by rw [steers, ended]; rfl), unfocused]
  dsimp only
  rw [stale]
  rfl

/-! ### Requests that arrive and are withdrawn -/

/-- The first test reads nothing of the request in force. -/
theorem canTake_setSc {s : State} (law : s.geometryLaw = true) (parts : s.partsLaw = true) {p : Pair} {c : SurveyController}
    (steering : c.steering = (s.sc p).steering) (f : FocusedRequest) : (s.setSc p c).canTake p f = s.canTake p f := by
  rw [Bool.eq_iff_iff, canTake_iff (s := s.setSc p c) law parts, canTake_iff law parts]
  exact admits_setSc steering f

theorem takeFocused_setSc {s : State} (law : s.geometryLaw = true) (parts : s.partsLaw = true) (p : Pair)
    (f : FocusedRequest) (g : Option FocusedRequest) :
    (s.setSc p { s.sc p with focused := g }).takeFocused p f = s.takeFocused p f := by
  unfold State.takeFocused State.refuseFocused
  rw [canTake_setSc law parts (by rfl)]
  simp only [State.sc_setSc_self, State.setSc_setSc]
  rfl

theorem requestFocus_waiting {s : State} (law : s.geometryLaw = true) (parts : s.partsLaw = true) {p : Pair}
    {f : FocusedRequest} (driving : (s.sc p).role = .driving) (waits : (s.sc p).state = .waiting)
    {w : State × Option Level} (planned : w = ((s.setPool { s.pool with
      presented := s.pool.presented.filter fun e => e.1 != p }).setSurvey
        (s.survey.set p { s.sc p with focused := some f })).plan p) :
    s.requestFocus p f = (w.1, w.2.map fun _ => .unreachable) := by
  have arrived : ((s.unpresent p).setSc p { (s.unpresent p).sc p with focused := some f }).sc p =
      { s.sc p with focused := some f } := State.sc_setSc_self _ _ _
  have eq : w = (s.unpresent p).takeFocused p f := by
    rw [planned]
    exact (plan_focused (s := (s.unpresent p).setSc p { (s.unpresent p).sc p with focused := some f }) (f := f)
      (by rw [arrived]; exact driving) (by rw [arrived])).trans (takeFocused_setSc (s := s.unpresent p) law parts p f _)
  rw [eq]
  unfold State.requestFocus
  dsimp only
  rw [if_pos (by rw [State.driving, driving]; rfl), waits]
  dsimp only
  split
  next refused => rw [refused]; rfl
  next taken => rw [taken]; rfl

theorem requestFocus_steering {s : State} (law : s.geometryLaw = true) (parts : s.partsLaw = true) {p : Pair}
    {f : FocusedRequest} (driving : (s.sc p).role = .driving) (steers : (s.sc p).state = .steering) :
    (s.admits p f → s.requestFocus p f = (s.focusedOn p f .steering true, none)) ∧
    (¬s.admits p f → s.requestFocus p f =
      (s.setSurvey (s.survey.set p { s.sc p with planStale := true }), some .unreachable)) := by
  have eq : s.requestFocus p f = if s.canTake p f then (s.setSc p { (s.sc p).take f with planStale := true }, none)
      else (s.setSc p { s.sc p with planStale := true }, some .unreachable) := by
    unfold State.requestFocus
    dsimp only
    rw [if_pos (by rw [State.driving, driving]; rfl), steers]
  have test := canTake_iff (p := p) (f := f) law parts
  refine ⟨fun admitted => ?_, fun barred => ?_⟩
  · rw [eq, if_pos (test.mpr admitted), State.focusedOn, ← steers]
    rfl
  · rw [eq, if_neg (mt test.mp barred)]
    rfl

theorem requestFocus_undriven {s : State} {p : Pair} (idle : (s.sc p).role ≠ .driving) (f : FocusedRequest) :
    s.requestFocus p f = (s, some .interrupted) := if_neg (by simpa [State.driving] using idle)

theorem withdrawFocus_other {s : State} {p : Pair} {l : Level} (other : ∀ f, (s.sc p).focused = some f → f.level ≠ l) :
    s.withdrawFocus p l = s := by
  unfold State.withdrawFocus
  dsimp only
  split
  · rfl
  next f focused => exact if_neg (by simpa using other f focused)

/-- A request withdrawn, by the state of its controller (R44; log 38). -/
theorem withdrawFocus_own {s : State} {p : Pair} {f : FocusedRequest} (driving : (s.sc p).role = .driving)
    (focused : (s.sc p).focused = some f) :
    (f.taken = true → (s.sc p).state = .waiting → s.withdrawFocus p f.level = (((s.unfocused p).setPool { s.pool with
      presented := s.pool.presented.filter fun e => e.1 != p }).plan p).1) ∧
    (f.taken = true → (s.sc p).state = .steering → s.withdrawFocus p f.level = s.setSurvey (s.survey.set p { s.sc p with
      focused := none, roundView := some (s.sc p).rotation, roundKind := some .regular, planStale := true })) ∧
    (f.taken = false ∨ ((s.sc p).state ≠ .waiting ∧ (s.sc p).state ≠ .steering) →
      s.withdrawFocus p f.level = s.unfocused p) := by
  have sc : ((s.unfocused p).setPool { s.pool with presented := s.pool.presented.filter fun e => e.1 != p }).sc p =
      { s.sc p with focused := none } := Oct.get_set_self _ _ _
  have plan := plan_regular (s := (s.unfocused p).setPool { s.pool with
    presented := s.pool.presented.filter fun e => e.1 != p }) (p := p) (by rw [sc]; exact driving) (by rw [sc])
  unfold State.withdrawFocus
  dsimp only
  rw [focused]
  dsimp only
  rw [if_pos (beq_self_eq_true _)]
  refine ⟨fun taken waits => ?_, fun taken steers => ?_, fun rest => ?_⟩
  · rw [waits, taken, plan]
    dsimp only
    rw [← waits]
    rfl
  · rw [steers, taken]
    dsimp only
    rw [← steers]
    rfl
  · split
    next waits taken => exact absurd rest (by simp [waits, taken])
    next steers taken => exact absurd rest (by simp [steers, taken])
    next => rfl

/-- Settles O47: the conjuncts are the rules of a boundary, of the end of steering, of a focused request at both, of one
that arrives and of one withdrawn. -/
theorem surveyPlansRounds : Obligations.SurveyPlansRounds := by
  refine ⟨fun p s law parts driving unfocused => plan_boundary law parts driving unfocused,
    fun p s v law parts steers ended unfocused stands view => steerEnded_regular law parts steers ended unfocused stands view,
    fun p s f law parts driving focused => ?_,
    fun p s law parts driving steers ended => ⟨steerEnded_stale driving steers ended, fun f focused taken kind view =>
      steerEnded_focused law driving steers ended focused taken kind view⟩,
    fun p s f law parts => ⟨fun idle => requestFocus_undriven idle f, fun driving =>
      ⟨fun waits w planned => requestFocus_waiting law parts driving waits planned, requestFocus_steering law parts driving,
        fun busy => requestFocus_pending driving busy f⟩⟩,
    fun p l s driving => ⟨withdrawFocus_other, fun f focused level => level ▸ withdrawFocus_own driving focused⟩⟩
  rw [plan_focused driving focused]
  exact takeFocused_taken law parts driving

end Sys2Proof.Machine
end

section
/-! PROOFS. Echo trains and their strongest peaks (R53, R56, R57; log 10, log 11). -/

namespace Sys2Proof.Machine

/-! ### Trains -/

/-- The level at a delay after an echo has been added to what stood there (log 10). -/
def summedLevel : Option Int → Option Int → Option Int
  | some v, some a => some (Config.accumulatedLevel a v)
  | some v, none => some v
  | none, a => a

theorem summedLevel_none (a : Option Int) : summedLevel none a = a := rfl

theorem levelAt_addLevel_self (t : EchoTrain) (d : Nat) (v : Int) :
    levelAt (addLevel d v t) d = summedLevel (some v) (levelAt t d) := by
  rw [levelAt_addLevel, if_pos rfl]
  cases levelAt t d <;> rfl

theorem levelAt_addLevel_ne (t : EchoTrain) {d n : Nat} (v : Int) (other : d ≠ n) :
    levelAt (addLevel d v t) n = levelAt t n := by
  rw [levelAt_addLevel, if_neg other]

/-- A train without two echoes of one delay adds up delay by delay. -/
theorem levelAt_added {heard : EchoTrain} (apart : (heard.map (·.1)).Nodup) (t : EchoTrain) (d : Nat) :
    levelAt (heard.foldl (fun t e => addLevel e.1 e.2 t) t) d = summedLevel (levelAt heard d) (levelAt t d) := by
  induction heard generalizing t with
  | nil => rfl
  | cons e heard ih =>
    obtain ⟨n, v⟩ := e
    obtain ⟨new, apart⟩ := List.nodup_cons.mp apart
    rw [List.foldl_cons, ih apart, levelAt_cons]
    by_cases here : n = d
    · subst here
      have once : levelAt heard n = none := levelAt_eq_none.mpr (List.any_eq_false.mpr fun e he => by
        rw [beq_iff_eq]
        exact fun same => new (List.mem_map.mpr ⟨e, he, same⟩))
      rw [once, summedLevel_none, if_pos rfl, levelAt_addLevel_self]
    · rw [if_neg here, levelAt_addLevel_ne t v here]

theorem levelAt_filter (train : EchoTrain) (span d : Nat) :
    levelAt (train.filter fun e => decide (e.1 ≤ span)) d = if d ≤ span then levelAt train d else none := by
  induction train with
  | nil => exact (ite_self _).symm
  | cons e train ih =>
    obtain ⟨n, v⟩ := e
    rw [List.filter_cons]
    by_cases near : n ≤ span
    · rw [if_pos (by simpa using near), levelAt_cons, levelAt_cons, ih]
      by_cases here : n = d
      · rw [if_pos here, if_pos here, if_pos (here ▸ near)]
      · rw [if_neg here, if_neg here]
    · rw [if_neg (by simpa using near), levelAt_cons, ih]
      by_cases here : n = d
      · rw [if_neg (here ▸ near), if_neg (here ▸ near)]
      · rw [if_neg here]

/-- A round's train after a listen span, delay by delay (R53). -/
theorem hear_levelAt {train : EchoTrain} (apart : (train.map (·.1)).Nodup) (r : RoundInCorrelator) (d : Nat) :
    levelAt (r.hear train).train d =
      if d ≤ r.definition.listenSpan then summedLevel (levelAt train d) (levelAt r.train d) else levelAt r.train d := by
  have heard : ((train.filter fun e => decide (e.1 ≤ r.definition.listenSpan)).map (·.1)).Nodup :=
    apart.sublist (List.filter_sublist.map _)
  rw [RoundInCorrelator.hear, levelAt_added heard, levelAt_filter]
  split <;> rfl

theorem rising_added (heard : EchoTrain) {t : EchoTrain} (h : rising (t.map (·.1)) = true) :
    rising ((heard.foldl (fun t e => addLevel e.1 e.2 t) t).map (·.1)) = true := by
  induction heard generalizing t with
  | nil => exact h
  | cons e heard ih => exact ih (rising_addLevel e.1 e.2 h)

theorem hear_rising (r : RoundInCorrelator) (train : EchoTrain) (h : rising (r.train.map (·.1)) = true) :
    rising ((r.hear train).train.map (·.1)) = true := rising_added _ h

/-! ### The strongest peak -/

/-- The peak stands above the other one; of equal ones it is the first. -/
def outdoes (b e : Nat × Int) : Prop := e.2 < b.2 ∨ (e.2 = b.2 ∧ b.1 ≤ e.1)

theorem outdoes_refl (e : Nat × Int) : outdoes e e := .inr ⟨rfl, Nat.le_refl _⟩

theorem outdoes_trans {a b c : Nat × Int} (h : outdoes a b) (h' : outdoes b c) : outdoes a c := by
  unfold outdoes at *
  omega

/-- The stronger of a peak and a later one outdoes both. -/
theorem stronger_outdoes {b e : Nat × Int} (later : b.1 ≤ e.1) :
    ∃ m, stronger (some b) e = some m ∧ (m = b ∨ m = e) ∧ outdoes m b ∧ outdoes m e := by
  unfold stronger outdoes
  by_cases more : b.2 < e.2
  · exact ⟨e, if_pos more, .inr rfl, .inl more, outdoes_refl e⟩
  · exact ⟨b, if_neg more, .inl rfl, outdoes_refl b, by omega⟩

theorem foldl_stronger_some {l : EchoTrain} {b : Nat × Int} (sorted : (b :: l).Pairwise fun d e => d.1 < e.1) :
    ∃ m, l.foldl stronger (some b) = some m ∧ m ∈ b :: l ∧ ∀ e ∈ b :: l, outdoes m e := by
  induction l generalizing b with
  | nil => exact ⟨b, rfl, List.mem_cons_self, fun e he => by
      obtain rfl := List.mem_singleton.mp he
      exact outdoes_refl e⟩
  | cons e l ih =>
    obtain ⟨first, rest⟩ := List.pairwise_cons.mp sorted
    obtain ⟨second, last⟩ := List.pairwise_cons.mp rest
    obtain ⟨c, stands, which, old, new⟩ := stronger_outdoes (first e List.mem_cons_self).le
    have sorted' : (c :: l).Pairwise fun d e => d.1 < e.1 := List.pairwise_cons.mpr ⟨fun x hx => by
      obtain rfl | rfl := which
      · exact first x (List.mem_cons_of_mem _ hx)
      · exact second x hx, last⟩
    obtain ⟨m, found, member, most⟩ := ih sorted'
    have tops : outdoes m c := most c List.mem_cons_self
    refine ⟨m, by rw [List.foldl_cons, stands, found], ?_, fun x hx => ?_⟩
    · obtain rfl | later := List.mem_cons.mp member
      · obtain rfl | rfl := which
        · exact List.mem_cons_self
        · exact List.mem_cons_of_mem _ List.mem_cons_self
      · exact List.mem_cons_of_mem _ (List.mem_cons_of_mem _ later)
    · obtain rfl | hx := List.mem_cons.mp hx
      · exact outdoes_trans tops old
      obtain rfl | hx := List.mem_cons.mp hx
      · exact outdoes_trans tops new
      · exact most x (List.mem_cons_of_mem _ hx)

theorem foldl_stronger {l : EchoTrain} (sorted : l.Pairwise fun d e => d.1 < e.1) :
    (l.foldl stronger none = none ∧ l = []) ∨
      ∃ m, l.foldl stronger none = some m ∧ m ∈ l ∧ ∀ e ∈ l, outdoes m e := by
  cases l with
  | nil => exact .inl ⟨rfl, rfl⟩
  | cons b l => exact .inr (foldl_stronger_some sorted)

/-- What the strongest peak over a region is (R56, R57; log 11). -/
theorem strongestPeak_spec {t : EchoTrain} (sorted : rising (t.map (·.1)) = true) (region : Nat → Bool) :
    (strongestPeak t region = none ∧ ∀ e ∈ t, region e.1 = true → e.2 ≤ -800) ∨
      ∃ m, strongestPeak t region = some (m.1, min m.2 0) ∧ m ∈ t ∧ region m.1 = true ∧ -800 < m.2 ∧
        ∀ e ∈ t, region e.1 = true → outdoes m e := by
  have ordered := List.pairwise_map.mp ((rising_iff _).mp sorted)
  have heard {e : Nat × Int} : e ∈ t.filter (fun e => region e.1 && decide (Config.peakFloor < e.2)) ↔
      e ∈ t ∧ region e.1 = true ∧ -800 < e.2 := by
    rw [List.mem_filter, Bool.and_eq_true, decide_eq_true_iff]
    rfl
  obtain ⟨nothing, empty⟩ | ⟨m, found, member, most⟩ := foldl_stronger (ordered.filter fun e =>
      region e.1 && decide (Config.peakFloor < e.2))
  · refine .inl ⟨by rw [strongestPeak, nothing, Option.map_none], fun e he inside => ?_⟩
    by_contra loud
    exact List.not_mem_nil (empty ▸ heard.mpr ⟨he, inside, by omega⟩)
  · obtain ⟨here, inside, loud⟩ := heard.mp member
    refine .inr ⟨m, by rw [strongestPeak, found, Option.map_some], here, inside, loud, fun e he region => ?_⟩
    by_cases faint : e.2 ≤ -800
    · exact .inl (by omega)
    · exact most e (heard.mpr ⟨he, region, by omega⟩)

end Sys2Proof.Machine
end

section
/-! PROOFS. The definition of a round: its stations in delay order, its listen span and its stray limit (R39). -/

namespace Sys2Proof.Machine

theorem upTo_sublist (n : Nat) : ∀ l : List Station, (upTo n l).Sublist l
  | [] => List.Sublist.refl _
  | r :: rest => by
    unfold upTo
    split
    · exact List.singleton_sublist.mpr List.mem_cons_self
    · exact (upTo_sublist n rest).cons_cons r

/-- The stations of a view stand in delay order (R9). -/
theorem viewStations_sorted {s : State} (law : s.geometryLaw = true) (v : View) :
    (s.viewStations v).Pairwise fun r q => r.delay < q.delay := by
  cases v with
  | trunk => exact segmentStations_sorted law .trunk
  | branch b =>
    unfold State.viewStations
    cases found : s.unit? b with
    | none =>
      simp only [found]
      exact List.Pairwise.nil
    | some u =>
      have trunk := segmentStations_sorted law .trunk
      simp only [found]
      refine List.pairwise_append.mpr ⟨trunk.sublist (upTo_sublist _ _), segmentStations_sorted law _, fun r hr q hq => ?_⟩
      obtain ⟨member, kind⟩ := unit?_some found
      obtain ⟨hq, segment⟩ := (mem_segmentStations law).mp hq
      obtain ⟨w, hw, same, far⟩ := (geometryLaw_iff.mp law).beyond q hq b segment
      obtain rfl := Option.some.inj ((unit?_of_mem law hw same).symm.trans found)
      have onTrunk := (mem_segmentStations law).mpr ⟨member, (geometryLaw_iff.mp law).trunk w member b kind⟩
      have near := ((mem_upTo trunk (fun x hx same => eq_of_number_eq (geometry_parts law).1
        ((mem_segmentStations law).mp hx).1 member same) onTrunk).mp hr).2
      rw [clears, decide_eq_true_iff] at far
      omega

theorem farthest_of_last {x : Station} : ∀ {l : List Station}, (l.Pairwise fun r q => r.delay < q.delay) → x ∈ l →
    (∀ y ∈ l, y.delay ≤ x.delay) → farthest l = (x.delay, x.window)
  | [], _, member, _ => by cases member
  | r :: rest, sorted, member, last => by
    obtain ⟨first, sorted⟩ := List.pairwise_cons.mp sorted
    unfold farthest
    obtain rfl | later := List.mem_cons.mp member
    · have alone : rest = [] := List.eq_nil_iff_forall_not_mem.mpr fun y hy => by
        have near := last y (List.mem_cons_of_mem _ hy)
        have far := first y hy
        omega
      rw [alone]
      exact if_pos (Nat.zero_le _)
    · rw [farthest_of_last sorted later fun y hy => last y (List.mem_cons_of_mem _ hy)]
      have far := first x later
      exact if_neg (by omega)

/-- The head of a list in delay order. -/
theorem head?_of_nearest {x : Station} {l : List Station} (sorted : l.Pairwise fun r q => r.delay < q.delay) (member : x ∈ l)
    (nearest : ∀ y ∈ l, x.delay ≤ y.delay) : l.head? = some x := by
  cases l with
  | nil => cases member
  | cons r rest =>
    obtain rfl | later := List.mem_cons.mp member
    · rfl
    · have first := (List.pairwise_cons.mp sorted).1 x later
      have near := nearest r List.mem_cons_self
      omega

theorem shadowers_sorted {s : State} (law : s.geometryLaw = true) (p : Pair) (v : View) :
    (s.shadowers p v).Pairwise fun r q => r.delay < q.delay :=
  ((segmentStations_sorted law .trunk).filter _).filter _

section
variable {s : State} {p : Pair} {v : View}

theorem roundDefinition_visible (law : s.geometryLaw = true) (view : (s.sc p).roundView = some v) {q : RoundStation} :
    q ∈ (s.roundDefinition p).visible ↔
      ∃ x, s.inView v x ∧ ¬s.inShadow p v x ∧ q = { number := x.number, delay := x.delay, window := x.window } := by
  unfold State.roundDefinition
  dsimp only
  rw [view, Option.getD_some, List.mem_map]
  refine exists_congr fun x => ?_
  rw [List.mem_filter, mem_viewStations_iff law, Bool.not_eq_true', ← Bool.not_eq_true, isShadowed_iff law, and_assoc]
  exact and_congr_right fun _ => and_congr_right fun _ => eq_comm

theorem roundDefinition_shadowed (law : s.geometryLaw = true) (view : (s.sc p).roundView = some v) {q : RoundStation} :
    q ∈ (s.roundDefinition p).shadowed ↔
      ∃ x, s.inView v x ∧ s.inShadow p v x ∧ q = { number := x.number, delay := x.delay, window := x.window } := by
  unfold State.roundDefinition
  dsimp only
  rw [view, Option.getD_some, List.mem_map]
  refine exists_congr fun x => ?_
  rw [List.mem_filter, mem_viewStations_iff law, isShadowed_iff law, and_assoc]
  exact and_congr_right fun _ => and_congr_right fun _ => eq_comm

theorem roundDefinition_rising (law : s.geometryLaw = true) (p : Pair) :
    rising ((s.roundDefinition p).visible.map (·.delay)) = true := by
  rw [rising_iff, List.pairwise_map]
  unfold State.roundDefinition
  exact List.pairwise_map.mpr ((viewStations_sorted law _).filter _)

theorem roundDefinition_listenSpan (law : s.geometryLaw = true) (view : (s.sc p).roundView = some v) {x : Station}
    (here : s.inView v x) (last : ∀ y, s.inView v y → y.delay ≤ x.delay) :
    (s.roundDefinition p).listenSpan = x.delay + x.window + 100 := by
  have far := farthest_of_last (viewStations_sorted law v) ((mem_viewStations_iff law).mpr here)
    fun y hy => last y ((mem_viewStations_iff law).mp hy)
  unfold State.roundDefinition
  dsimp only
  rw [view, Option.getD_some, far]
  rfl

theorem roundDefinition_strayLimit_clear (law : s.geometryLaw = true) (view : (s.sc p).roundView = some v)
    (clear : ∀ x, s.inView v x → ¬s.inShadow p v x) : (s.roundDefinition p).strayLimit = none := by
  unfold State.roundDefinition
  dsimp only
  rw [view, Option.getD_some]
  refine if_pos (List.isEmpty_iff.mpr (List.filter_eq_nil_iff.mpr fun x hx => ?_))
  rw [isShadowed_iff law]
  exact clear x ((mem_viewStations_iff law).mp hx)

theorem roundDefinition_strayLimit_shadowed (law : s.geometryLaw = true) (view : (s.sc p).roundView = some v) {u x : Station}
    (here : s.inView v x) (shadow : s.inShadow p v x) (shades : s.shades p v u)
    (nearest : ∀ w, s.shades p v w → u.delay ≤ w.delay) :
    (s.roundDefinition p).strayLimit = some (u.delay + u.window) := by
  have head := head?_of_nearest (shadowers_sorted law p v) ((mem_shadowers_iff law).mpr shades)
    fun w hw => nearest w ((mem_shadowers_iff law).mp hw)
  have shadowed : x ∈ (s.viewStations v).filter (s.isShadowed p v) :=
    List.mem_filter.mpr ⟨(mem_viewStations_iff law).mpr here, (isShadowed_iff law).mpr shadow⟩
  unfold State.roundDefinition
  dsimp only
  rw [view, Option.getD_some, if_neg, head]
  · rfl
  · rw [List.isEmpty_iff]
    exact List.ne_nil_of_mem shadowed

end

end Sys2Proof.Machine
end

section
/-! PROOFS. Grants in rotating order, listen spans that expire, and the life of a round: O48. -/

namespace Sys2Proof.Machine

/-! ### The choice of a grant (R51) -/

theorem allowed_of {c : CorrelatorPool} {p : Pair} {kind : RoundKind} (asked : (p, kind) ∈ c.presented)
    (first : kind = .regular → ∀ e ∈ c.presented, e.2 = .regular) {e : Pair × RoundKind} :
    e ∈ c.allowed ↔ e ∈ c.presented ∧ e.2 = kind := by
  unfold CorrelatorPool.allowed
  cases kind with
  | focused =>
    rw [if_pos (List.any_eq_true.mpr ⟨_, asked, rfl⟩), List.mem_filter, beq_iff_eq]
  | regular =>
    have regular := first rfl
    have none : c.presented.any (·.2 == .focused) = false := List.any_eq_false.mpr fun e he => by
      rw [regular e he]
      decide
    rw [if_neg (by rw [none]; exact Bool.false_ne_true)]
    exact ⟨fun he => ⟨he, regular e he⟩, And.left⟩

/-- The place of a pair in rotating order from another one (00_scope.md). -/
def rotatingPlace (from_ p : Pair) : Nat := (p.val + 7 - from_.val) % 8

theorem rotatingFrom_sorted : ∀ q : Pair, (rotatingFrom q).Pairwise fun a b => rotatingPlace q a < rotatingPlace q b := by
  decide

theorem mem_rotatingFrom : ∀ q p : Pair, p ∈ rotatingFrom q := by decide

/-- A request of the pair is found among the requests of one kind. -/
theorem find?_pair {l : List (Pair × RoundKind)} {p : Pair} {kind : RoundKind} (member : (p, kind) ∈ l)
    (one : ∀ e ∈ l, e.2 = kind) : l.find? (·.1 == p) = some (p, kind) := by
  cases found : l.find? (·.1 == p) with
  | none =>
    have differs := List.find?_eq_none.mp found _ member
    simp at differs
  | some e =>
    have here : e.1 = p := by simpa using List.find?_some found
    exact congrArg some (Prod.ext here (one e (List.mem_of_find?_eq_some found)))

/-- The request that a grant takes: a FOCUSED one before any other, then the first in rotating order. -/
theorem chosen_of {c : CorrelatorPool} {p : Pair} {kind : RoundKind} (asked : (p, kind) ∈ c.presented)
    (first : kind = .regular → ∀ e ∈ c.presented, e.2 = .regular)
    (turn : ∀ e ∈ c.presented, e.2 = kind → e.1 ≠ p → rotatingPlace c.lastGranted p < rotatingPlace c.lastGranted e.1) :
    c.chosen = some (p, kind) := by
  have allowed {e : Pair × RoundKind} : e ∈ c.allowed ↔ _ := allowed_of asked first
  obtain ⟨before, after, split⟩ := List.append_of_mem (mem_rotatingFrom c.lastGranted p)
  have sorted := rotatingFrom_sorted c.lastGranted
  unfold CorrelatorPool.chosen
  rw [split] at sorted ⊢
  obtain ⟨-, -, sooner⟩ := List.pairwise_append.mp sorted
  have skips : before.findSome? (fun q => c.allowed.find? (·.1 == q)) = none := by
    refine List.findSome?_eq_none_iff.mpr fun q hq => List.find?_eq_none.mpr fun e he => ?_
    obtain ⟨presented, same⟩ := allowed.mp he
    have place := sooner q hq p List.mem_cons_self
    rw [beq_iff_eq]
    rintro rfl
    have later := turn e presented same (by
      rintro rfl
      omega)
    omega
  rw [List.findSome?_append, skips, Option.none_or, List.findSome?_cons,
    find?_pair (allowed.mpr ⟨asked, rfl⟩) fun e he => (allowed.mp he).2]

theorem chosen_none {c : CorrelatorPool} (nothing : c.chosen = none) : c.presented = [] := by
  have unasked : c.allowed = [] := List.eq_nil_iff_forall_not_mem.mpr fun e he => by
    have skipped := List.find?_eq_none.mp (List.findSome?_eq_none_iff.mp nothing e.1 (mem_rotatingFrom _ _)) e he
    simp at skipped
  unfold CorrelatorPool.allowed at unasked
  split at unasked
  next focused =>
    obtain ⟨e, member, kind⟩ := List.any_eq_true.mp focused
    exact absurd unasked (List.ne_nil_of_mem (List.mem_filter.mpr ⟨member, kind⟩))
  next => exact unasked

theorem chosen_of_empty {c : CorrelatorPool} (empty : c.presented = []) : c.chosen = none := by
  cases chosen : c.chosen with
  | none => rfl
  | some e =>
    have member := CorrelatorPool.chosen_mem chosen
    rw [empty] at member
    cases member

/-! ### The lowest FREE correlator -/

theorem allCorrelators_sorted : allCorrelators.Pairwise (· < ·) := by decide

theorem freeCorrelator_none {c : CorrelatorPool} : c.freeCorrelator = none ↔ ∀ k, c.correlators.get k ≠ .free := by
  unfold CorrelatorPool.freeCorrelator
  simp only [List.find?_eq_none, beq_iff_eq]
  exact ⟨fun busy k => busy k (mem_allCorrelators k), fun busy k _ => busy k⟩

theorem freeCorrelator_some {c : CorrelatorPool} {k : CorrelatorNo} :
    c.freeCorrelator = some k ↔ c.correlators.get k = .free ∧ ∀ j, j < k → c.correlators.get j ≠ .free := by
  constructor
  · intro found
    refine ⟨CorrelatorPool.freeCorrelator_free found, fun j lower => ?_⟩
    obtain ⟨-, before, after, split, busy⟩ := List.find?_eq_some_iff_append.mp found
    have sorted := allCorrelators_sorted
    have member := mem_allCorrelators j
    rw [split] at sorted member
    obtain ⟨-, rest, -⟩ := List.pairwise_append.mp sorted
    obtain here | here := List.mem_append.mp member
    · simpa using busy j here
    · obtain rfl | later := List.mem_cons.mp here
      · exact absurd lower (lt_irrefl j)
      · exact absurd ((List.pairwise_cons.mp rest).1 j later) (lt_asymm lower)
  · rintro ⟨free, lowest⟩
    cases found : c.freeCorrelator with
    | none => exact absurd free (freeCorrelator_none.mp found k)
    | some j =>
      obtain lower | rfl | higher := lt_trichotomy j k
      · exact absurd (CorrelatorPool.freeCorrelator_free found) (lowest j lower)
      · rfl
      · obtain ⟨-, before, after, split, busy⟩ := List.find?_eq_some_iff_append.mp found
        have sorted := allCorrelators_sorted
        have member := mem_allCorrelators k
        rw [split] at sorted member
        obtain ⟨-, rest, -⟩ := List.pairwise_append.mp sorted
        obtain here | here := List.mem_append.mp member
        · exact absurd free (by simpa using busy k here)
        · obtain rfl | later := List.mem_cons.mp here
          · rfl
          · exact absurd ((List.pairwise_cons.mp rest).1 k later) (lt_asymm higher)

/-! ### Grants -/

/-- No correlator is FREE, or no request is presented. -/
def CorrelatorPool.Served (c : CorrelatorPool) : Prop := (∀ k, c.correlators.get k ≠ .free) ∨ c.presented = []

theorem grantOne_served {s : State} (served : s.pool.Served) : s.grantOne = s := by
  unfold State.grantOne
  split
  next k p kind free chosen =>
    obtain busy | empty := served
    · rw [freeCorrelator_none.mpr busy] at free
      cases free
    · rw [chosen_of_empty empty] at chosen
      cases chosen
  next => rfl

theorem grantOne_grants {s : State} {k : CorrelatorNo} {p : Pair} {kind : RoundKind}
    (free : s.pool.freeCorrelator = some k) (chosen : s.pool.chosen = some (p, kind)) :
    s.grantOne = s.grantTo k p kind := by
  unfold State.grantOne
  simp only [free, chosen]

/-- The Pool is served, or the first correlators are taken. -/
def CorrelatorPool.ServedTo (c : CorrelatorPool) (n : Nat) : Prop :=
  c.Served ∨ ∀ k : CorrelatorNo, k.val < n → c.correlators.get k ≠ .free

theorem grantOne_servedTo {s : State} {n : Nat} (served : s.pool.ServedTo n) : s.grantOne.pool.ServedTo (n + 1) := by
  by_cases done : s.pool.Served
  · exact .inl (by rwa [grantOne_served done])
  have taken := served.resolve_left done
  have some_free : s.pool.freeCorrelator ≠ none := fun none => done (.inl (freeCorrelator_none.mp none))
  have some_chosen : s.pool.chosen ≠ none := fun none => done (.inr (chosen_none none))
  obtain ⟨k, free⟩ := Option.ne_none_iff_exists'.mp some_free
  obtain ⟨⟨p, kind⟩, chosen⟩ := Option.ne_none_iff_exists'.mp some_chosen
  obtain ⟨here, lowest⟩ := freeCorrelator_some.mp free
  have high : n ≤ k.val := by
    by_contra low
    exact taken k (by omega) here
  refine .inr fun j lower => ?_
  rw [grantOne_grants free chosen, grantTo_pool]
  by_cases same : j = k
  · rw [same, Quad.get_set_self]
    nofun
  · rw [Quad.get_set_ne _ _ same]
    exact lowest j (lt_of_le_of_ne (Fin.le_def.mpr (by omega)) same)

/-- Grants go on until no correlator is FREE or no request is presented (R51). -/
theorem grantAll_served (s : State) : s.grantAll.pool.Served := by
  have start : s.pool.ServedTo 0 := .inr fun k lower => absurd lower (Nat.not_lt_zero _)
  obtain served | taken := grantOne_servedTo (grantOne_servedTo (grantOne_servedTo (grantOne_servedTo start)))
  · exact served
  · exact .inl fun k => taken k k.isLt

theorem mem_snapshotOf {s : State} {v : View} {e : Segment × Nat} :
    e ∈ s.snapshotOf v ↔ (e.1 = .trunk ∨ e.1 = v) ∧ e.2 = s.generation e.1 := by
  have segments : ∀ g, g ∈ viewSegments v ↔ g = .trunk ∨ g = v := fun g => by
    cases v with
    | trunk => simp [viewSegments]
    | branch b => simp [viewSegments]
  rw [State.snapshotOf, List.mem_map, ← segments]
  constructor
  · rintro ⟨g, member, rfl⟩
    exact ⟨member, rfl⟩
  · rintro ⟨member, generation⟩
    exact ⟨e.1, member, Prod.ext rfl generation.symm⟩

/-! ### Listen spans that expire (R53, R55) -/

theorem exec_listenSpanExpiry (s : State) (k : CorrelatorNo) (train : EchoTrain) :
    exec (.listenSpanExpiry k train) s = .next (s.expireSpan k train) := rfl

theorem expireSpan_idle {s : State} {k : CorrelatorNo} (idle : ∀ r n c, s.pool.correlators.get k ≠ .running r n c)
    (train : EchoTrain) : s.expireSpan k train = s := by
  unfold State.expireSpan
  split
  next r n c running => exact absurd running (idle r n c)
  next => rfl

section
variable {s : State} {k : CorrelatorNo} {r : RoundInCorrelator} {n : Nat} {c : End}

theorem expireSpan_burst (running : s.pool.correlators.get k = .running r n c) (train : EchoTrain)
    (more : n + 1 < r.definition.bursts) :
    s.expireSpan k train = s.setCorrelator k (.running (r.hear train) (n + 1) s.line.terminal) := by
  unfold State.expireSpan
  simp only [running]
  exact if_pos more

theorem expireSpan_completes (running : s.pool.correlators.get k = .running r n c) (train : EchoTrain)
    (last : r.definition.bursts ≤ n + 1) : s.expireSpan k train = s.completeRound k (r.hear train) := by
  unfold State.expireSpan
  simp only [running]
  exact if_neg (show ¬n + 1 < r.definition.bursts by omega)

end

/-- The search region of the candidate stray peak, from the windows of the round's stations (R57). -/
theorem strayRegion_eq (d : RoundDefinition) (n : Nat) : d.strayRegion n =
    (decide (10 ≤ n ∧ n ≤ d.listenSpan) &&
      (d.visible ++ d.shadowed).all (fun v => !decide (v.delay ≤ n + v.window ∧ n ≤ v.delay + v.window)) &&
      d.strayLimit.all fun l => decide (n ≤ l)) := by
  have holds (v : RoundStation) : v.holds n = decide (v.delay ≤ n + v.window ∧ n ≤ v.delay + v.window) := by
    rw [RoundStation.holds, near, Bool.decide_and, Bool.and_comm]
  unfold RoundDefinition.strayRegion
  rw [List.all_append, List.not_any_eq_all_not, List.not_any_eq_all_not, Bool.decide_and]
  simp only [holds]
  cases d.strayLimit <;> simp only [Option.all_none, Option.all_some, Bool.and_assoc] <;> rfl

theorem entry_eq (r : RoundInCorrelator) (v : RoundStation) : r.entry v =
    { station := v.number,
      peak := (strongestPeak r.train fun d => decide (v.delay ≤ d + v.window ∧ d ≤ v.delay + v.window)).map fun m =>
        (m.2, (m.1 : Int) - (v.delay : Int)) } := by
  have holds : v.holds = fun d => decide (v.delay ≤ d + v.window ∧ d ≤ v.delay + v.window) := funext fun d => by
    rw [RoundStation.holds, near, Bool.decide_and, Bool.and_comm]
  rw [RoundInCorrelator.entry, holds]

/-! ### O48 -/

/-- Settles O48: a grant takes the first FREE correlator and the first request in rotating order, so four of them
serve the Pool; the rest is read off the round's definition and the accumulation of its train. -/
theorem roundIsGrantedRunAndCompleted : Obligations.RoundIsGrantedRunAndCompleted := by
  refine ⟨fun s => ⟨grantOne_served, fun k p kind free lowest asked first turn => ?grant, grantAll_served s⟩,
    fun p s v kind law view roundKind => ?definition, fun k train s apart => ⟨fun idle => ?idle, fun r n c running =>
      ⟨(r.hear train).train, fun d => ?levels, hear_rising r train, fun more => ?burst, fun last => ?completes⟩⟩,
    fun t region sorted => ?peak⟩
  case grant =>
    have grants := grantOne_grants (freeCorrelator_some.mpr ⟨free, lowest⟩) (chosen_of asked first turn)
    refine ⟨⟨s.roundDefinition p, s.snapshotOf (s.roundDefinition p).view, []⟩, rfl, rfl, fun e => mem_snapshotOf, ?_, ?_⟩
    · rw [grants, grantTo_pool]
      simp only [beq_iff_eq]
    · rw [grants, grantTo_sc_self]
  case definition =>
    have kinds : (s.roundDefinition p).kind = kind := by
      rw [(roundDefinition_isOf rfl).kind, roundKind]
      rfl
    have focus := (roundDefinition_isOf (s := s) (p := p) rfl).focus
    unfold SurveyController.roundFocus at focus
    rw [roundKind, Option.getD_some] at focus
    refine ⟨rfl, ?_, kinds, ?_, ?_, ?_, roundDefinition_rising law p, fun q => roundDefinition_visible law view,
      fun q => roundDefinition_shadowed law view, fun x => roundDefinition_listenSpan law view,
      roundDefinition_strayLimit_clear law view, fun u x => roundDefinition_strayLimit_shadowed law view⟩
    · rw [(roundDefinition_isOf rfl).view, view]
      rfl
    · unfold State.roundDefinition
      dsimp only
      rw [roundKind]
      cases kind <;> rfl
    · rintro rfl
      exact focus
    · rintro f rfl focused
      rw [focused] at focus
      exact focus
  case idle => rw [exec_listenSpanExpiry, expireSpan_idle idle]
  case levels =>
    rw [hear_levelAt apart]
    cases levelAt train d <;> cases levelAt r.train d <;> rfl
  case burst =>
    rw [exec_listenSpanExpiry, expireSpan_burst running train more]
    rfl
  case completes =>
    refine ⟨s.completeRound k (r.hear train), (r.hear train).result k, ?_, ?_, rfl, rfl, rfl, rfl, rfl, rfl, ⟨?_, ?_⟩, rfl,
      only_completeRound s k _⟩
    · rw [exec_listenSpanExpiry, expireSpan_completes running train last]
    · rw [completeRound_eq]
      rfl
    · exact List.map_congr_left fun v _ => entry_eq _ v
    · exact congrArg (strongestPeak _) (funext fun d => strayRegion_eq _ d)
  case peak =>
    obtain ⟨nothing, faint⟩ | ⟨m, found, member, inside, loud, most⟩ := strongestPeak_spec sorted region
    · rw [nothing]
      exact faint
    · rw [found]
      exact ⟨m.2, member, inside, loud, rfl, most⟩

end Sys2Proof.Machine
end

section
/-! PROOFS. The end of a result: what the work that follows it leaves (R58). -/

namespace Sys2Proof.Machine

/-! ### Correlators and the queue -/

/-- The correlator is FREE, or has been granted anew (R51). -/
def State.freed (s : State) (k : CorrelatorNo) : Prop :=
  s.pool.correlators.get k = .free ∨ ∃ x, s.pool.correlators.get k = .running x 0 s.line.terminal ∧ x.train = []

theorem State.freed.of_eq {s t : State} {k : CorrelatorNo} (h : s.freed k) (correlators : t.pool.correlators = s.pool.correlators)
    (line : t.line = s.line) : t.freed k := by rwa [State.freed, correlators, line]

theorem State.freed.of_only {s t : State} {k : CorrelatorNo} {l : List Part} (h : s.freed k) (only : Only l s t)
    (pool : Part.pool ∉ l := by decide) (line : Part.line ∉ l := by decide) : t.freed k :=
  h.of_eq (congrArg CorrelatorPool.correlators (only.pool_eq pool)) (only.line_eq line)

theorem State.freed.grantTo {s : State} {k : CorrelatorNo} (h : s.freed k) (j : CorrelatorNo) (p : Pair) (kind : RoundKind) :
    (s.grantTo j p kind).freed k := by
  rw [State.freed, grantTo_pool, (only_grantTo s j p kind).line_eq]
  by_cases same : k = j
  · rw [same]
    exact .inr ⟨_, Quad.get_set_self _ _ _, rfl⟩
  · rw [Quad.get_set_ne _ _ same]
    exact h

theorem WorkMove.freed {s t : State} {k : CorrelatorNo} (h : WorkMove s t) (hs : s.freed k) : t.freed k := by
  cases h with
  | contexts | occupy | controller | unpresent | present => exact hs.of_eq rfl rfl
  | grant j p kind => exact hs.grantTo j p kind
  | submit p t => exact hs.of_only (only_submit s p t)
  | askAuto k n p => exact hs.of_only (only_askAuto s k n p)
  | leave o => exact hs.of_only (only_leaveService s o)

theorem WorkMove.queue {s t : State} (h : WorkMove s t) : t.pool.queue = s.pool.queue := by
  have same {u : State} (pool : u.pool = s.pool) : u.pool.queue = s.pool.queue := by rw [pool]
  cases h with
  | contexts | occupy | controller | unpresent | present => rfl
  | grant j p kind => rw [grantTo_pool]
  | submit p t => exact same (only_submit s p t).pool_eq
  | askAuto k n p => exact same (only_askAuto s k n p).pool_eq
  | leave o => exact same (only_leaveService s o).pool_eq

theorem WorkSteps.queue {s t : State} (h : WorkSteps s t) : t.pool.queue = s.pool.queue :=
  h.lift (R := fun s t => t.pool.queue = s.pool.queue) (fun _ => rfl) (fun h k => k.trans h) WorkMove.queue

/-! ### What work leaves -/

/-- What the work of the part's own blocks leaves of the survey: the records, the slots, the round counters and the
Case List but for states and claims; a cause of attention that stands goes on standing. -/
structure Worked (s t : State) : Prop where
  table : t.table = s.table
  strays : t.strays = s.strays
  settings : t.settings = s.settings
  line : t.line = s.line
  rounds : ∀ p, (t.sc p).roundCounter = (s.sc p).roundCounter
  cases : CasesKept s t
  attention : s.port.attention.Within t.port.attention

theorem Worked.trans {s t u : State} (h : Worked s t) (k : Worked t u) : Worked s u where
  table := k.table.trans h.table
  strays := k.strays.trans h.strays
  settings := k.settings.trans h.settings
  line := k.line.trans h.line
  rounds p := (k.rounds p).trans (h.rounds p)
  cases := h.cases.trans k.cases
  attention := h.attention.trans k.attention

theorem Worked.of_only {s t : State} {l : List Part} (only : Only l s t) (table : Part.table ∉ l := by decide)
    (strays : Part.strays ∉ l := by decide) (settings : Part.settings ∉ l := by decide) (line : Part.line ∉ l := by decide)
    (survey : Part.survey ∉ l := by decide) (arbiter : Part.arbiter ∉ l := by decide) (port : Part.port ∉ l := by decide) :
    Worked s t where
  table := only.table_eq table
  strays := only.strays_eq strays
  settings := only.settings_eq settings
  line := only.line_eq line
  rounds p := by rw [State.sc, only.survey_eq survey, State.sc]
  cases := casesKept_of_eq (congrArg CaseArbiter.cases (only.arbiter_eq arbiter))
  attention := by
    rw [only.port_eq port]
    exact .refl _

theorem WorkSteps.worked {s t : State} (h : WorkSteps s t) : Worked s t where
  table := h.only.table_eq
  strays := h.only.strays_eq
  settings := h.only.settings_eq
  line := h.only.line_eq
  rounds p := (h.agrees p).2.2.2.2
  cases := h.casesKept
  attention := h.attention

/-- The records and the evidence stand after work. -/
theorem Worked.assessedIn {s t v : State} (h : Worked s t) (table : s.table = v.table)
    (cases : s.arbiter.cases = v.arbiter.cases) : AssessedIn v t := by
  refine ⟨h.table.trans table, fun c hc => ?_⟩
  obtain ⟨g, mapped, kept⟩ := h.cases
  rw [← cases] at hc
  have keeps := kept c
  refine ⟨g c, mapped ▸ List.mem_map_of_mem hc, ?_⟩
  rw [keeps]
  exact ⟨rfl, rfl, rfl, rfl, rfl, rfl⟩

/-! ### The end of a result -/

/-- The end of a result is the release and work. -/
theorem endResult_steps (s : State) (r : RoundResult) : ∃ w, WorkSteps (s.releaseResult r) w ∧ s.endResult r = w.settle := by
  have plans : WorkSteps (s.releaseResult r) ((s.releaseResult r).plan r.pair).1.grantAll :=
    (planSteps_plan (s.releaseResult r) r.pair).work.trans (planSteps_grantAll _).work
  exact ⟨_, plans.trans (workSteps_tellRefused (_, ((s.releaseResult r).plan r.pair).2)), rfl⟩

theorem endResult_worked (s : State) (r : RoundResult) : Worked s (s.endResult r) := by
  obtain ⟨w, steps, ends⟩ := endResult_steps s r
  rw [ends]
  exact ((Worked.of_only (only_releaseResult s r)).trans steps.worked).trans (.of_only (only_settle w))

theorem endResult_queue {s : State} {r : RoundResult} {rest : List RoundResult} (queue : s.pool.queue = r :: rest)
    (apart : ((r :: rest).map (·.correlator)).Nodup) : (s.endResult r).pool.queue = rest := by
  obtain ⟨w, steps, ends⟩ := endResult_steps s r
  obtain ⟨first, -⟩ := List.nodup_cons.mp apart
  rw [ends, (only_settle w).pool_eq, steps.queue]
  change s.pool.queue.filter (fun q => q.correlator != r.correlator) = rest
  rw [queue, List.filter_cons, if_neg (by simp)]
  refine List.filter_eq_self.mpr fun q hq => ?_
  rw [bne_iff_ne]
  exact fun same => first (List.mem_map.mpr ⟨q, hq, same⟩)

theorem endResult_freed (s : State) (r : RoundResult) : (s.endResult r).freed r.correlator := by
  obtain ⟨w, steps, ends⟩ := endResult_steps s r
  have released : (s.releaseResult r).freed r.correlator := .inl (Quad.get_set_self _ _ _)
  have worked : w.freed r.correlator := steps.keeps WorkMove.freed released
  rw [ends]
  exact worked.of_only (only_settle w)

/-- A boundary of a pair without a focused request changes a context in its phase alone. -/
theorem endResult_phased {s : State} {r : RoundResult} (unfocused : (s.sc r.pair).focused = none) :
    Phased s (s.endResult r) := by
  have released : Phased s (s.releaseResult r) := phased_of_eq rfl
  have plans := planSteps_plan (s.releaseResult r) r.pair
  have unasked : ((s.releaseResult r).plan r.pair).2 = none := by
    unfold State.plan
    split
    · rw [show ((s.releaseResult r).sc r.pair).focused = none from unfocused]
    · rfl
  have ends : s.endResult r = ((s.releaseResult r).plan r.pair).1.grantAll.settle := by
    unfold State.endResult State.tellRefused
    dsimp only
    rw [unasked]
  rw [ends]
  exact (released.trans (plans.phased.trans (planSteps_grantAll _).phased)).trans
    (phased_of_eq (only_settle _).contexts_eq)

end Sys2Proof.Machine
end

section
/-! PROOFS. The echo entries of a result and its stray peak, worked one after another (R63 to R80). -/

namespace Sys2Proof.Machine

/-! ### What an entry reads -/

/-- The states agree in what a finding and an entry read: the records, the Case List and the settings. -/
structure State.Matches (s t : State) : Prop where
  table : t.table = s.table
  arbiter : t.arbiter = s.arbiter
  settings : t.settings = s.settings

section
variable {s t : State}

theorem State.Matches.updatePart (h : s.Matches t) (n : Nat) (p : Pair) (f : PairPart → PairPart) :
    (s.updatePart n p f).Matches (t.updatePart n p f) :=
  ⟨by rw [updatePart_each, updatePart_each, h.table], h.arbiter, h.settings⟩

theorem State.Matches.refreshHealth (h : s.Matches t) (n : Nat) (p : Pair) :
    (s.refreshHealth n p).Matches (t.refreshHealth n p) := by
  unfold State.refreshHealth
  rw [caseAt?_of_arbiter h.arbiter]
  exact h.updatePart n p _

theorem State.Matches.mergeCase (h : s.Matches t) (c : Case) (f : CauseFound) :
    (s.mergeCase c f).Matches (t.mergeCase c f) := by
  have updated : (s.updateCase c.number (Case.merge s.arbiter.policy.levelMap f)).Matches
      (t.updateCase c.number (Case.merge t.arbiter.policy.levelMap f)) := by
    refine ⟨h.table, ?_, h.settings⟩
    unfold State.updateCase
    rw [State.setArbiter_arbiter, State.setArbiter_arbiter, h.arbiter]
  unfold State.mergeCase
  dsimp only
  split
  · exact ⟨updated.table, updated.arbiter, updated.settings⟩
  · exact updated

theorem State.Matches.openCase (h : s.Matches t) (n : Nat) (p : Pair) (f : CauseFound) (round : Nat) :
    (s.openCase n p f round).Matches (t.openCase n p f round) := by
  have listed : (s.listed n p f round).Matches (t.listed n p f round) := by
    refine ⟨h.table, ?_, h.settings⟩
    unfold State.listed State.newCase
    rw [State.setArbiter_arbiter, State.setArbiter_arbiter, h.arbiter]
  have refreshed := listed.refreshHealth n p
  rw [openCase_eq, openCase_eq]
  exact ⟨refreshed.table, refreshed.arbiter, refreshed.settings⟩

theorem State.Matches.findCase (h : s.Matches t) (n : Nat) (p : Pair) (f : CauseFound) (round : Nat) :
    (s.findCase n p f round).Matches (t.findCase n p f round) := by
  unfold State.findCase
  rw [caseAt?_of_arbiter h.arbiter, h.arbiter]
  split
  · exact h.mergeCase _ f
  · split
    · exact h.openCase n p f round
    · exact ⟨h.table, h.arbiter, h.settings⟩

theorem State.Matches.confirmed (h : s.Matches t) (n : Nat) (p : Pair) (count : Nat) :
    (s.confirmed n p count).Matches (t.confirmed n p count) := (h.updatePart n p _).refreshHealth n p

theorem State.Matches.judgeEntry (h : s.Matches t) (p : Pair) (n round : Nat) (z : PairPart) :
    (s.judgeEntry p n round z).Matches (t.judgeEntry p n round z) := by
  have count : t.countOf p z = s.countOf p z := by rw [State.countOf, h.settings, State.countOf]
  have cause : t.foundIn p z = s.foundIn p z := by rw [State.foundIn, h.settings, State.foundIn]
  have confirmed := h.confirmed n p (s.countOf p z)
  cases found : s.foundIn p z with
  | none =>
    rw [judgeEntry_none found, judgeEntry_none (cause.trans found), count]
    exact confirmed
  | some f =>
    rw [judgeEntry_some found, judgeEntry_some (cause.trans found), count, caseAt?_of_arbiter confirmed.arbiter, h.settings]
    split
    · exact confirmed.findCase n p f round
    · exact confirmed

theorem State.Matches.entered (h : s.Matches t) (p : Pair) (n round : Nat) (z : PairPart) :
    (s.entered p n round z).Matches (t.entered p n round z) := by
  have written := h.updatePart n p fun _ => z
  unfold State.entered
  split
  · exact written.judgeEntry p n round z
  · exact written.refreshHealth n p

theorem workEntry_absent {p : Pair} {e : EchoEntry} (absent : s.part? e.station p = none) (round : Nat) (prev : Option Int) :
    State.workEntry p round (s, prev) e = (s, prev) := by
  unfold State.workEntry
  simp only [absent]

theorem State.Matches.workEntry (h : s.Matches t) (p : Pair) (round : Nat) (prev : Option Int) (e : EchoEntry) :
    (State.workEntry p round (s, prev) e).1.Matches (State.workEntry p round (t, prev) e).1 ∧
      (State.workEntry p round (t, prev) e).2 = (State.workEntry p round (s, prev) e).2 := by
  have same : t.part? e.station p = s.part? e.station p := part?_of_table h.table e.station p
  cases part : s.part? e.station p with
  | none =>
    rw [workEntry_absent part, workEntry_absent (same.trans part)]
    exact ⟨h, rfl⟩
  | some q =>
    rw [workEntry_eq part, workEntry_eq (same.trans part)]
    exact ⟨h.entered p e.station round _, rfl⟩

theorem State.Matches.workEntries (h : s.Matches t) (p : Pair) (round : Nat) (l : List EchoEntry) :
    (s.workEntries p round l).Matches (t.workEntries p round l) := by
  have each : ∀ (l : List EchoEntry) (v w : State × Option Int), v.1.Matches w.1 → w.2 = v.2 →
      (l.foldl (State.workEntry p round) v).1.Matches (l.foldl (State.workEntry p round) w).1 := by
    intro l
    induction l with
    | nil => exact fun _ _ matches_ _ => matches_
    | cons e l ih =>
      rintro ⟨a, _⟩ ⟨b, prev⟩ matches_ rfl
      obtain ⟨one, carried⟩ := State.Matches.workEntry matches_ p round prev e
      exact ih _ _ one carried
  exact each l (s, none) (t, none) h rfl

end

/-! ### What entries change -/

/-- What so many findings can do: the records keep what is not measured, the stack stands, every case keeps its place,
and the Case List grows by so many at most. -/
structure Found (n : Nat) (s t : State) : Prop where
  records : ∃ g : Station → Station, t.table = s.table.each g ∧ ∀ x, (g x).number = x.number ∧ (g x).delay = x.delay
  stack : t.arbiter.stack = s.arbiter.stack
  cases : ∀ c ∈ s.arbiter.cases, ∃ d ∈ t.arbiter.cases, d.station = c.station ∧ d.pair = c.pair
  length : t.arbiter.cases.length ≤ s.arbiter.cases.length + n

theorem Found.trans {m n : Nat} {s t u : State} (h : Found m s t) (k : Found n t u) : Found (m + n) s u := by
  obtain ⟨f, table, kept⟩ := h.records
  obtain ⟨g, table', kept'⟩ := k.records
  refine ⟨⟨g ∘ f, by rw [table', table, StationTable.each_each], fun x => ?_⟩, k.stack.trans h.stack, fun c hc => ?_, ?_⟩
  · exact ⟨(kept' _).1.trans (kept x).1, (kept' _).2.trans (kept x).2⟩
  · obtain ⟨d, hd, station, pair⟩ := h.cases c hc
    obtain ⟨e, he, station', pair'⟩ := k.cases d hd
    exact ⟨e, he, station'.trans station, pair'.trans pair⟩
  · have first := h.length
    have second := k.length
    omega

theorem Found.le {m n : Nat} {s t : State} (h : Found m s t) (le : m ≤ n) : Found n s t :=
  ⟨h.records, h.stack, h.cases, h.length.trans (Nat.add_le_add_left le _)⟩

theorem Found.of_eq {s t : State} (table : t.table = s.table) (arbiter : t.arbiter = s.arbiter) : Found 0 s t :=
  ⟨⟨id, table.trans (StationTable.each_id fun _ _ => rfl).symm, fun _ => ⟨rfl, rfl⟩⟩, by rw [arbiter],
    fun c hc => ⟨c, arbiter ▸ hc, rfl, rfl⟩, by rw [arbiter, Nat.add_zero]⟩

theorem Station.partWritten_place (n : Nat) (p : Pair) (f : PairPart → PairPart) (x : Station) :
    (x.partWritten n p f).number = x.number ∧ (x.partWritten n p f).delay = x.delay := by
  unfold Station.partWritten
  split <;> exact ⟨rfl, rfl⟩

theorem found_updatePart (s : State) (n : Nat) (p : Pair) (f : PairPart → PairPart) : Found 0 s (s.updatePart n p f) :=
  ⟨⟨_, updatePart_each s n p f, Station.partWritten_place n p f⟩, rfl, fun c hc => ⟨c, hc, rfl, rfl⟩, Nat.le_refl _⟩

theorem found_refreshHealth (s : State) (n : Nat) (p : Pair) : Found 0 s (s.refreshHealth n p) :=
  found_updatePart s n p _

theorem found_findCase (s : State) (n : Nat) (p : Pair) (f : CauseFound) (round : Nat) : Found 1 s (s.findCase n p f round) := by
  obtain ⟨cases, length⟩ := findCase_cases s n p f round
  refine ⟨?_, findCase_stack s n p f round, fun c hc => ?_, length⟩
  · have stands {t : State} (table : t.table = s.table) : ∃ g : Station → Station, t.table = s.table.each g ∧
        ∀ x, (g x).number = x.number ∧ (g x).delay = x.delay := (Found.of_eq (t := { s with table := t.table }) table rfl).records
    unfold State.findCase
    split
    next c _ => exact stands (only_mergeCase s c f).table_eq
    next =>
      split
      · rw [openCase_eq]
        exact (found_refreshHealth (s.listed n p f round) n p).records
      · exact stands rfl
  · obtain ⟨d, hd, station, pair, -⟩ := cases c hc
    exact ⟨d, hd, station, pair⟩

theorem found_entered (s : State) (p : Pair) (n round : Nat) (z : PairPart) : Found 1 s (s.entered p n round z) := by
  have written := found_updatePart s n p fun _ => z
  unfold State.entered
  split
  · have confirmed : Found 0 (s.updatePart n p fun _ => z) (State.confirmed (s.updatePart n p fun _ => z) n p
        ((s.updatePart n p fun _ => z).countOf p z)) := (found_updatePart _ n p _).trans (found_refreshHealth _ n p)
    obtain judged | ⟨f, -, judged⟩ := judgeEntry_cases (s.updatePart n p fun _ => z) p n round z
    · rw [judged]
      exact (written.trans confirmed).le (Nat.zero_le _)
    · rw [judged]
      exact (written.trans confirmed).trans (found_findCase _ n p f round)
  · exact (written.trans (found_refreshHealth _ n p)).le (Nat.zero_le _)

theorem found_workEntry (p : Pair) (round : Nat) (w : State × Option Int) (e : EchoEntry) :
    Found 1 w.1 (State.workEntry p round w e).1 := by
  obtain ⟨s, prev⟩ := w
  cases part : s.part? e.station p with
  | none =>
    rw [workEntry_absent part]
    exact (Found.of_eq rfl rfl).le (Nat.zero_le _)
  | some q =>
    rw [workEntry_eq part]
    exact found_entered s p e.station round _

theorem found_workEntries (s : State) (p : Pair) (round : Nat) (l : List EchoEntry) :
    Found l.length s (s.workEntries p round l) := by
  have each : ∀ (l : List EchoEntry) (w : State × Option Int),
      Found l.length w.1 (l.foldl (State.workEntry p round) w).1 := by
    intro l
    induction l with
    | nil => exact fun _ => .of_eq rfl rfl
    | cons e l ih => exact fun w => ((found_workEntry p round w e).trans (ih _)).le (by rw [List.length_cons]; omega)
  exact each l (s, none)

/-- The records of numbers after findings. -/
theorem Found.records_eq {n : Nat} {s t : State} (h : Found n s t) : ∃ g : Station → Station,
    (∀ x, (g x).number = x.number ∧ (g x).delay = x.delay) ∧ ∀ l, t.records l = (s.records l).map g := by
  obtain ⟨g, table, kept⟩ := h.records
  refine ⟨g, kept, fun l => ?_⟩
  have found (m : Nat) : t.station? m = (s.station? m).map g := by
    rw [State.station?, table, State.station?, StationTable.each, List.find?_map]
    refine congrArg (Option.map g) (congrArg (List.find? · _) (funext fun x => ?_))
    rw [Function.comp_apply, (kept x).1]
  rw [State.records, State.records, List.map_filterMap]
  exact List.filterMap_congr fun m _ => found m

/-! ### The stations around a stray peak (R78) -/

section
variable {d : Nat} {l : List Station}

theorem precedingStation_spec (sorted : l.Pairwise fun r q => r.delay < q.delay) :
    (precedingStation d l = none ∧ ∀ x ∈ l, d ≤ x.delay) ∨ ∃ x ∈ l, precedingStation d l = some x.number ∧ x.delay < d ∧
      ∀ y ∈ l, y.delay < d → y.delay ≤ x.delay := by
  have before {x : Station} : x ∈ l.filter (fun r => decide (r.delay < d)) ↔ x ∈ l ∧ x.delay < d := by
    rw [List.mem_filter, decide_eq_true_iff]
  have ordered := sorted.filter fun r => decide (r.delay < d)
  unfold precedingStation
  obtain empty | ⟨front, x, split⟩ := List.eq_nil_or_concat' (l.filter fun r => decide (r.delay < d))
  · refine .inl ⟨by rw [empty]; rfl, fun x hx => ?_⟩
    by_contra near
    exact List.not_mem_nil (empty ▸ before.mpr ⟨hx, by omega⟩)
  · rw [split] at before ordered ⊢
    obtain ⟨hx, near⟩ := before.mp (List.mem_append_right _ List.mem_cons_self)
    refine .inr ⟨x, hx, by rw [List.getLast?_concat]; rfl, near, fun y hy sooner => ?_⟩
    obtain inFront | last := List.mem_append.mp (before.mpr ⟨hy, sooner⟩)
    · exact ((List.pairwise_append.mp ordered).2.2 y inFront x List.mem_cons_self).le
    · rw [List.mem_singleton.mp last]

theorem followingStation_spec (sorted : l.Pairwise fun r q => r.delay < q.delay) :
    (followingStation d l = none ∧ ∀ x ∈ l, x.delay ≤ d) ∨ ∃ x ∈ l, followingStation d l = some x.number ∧ d < x.delay ∧
      ∀ y ∈ l, d < y.delay → x.delay ≤ y.delay := by
  unfold followingStation
  cases found : l.find? fun r => decide (d < r.delay) with
  | none => exact .inl ⟨rfl, fun x hx => by simpa using List.find?_eq_none.mp found x hx⟩
  | some x =>
    obtain ⟨far, front, back, split, near⟩ := List.find?_eq_some_iff_append.mp found
    refine .inr ⟨x, List.mem_of_find?_eq_some found, rfl, by simpa using far, fun y hy beyond => ?_⟩
    rw [split] at sorted hy
    obtain inFront | inBack := List.mem_append.mp hy
    · have sooner := near y inFront
      simp only [Bool.not_eq_true', decide_eq_false_iff_not] at sooner
      exact absurd beyond sooner
    · obtain rfl | later := List.mem_cons.mp inBack
      · exact Nat.le_refl _
      · exact ((List.pairwise_cons.mp (List.pairwise_append.mp sorted).2.1).1 y later).le

variable {g : Station → Station} (kept : ∀ x, (g x).number = x.number ∧ (g x).delay = x.delay)
include kept

theorem precedingStation_map : precedingStation d (l.map g) = precedingStation d l := by
  have test : ((fun r : Station => decide (r.delay < d)) ∘ g) = fun r => decide (r.delay < d) := funext fun x => by
    rw [Function.comp_apply, (kept x).2]
  unfold precedingStation
  rw [List.filter_map, test, List.getLast?_map, Option.map_map]
  exact congrArg (Option.map · _) (funext fun x => (kept x).1)

theorem followingStation_map : followingStation d (l.map g) = followingStation d l := by
  have test : ((fun r : Station => decide (d < r.delay)) ∘ g) = fun r => decide (d < r.delay) := funext fun x => by
    rw [Function.comp_apply, (kept x).2]
  unfold followingStation
  rw [List.find?_map, test, Option.map_map]
  exact congrArg (Option.map · _) (funext fun x => (kept x).1)

theorem head?_number_map : (l.map g).head?.map (·.number) = l.head?.map (·.number) := by
  rw [List.head?_map, Option.map_map]
  exact congrArg (Option.map · _) (funext fun x => (kept x).1)

end

/-! ### A captured stray peak (R79) -/

/-- The case that a captured stray peak brings STRAY to: of the station before it, or of the first of the list. -/
def State.strayCase (s : State) (p : Pair) (l : List Station) (d : Nat) (m : Int) (round : Nat) : State :=
  match (precedingStation d l).or (l.head?.map (·.number)) with
  | some n => s.findCase n p (.stray d m) round
  | none => s

/-- The record that a captured stray peak leaves in its slot. -/
def RoundResult.strayRecord (r : RoundResult) (l : List Station) (round d : Nat) (m : Int) : StrayRecord :=
  { delay := d, magnitude := m, view := r.view, round := round, preceding := precedingStation d l,
    following := followingStation d l }

theorem captureStray_eq (s : State) (r : RoundResult) (round d : Nat) (m : Int) :
    s.captureStray r round d m =
      ((s.setStrays (s.strays.set r.pair { s.strays.get r.pair with
        held := some (r.strayRecord (s.records (r.entries.map (·.station))) round d m) })).strayCase r.pair
        (s.records (r.entries.map (·.station))) d m round).raise .stray := rfl

theorem strayCase_nil (s : State) (p : Pair) (d : Nat) (m : Int) (round : Nat) : s.strayCase p [] d m round = s := rfl

theorem strayCase_of_head {l : List Station} {x : Station} (head : l.head? = some x) (s : State) (p : Pair) (d : Nat) (m : Int)
    (round : Nat) : s.strayCase p l d m round =
      s.findCase ((precedingStation d l).getD x.number) p (.stray d m) round := by
  unfold State.strayCase
  rw [head]
  cases precedingStation d l <;> rfl

theorem found_strayCase (s : State) (p : Pair) (l : List Station) (d : Nat) (m : Int) (round : Nat) :
    Found 1 s (s.strayCase p l d m round) := by
  cases l with
  | nil => exact (Found.of_eq rfl rfl).le (Nat.zero_le _)
  | cons x l =>
    rw [strayCase_of_head rfl]
    exact found_findCase s _ p _ round

theorem only_strayCase (s : State) (p : Pair) (l : List Station) (d : Nat) (m : Int) (round : Nat) :
    Only [.arbiter, .table, .port] s (s.strayCase p l d m round) := by
  unfold State.strayCase
  split
  · exact only_findCase s _ p _ round
  · exact Only.refl _ s

theorem State.Matches.strayCase {s t : State} (h : s.Matches t) {g : Station → Station}
    (kept : ∀ x, (g x).number = x.number ∧ (g x).delay = x.delay) (p : Pair) (l : List Station) (d : Nat) (m : Int)
    (round : Nat) : (s.strayCase p l d m round).Matches (t.strayCase p (l.map g) d m round) := by
  unfold State.strayCase
  rw [precedingStation_map kept, head?_number_map kept]
  split
  · exact h.findCase _ p _ round
  · exact h

end Sys2Proof.Machine
end

section
/-! PROOFS. The taking of a result: O49. -/

namespace Sys2Proof.Machine

/-! ### A void result (R41, R64) -/

theorem snapshotHolds_iff (s : State) (snap : Snapshot) : s.snapshotHolds snap = true ↔ ∀ e ∈ snap, s.generation e.1 = e.2 := by
  simp only [State.snapshotHolds, List.all_eq_true, beq_iff_eq]

theorem exec_takeResult {s : State} {r : RoundResult} {rest : List RoundResult} (queue : s.pool.queue = r :: rest) :
    exec .takeResult s = .next ((if s.snapshotHolds r.snapshot then s.assess (r.final (s.settings.get r.pair))
      else s.voidResult r).endResult r) := by
  change Host.Outcome.next s.takeResult = _
  unfold State.takeResult
  rw [queue]
  rfl

theorem voidResult_regular {s : State} {r : RoundResult} (regular : r.focus = none) : s.voidResult r = s := by
  unfold State.voidResult
  rw [regular]

/-- The context is back in ASKED (R161, R168). -/
def State.askedAgain (s : State) (l : Level) (c : Context) : State :=
  s.setContexts (s.contexts.set l (some { c with phase := .asked }))

theorem voidResult_focused {s : State} {r : RoundResult} {n : Nat} {l : Level} {c : Context} (focus : r.focus = some (n, l))
    (context : s.context l = some c) : s.voidResult r = if s.arbiter.stack.head? = some c.caseNumber then
      (s.askedAgain l c).setSurvey (s.survey.set r.pair { s.sc r.pair with
        focused := some { view := r.view, station := n, level := l, taken := false } })
      else s.askedAgain l c := by
  have asked : s.updateContext l (fun c => { c with phase := .asked }) = s.askedAgain l c := by
    rw [State.updateContext, context]
    rfl
  unfold State.voidResult
  rw [focus]
  dsimp only
  rw [asked]
  refine if_congr (working_iff context) ?_ rfl
  rfl

theorem voidResult_worked (s : State) (r : RoundResult) : Worked s (s.voidResult r) := by
  have asked (l : Level) : Worked s (s.updateContext l fun c => { c with phase := .asked }) :=
    .of_only (only_updateContext s l _)
  unfold State.voidResult
  split
  next => exact Worked.of_only (Only.refl [] s)
  next n l _ =>
    dsimp only
    split
    · refine (asked l).trans ⟨rfl, rfl, rfl, rfl, fun p => ?_, casesKept_of_eq rfl, .refl _⟩
      by_cases same : p = r.pair
      · rw [same, State.sc_setSc_self]
      · rw [State.sc_setSc_ne _ _ same]
    · exact asked l

theorem voidResult_queue (s : State) (r : RoundResult) : (s.voidResult r).pool.queue = s.pool.queue :=
  congrArg CorrelatorPool.queue (only_voidResult s r).pool_eq

/-! ### A result that counts (R63, R65) -/

/-- The round counter of a pair that counts another round. -/
def State.nextRound (s : State) (p : Pair) : Nat := ((s.sc p).roundCounter + 1) % 65536

/-- The entries of a result worked, before its stray peak. -/
def State.tallied (s : State) (r : RoundResult) : State :=
  (s.countResult r).workEntries r.pair (s.nextRound r.pair) (s.takenEntries r)

/-- The entries and the stray peak of a result worked, before its finding. -/
def State.weighed (s : State) (r : RoundResult) : State :=
  (s.tallied r).workStray (r.final (s.settings.get r.pair)) (s.nextRound r.pair)

theorem assess_eq (s : State) (r : RoundResult) : s.assess (r.final (s.settings.get r.pair)) =
    (s.weighed r).handOver (r.final (s.settings.get r.pair)) (s.nextRound r.pair) := by
  have round : ((s.countResult (r.final (s.settings.get r.pair))).sc r.pair).roundCounter = s.nextRound r.pair := by
    unfold State.countResult
    exact congrArg SurveyController.roundCounter (State.sc_setSc_self _ _ _)
  have pair : (r.final (s.settings.get r.pair)).pair = r.pair := rfl
  unfold State.assess
  dsimp only
  rw [pair, round]
  rfl

section
variable (s : State) (r : RoundResult)

theorem countResult_sc_self : ∃ d, (s.countResult r).sc r.pair = { s.sc r.pair with
    roundCounter := s.nextRound r.pair, dwellCount := d } := ⟨_, State.sc_setSc_self _ _ _⟩

theorem countResult_sc_ne {p : Pair} (other : p ≠ r.pair) : (s.countResult r).sc p = s.sc p := State.sc_setSc_ne _ _ other

theorem tallied_sc (p : Pair) : (s.tallied r).sc p = (s.countResult r).sc p := by
  rw [State.tallied, State.sc, (only_workEntries _ _ _ _).survey_eq, State.sc]

theorem tallied_only : Only [.survey, .arbiter, .table, .port] s (s.tallied r) :=
  (only_countResult s r).up.trans (only_workEntries _ _ _ _).up

/-- The entries worked leave the records and the Case List that they would without the count. -/
theorem tallied_matches : (s.workEntries r.pair (s.nextRound r.pair) (s.takenEntries r)).Matches (s.tallied r) :=
  State.Matches.workEntries (s := s) (t := s.countResult r) ⟨rfl, rfl, rfl⟩ r.pair _ _

theorem tallied_found : Found r.entries.length s (s.tallied r) := by
  have found := found_workEntries (s.countResult r) r.pair (s.nextRound r.pair) (s.takenEntries r)
  rw [State.takenEntries, List.length_map] at found
  exact ⟨found.records, found.stack, found.cases, found.length⟩

theorem tallied_round_self : ((s.tallied r).sc r.pair).roundCounter = s.nextRound r.pair := by
  obtain ⟨d, sc⟩ := countResult_sc_self s r
  rw [tallied_sc, sc]

theorem tallied_round_ne {p : Pair} (other : p ≠ r.pair) : ((s.tallied r).sc p).roundCounter = (s.sc p).roundCounter := by
  rw [tallied_sc, countResult_sc_ne s r other]

theorem tallied_focused : ((s.tallied r).sc r.pair).focused = (s.sc r.pair).focused := by
  obtain ⟨d, sc⟩ := countResult_sc_self s r
  rw [tallied_sc, sc]

end

/-! ### The stray peak (R79, R80) -/

/-- The stray peak of the result is captured (R79). -/
def State.captures (s : State) (r : RoundResult) (d : Nat) (m : Int) : Prop :=
  r.stray = some (d, m) ∧ (s.settings.get r.pair).strayThreshold ≤ m ∧ (s.strays.get r.pair).held = none

/-- The records of a result's stations. -/
def State.resultStations (s : State) (r : RoundResult) : List Station := s.records (r.entries.map (·.station))

theorem final_stations (r : RoundResult) (set : PairSettings) :
    (r.final set).entries.map (·.station) = r.entries.map (·.station) := by
  rw [RoundResult.final, List.map_map]
  rfl

theorem final_stray_loud {r : RoundResult} {set : PairSettings} {d : Nat} {m : Int} (stray : r.stray = some (d, m))
    (loud : set.strayThreshold ≤ m) : (r.final set).stray = some (d, m) := by
  rw [RoundResult.final, stray]
  exact if_pos (by simpa using loud)

theorem final_stray_faint {r : RoundResult} {set : PairSettings}
    (faint : ∀ d m, r.stray = some (d, m) → m < set.strayThreshold) : (r.final set).stray = none := by
  cases stray : r.stray with
  | none => rw [RoundResult.final, stray]; rfl
  | some e =>
    have low := faint e.1 e.2 stray
    rw [RoundResult.final, stray]
    exact if_neg (by simpa using low)

section
variable {s : State} {r : RoundResult}

theorem weighed_faint (faint : ∀ d m, r.stray = some (d, m) → m < (s.settings.get r.pair).strayThreshold) :
    s.weighed r = s.tallied r := by
  unfold State.weighed State.workStray
  rw [final_stray_faint faint]

theorem weighed_overrun {d : Nat} {m : Int} (stray : r.stray = some (d, m))
    (loud : (s.settings.get r.pair).strayThreshold ≤ m) (held : (s.strays.get r.pair).held ≠ none) :
    s.weighed r = (s.tallied r).flagOverrun r.pair := by
  obtain ⟨h, some_held⟩ := Option.ne_none_iff_exists'.mp held
  have slot : ((s.tallied r).strays.get (r.final (s.settings.get r.pair)).pair).held = some h := by
    rw [(tallied_only s r).strays_eq]
    exact some_held
  unfold State.weighed State.workStray
  rw [final_stray_loud stray loud]
  dsimp only
  rw [slot]
  rfl

theorem weighed_captured {d : Nat} {m : Int} (captured : s.captures r d m) : s.weighed r =
    (s.tallied r).captureStray (r.final (s.settings.get r.pair)) (s.nextRound r.pair) d m := by
  obtain ⟨stray, loud, empty⟩ := captured
  have slot : ((s.tallied r).strays.get (r.final (s.settings.get r.pair)).pair).held = none := by
    rw [(tallied_only s r).strays_eq]
    exact empty
  unfold State.weighed State.workStray
  rw [final_stray_loud stray loud]
  dsimp only
  rw [slot]

/-- The stray peak of a result is below the threshold, overruns a slot, or is captured. -/
theorem stray_cases (s : State) (r : RoundResult) :
    (∀ d m, r.stray = some (d, m) → m < (s.settings.get r.pair).strayThreshold) ∨
    (∃ d m, r.stray = some (d, m) ∧ (s.settings.get r.pair).strayThreshold ≤ m ∧ (s.strays.get r.pair).held ≠ none) ∨
    ∃ d m, s.captures r d m := by
  by_cases loud : ∃ d m, r.stray = some (d, m) ∧ (s.settings.get r.pair).strayThreshold ≤ m
  · obtain ⟨d, m, stray, loud⟩ := loud
    by_cases held : (s.strays.get r.pair).held = none
    · exact .inr (.inr ⟨d, m, stray, loud, held⟩)
    · exact .inr (.inl ⟨d, m, stray, loud, held⟩)
  · refine .inl fun d m stray => ?_
    by_contra high
    exact loud ⟨d, m, stray, by omega⟩

/-- Without a capture the records and the Case List are those that the entries leave. -/
theorem weighed_matches (none : ∀ d m, ¬s.captures r d m) : (s.tallied r).Matches (s.weighed r) := by
  obtain faint | ⟨d, m, stray, loud, held⟩ | ⟨d, m, captured⟩ := stray_cases s r
  · rw [weighed_faint faint]
    exact ⟨rfl, rfl, rfl⟩
  · rw [weighed_overrun stray loud held]
    exact ⟨rfl, rfl, rfl⟩
  · exact absurd captured (none d m)

variable (s r)

theorem weighed_only : Only [.survey, .arbiter, .table, .port, .strays] s (s.weighed r) :=
  (tallied_only s r).up.trans (only_workStray _ _ _).up

theorem weighed_sc (p : Pair) : (s.weighed r).sc p = (s.tallied r).sc p := by
  rw [State.weighed, State.sc, (only_workStray _ _ _).survey_eq, State.sc]

/-- The stations of a result after its entries, but for what is measured. -/
theorem tallied_stations : ∃ g : Station → Station, (∀ x, (g x).number = x.number ∧ (g x).delay = x.delay) ∧
    (s.tallied r).records ((r.final (s.settings.get r.pair)).entries.map (·.station)) = (s.resultStations r).map g := by
  obtain ⟨g, kept, records⟩ := (tallied_found s r).records_eq
  exact ⟨g, kept, by rw [final_stations]; exact records _⟩

variable {s r}

/-- The slot that a captured stray peak fills. -/
def State.filledSlot (s : State) (r : RoundResult) (d : Nat) (m : Int) : StraySlot :=
  { s.strays.get r.pair with held := some (r.strayRecord (s.resultStations r) (s.nextRound r.pair) d m) }

section
variable {d : Nat} {m : Int} (captured : s.captures r d m)
include captured

/-- What a capture does, the stations being those before the entries were worked. -/
theorem weighed_capture : ∃ g : Station → Station, (∀ x, (g x).number = x.number ∧ (g x).delay = x.delay) ∧
    s.weighed r = (((s.tallied r).setStrays (s.strays.set r.pair (s.filledSlot r d m))).strayCase r.pair
      ((s.resultStations r).map g) d m (s.nextRound r.pair)).raise .stray := by
  obtain ⟨g, kept, stations⟩ := tallied_stations s r
  refine ⟨g, kept, ?_⟩
  have record : (r.final (s.settings.get r.pair)).strayRecord ((s.resultStations r).map g) (s.nextRound r.pair) d m =
      r.strayRecord (s.resultStations r) (s.nextRound r.pair) d m := by
    rw [RoundResult.strayRecord, precedingStation_map kept, followingStation_map kept]
    rfl
  rw [weighed_captured captured, captureStray_eq, stations, record, (tallied_only s r).strays_eq]
  rfl

theorem captured_strays : (s.weighed r).strays = s.strays.set r.pair (s.filledSlot r d m) := by
  obtain ⟨g, -, eq⟩ := weighed_capture captured
  rw [eq]
  exact (only_strayCase _ _ _ _ _ _).strays_eq

theorem captured_attention : (s.weighed r).port.attention.stray = true := by
  obtain ⟨g, -, eq⟩ := weighed_capture captured
  rw [eq]
  rfl

theorem captured_matches : ((s.workEntries r.pair (s.nextRound r.pair) (s.takenEntries r)).strayCase r.pair
    (s.resultStations r) d m (s.nextRound r.pair)).Matches (s.weighed r) := by
  obtain ⟨g, kept, eq⟩ := weighed_capture captured
  have tallied := tallied_matches s r
  have base : (s.workEntries r.pair (s.nextRound r.pair) (s.takenEntries r)).Matches
      ((s.tallied r).setStrays (s.strays.set r.pair (s.filledSlot r d m))) :=
    ⟨tallied.table, tallied.arbiter, tallied.settings⟩
  have found := base.strayCase kept r.pair (s.resultStations r) d m (s.nextRound r.pair)
  rw [eq]
  exact ⟨found.table, found.arbiter, found.settings⟩

/-- A captured stray peak brings STRAY to its case, as far as the Case List has room (R79, R132). -/
theorem captured_case {x : Station} {n : Nat} (head : (s.resultStations r).head? = some x)
    (which : n = (precedingStation d (s.resultStations r)).getD x.number)
    (room : (∃ c ∈ s.arbiter.cases, c.station = n ∧ c.pair = r.pair) ∨ s.arbiter.cases.length + r.entries.length < 32) :
    ∃ c ∈ (s.weighed r).arbiter.cases, c.station = n ∧ c.pair = r.pair ∧ c.evidence.stray = some (d, m) := by
  have tallied := tallied_matches s r
  have worked : Found r.entries.length s (s.workEntries r.pair (s.nextRound r.pair) (s.takenEntries r)) := by
    have found := found_workEntries s r.pair (s.nextRound r.pair) (s.takenEntries r)
    rwa [State.takenEntries, List.length_map] at found
  have room' : (∃ c ∈ (s.workEntries r.pair (s.nextRound r.pair) (s.takenEntries r)).arbiter.cases,
      c.station = n ∧ c.pair = r.pair) ∨
      (s.workEntries r.pair (s.nextRound r.pair) (s.takenEntries r)).arbiter.cases.length < 32 := by
    refine room.imp ?_ fun few => worked.length.trans_lt few
    rintro ⟨c, hc, station, pair⟩
    obtain ⟨e, he, station', pair'⟩ := worked.cases c hc
    exact ⟨e, he, station'.trans station, pair'.trans pair⟩
  obtain ⟨c, hc, station, pair, e, evidence⟩ := findCase_found room' (.stray d m) (s.nextRound r.pair)
  rw [(captured_matches captured).arbiter, strayCase_of_head head, ← which]
  exact ⟨c, hc, station, pair, by rw [evidence]; rfl⟩

end
end

/-- Findings leave the records' places, whatever the stray peak does. -/
theorem weighed_found (s : State) (r : RoundResult) : Found (r.entries.length + 1) s (s.weighed r) := by
  have tallied := tallied_found s r
  obtain faint | ⟨d, m, stray, loud, held⟩ | ⟨d, m, captured⟩ := stray_cases s r
  · rw [weighed_faint faint]
    exact tallied.le (Nat.le_succ _)
  · rw [weighed_overrun stray loud held]
    have overrun : Found 0 (s.tallied r) ((s.tallied r).flagOverrun r.pair) := .of_eq rfl rfl
    exact tallied.trans (overrun.le (Nat.zero_le 1))
  · obtain ⟨g, -, eq⟩ := weighed_capture captured
    have found := found_strayCase ((s.tallied r).setStrays (s.strays.set r.pair (s.filledSlot r d m))) r.pair
      ((s.resultStations r).map g) d m (s.nextRound r.pair)
    rw [eq]
    exact tallied.trans ⟨found.records, found.stack, found.cases, found.length⟩

/-- A result leaves the slots of the other pairs. -/
theorem weighed_strays_ne (s : State) (r : RoundResult) {p : Pair} (other : p ≠ r.pair) :
    (s.weighed r).strays.get p = s.strays.get p := by
  obtain faint | ⟨d, m, stray, loud, held⟩ | ⟨d, m, captured⟩ := stray_cases s r
  · rw [weighed_faint faint, (tallied_only s r).strays_eq]
  · rw [weighed_overrun stray loud held, State.flagOverrun, State.setStrays_strays, (tallied_only s r).strays_eq]
    exact Oct.get_set_ne _ _ other
  · rw [captured_strays captured]
    exact Oct.get_set_ne _ _ other

end Sys2Proof.Machine
end

section
/-! PROOFS. A result taken counts or is void: O49. -/

namespace Sys2Proof.Machine

/-! ### The finding of a result (R76) -/

/-- A finding told to a context is work. -/
theorem workSteps_finding (s : State) (l : Level) (f : Finding) : WorkSteps s (s.tell l (.finding f)) := by
  cases context : s.context l with
  | none =>
    rw [tell_empty context]
  | some c => exact workSteps_tell context (.finding f)

theorem workSteps_handOver (s : State) (r : RoundResult) (round : Nat) : WorkSteps s (s.handOver r round) := by
  unfold State.handOver
  split
  · exact .refl
  · exact workSteps_finding s _ _

theorem handOver_regular {r : RoundResult} (regular : r.focus = none) (s : State) (round : Nat) : s.handOver r round = s := by
  unfold State.handOver
  rw [regular]

theorem handOver_focused {r : RoundResult} {n : Nat} {l : Level} (focus : r.focus = some (n, l)) (s : State) (round : Nat) :
    s.handOver r round = s.tell l (.finding (s.findingOf r n round)) := by
  unfold State.handOver
  rw [focus]

/-- A suspended context records a finding, and keeps it over the pair's boundary (R44, R168). -/
theorem finding_recorded {s : State} {r : RoundResult} {l : Level} {c : Context} (context : s.context l = some c)
    (suspended : s.arbiter.stack.head? ≠ some c.caseNumber) (unfocused : (s.sc r.pair).focused = none) (f : Finding) :
    ∃ d, ((s.tell l (.finding f)).endResult r).context l = some d ∧ d.caseNumber = c.caseNumber ∧ d.step = c.step ∧
      d.recorded = some (.finding f) := by
  obtain ⟨only, contexts, -⟩ := tell_records (e := .finding f) context suspended
  have told : (s.tell l (.finding f)).context l = some { c with recorded := some (.finding f) } := by
    rw [State.context, contexts]
    exact Oct.get_set_self _ _ _
  have unfocused' : ((s.tell l (.finding f)).sc r.pair).focused = none := by rwa [State.sc, only.survey_eq]
  obtain ⟨g, phased⟩ := endResult_phased unfocused' l
  rw [told] at phased
  exact ⟨_, phased, rfl, rfl, rfl⟩

/-! ### The slot of a captured stray peak -/

theorem strayRecord_around {r : RoundResult} {l : List Station} (round d : Nat) (m : Int)
    (sorted : rising (l.map (·.delay)) = true) :
    (match (r.strayRecord l round d m).preceding with
      | none => ∀ x, x ∈ l → d ≤ x.delay
      | some n => ∃ x, x ∈ l ∧ x.number = n ∧ x.delay < d ∧ ∀ y, y ∈ l → y.delay < d → y.delay ≤ x.delay) ∧
    (match (r.strayRecord l round d m).following with
      | none => ∀ x, x ∈ l → x.delay ≤ d
      | some n => ∃ x, x ∈ l ∧ x.number = n ∧ d < x.delay ∧ ∀ y, y ∈ l → d < y.delay → x.delay ≤ y.delay) := by
  have ordered := List.pairwise_map.mp ((rising_iff _).mp sorted)
  unfold RoundResult.strayRecord
  dsimp only
  constructor
  · obtain ⟨none, far⟩ | ⟨x, hx, some, near, nearest⟩ := precedingStation_spec (d := d) ordered
    · rw [none]
      exact far
    · rw [some]
      exact ⟨x, hx, rfl, near, nearest⟩
  · obtain ⟨none, near⟩ | ⟨x, hx, some, far, nearest⟩ := followingStation_spec (d := d) ordered
    · rw [none]
      exact near
    · rw [some]
      exact ⟨x, hx, rfl, far, nearest⟩

/-! ### What follows from the entries and the stray peak -/

section
variable {s t : State} {r : RoundResult} (worked : Worked (s.weighed r) t)
include worked

theorem Worked.result_numbers : t.table.stations.map (·.number) = s.table.stations.map (·.number) := by
  obtain ⟨g, table, kept⟩ := (weighed_found s r).records
  rw [worked.table, table, StationTable.each, List.map_map]
  exact List.map_congr_left fun x _ => (kept x).1

theorem Worked.result_uncaptured (none : ∀ d m, ¬s.captures r d m) :
    AssessedIn (s.workEntries r.pair (s.nextRound r.pair) (s.takenEntries r)) t := by
  have tallied := tallied_matches s r
  have matches_ := weighed_matches none
  exact worked.assessedIn (matches_.table.trans tallied.table)
    (congrArg CaseArbiter.cases (matches_.arbiter.trans tallied.arbiter))

section
variable {d : Nat} {m : Int} (captured : s.captures r d m)
include captured

theorem Worked.result_captured : AssessedIn ((s.workEntries r.pair (s.nextRound r.pair) (s.takenEntries r)).strayCase r.pair
    (s.resultStations r) d m (s.nextRound r.pair)) t := by
  have matches_ := captured_matches captured
  exact worked.assessedIn matches_.table (congrArg CaseArbiter.cases matches_.arbiter)

theorem Worked.result_slot : (t.strays.get r.pair).held =
    some (r.strayRecord (s.resultStations r) (s.nextRound r.pair) d m) := by
  rw [worked.strays, captured_strays captured, Oct.get_set_self]
  rfl

theorem Worked.result_case {x : Station} {n : Nat} (head : (s.resultStations r).head? = some x)
    (which : n = (precedingStation d (s.resultStations r)).getD x.number)
    (room : (∃ c ∈ s.arbiter.cases, c.station = n ∧ c.pair = r.pair) ∨ s.arbiter.cases.length + r.entries.length < 32) :
    ∃ c ∈ t.arbiter.cases, c.station = n ∧ c.pair = r.pair ∧ c.evidence.stray = some (d, m) := by
  obtain ⟨c, hc, station, pair, evidence⟩ := captured_case captured head which room
  obtain ⟨g, cases, kept⟩ := worked.cases
  refine ⟨g c, cases ▸ List.mem_map_of_mem hc, ?_⟩
  rw [kept c]
  exact ⟨station, pair, evidence⟩

end
end

/-- A result that counts, its finding handed to the context that asked for it. -/
def State.handedOn (s : State) (r : RoundResult) : State :=
  (s.weighed r).handOver (r.final (s.settings.get r.pair)) (s.nextRound r.pair)

theorem workSteps_handedOn (s : State) (r : RoundResult) : WorkSteps (s.weighed r) (s.handedOn r) := workSteps_handOver _ _ _

theorem handedOn_worked (s : State) (r : RoundResult) : Worked (s.weighed r) ((s.handedOn r).endResult r) :=
  (workSteps_handedOn s r).worked.trans (endResult_worked _ r)

theorem handedOn_queue (s : State) (r : RoundResult) : (s.handedOn r).pool.queue = s.pool.queue := by
  rw [(workSteps_handedOn s r).queue, (weighed_only s r).pool_eq]

theorem endResult_granted {s v : State} (line : v.line = s.line) (r : RoundResult) :
    (v.endResult r).pool.correlators.get r.correlator = .free ∨
      ∃ x, (v.endResult r).pool.correlators.get r.correlator = .running x 0 s.line.terminal ∧ x.train = [] := by
  rw [← line, ← (endResult_worked v r).line]
  exact endResult_freed v r

/-! ### O49 -/

/-- Settles O49: the end of a result is work, which leaves records, slots and evidence; a void result adds nothing to
it, one that counts its entries, its stray peak and its finding. -/
theorem takenResultCountsOrIsVoid : Obligations.TakenResultCountsOrIsVoid := by
  intro r rest s queue apart
  dsimp only
  refine ⟨fun stale => ?void, fun holds => ?counts⟩
  case void =>
    have fails : ¬s.snapshotHolds r.snapshot = true := fun holds => by
      obtain ⟨e, he, moved⟩ := stale
      exact moved ((snapshotHolds_iff s _).mp holds e he)
    have voided := voidResult_worked s r
    have worked := voided.trans (endResult_worked (s.voidResult r) r)
    refine ⟨(s.voidResult r).endResult r, by rw [exec_takeResult queue, if_neg fails],
      endResult_queue ((voidResult_queue s r).trans queue) apart, endResult_granted voided.line r, worked.table, worked.strays,
      worked.rounds, fun c hc => ?_, fun regular => by rw [voidResult_regular regular], fun n l c focus context =>
      ⟨fun suspended => ?_, fun serves => ?_⟩, worked.line, worked.settings⟩
    · obtain ⟨g, cases, kept⟩ := worked.cases
      rw [cases] at hc
      obtain ⟨d, hd, rfl⟩ := List.mem_map.mp hc
      refine ⟨d, hd, ?_⟩
      rw [kept d]
      exact ⟨rfl, rfl⟩
    · rw [voidResult_focused focus context, if_neg suspended]
      rfl
    · rw [voidResult_focused focus context, if_pos serves]
      rfl
  case counts =>
    have counts : s.snapshotHolds r.snapshot = true := (snapshotHolds_iff s _).mpr holds
    have weighed := weighed_only s r
    have found := weighed_found s r
    have worked := handedOn_worked s r
    obtain ⟨_, table, -⟩ := found.records
    refine ⟨(s.handedOn r).endResult r, by rw [exec_takeResult queue, if_pos counts, assess_eq]; rfl,
      endResult_queue ((handedOn_queue s r).trans queue) apart,
      endResult_granted ((workSteps_handedOn s r).worked.line.trans weighed.line_eq) r,
      by rw [worked.table, table]; rfl, by rw [worked.table, table]; rfl, worked.result_numbers,
      worked.result_uncaptured, fun d m h captured held => ?captured, fun regular => ?regular, fun n l f focus finding => ?focused,
      ?round, fun p other => ⟨?rounds, ?slots⟩, fun d m stray loud => ⟨fun empty => ?captures, fun full => ?overrun⟩,
      fun faint => ?faint, worked.line.trans weighed.line_eq, worked.settings.trans weighed.settings_eq⟩
    case captured =>
      obtain rfl := Option.some.inj (held.symm.trans (worked.result_slot captured))
      have stands := worked.result_captured captured
      refine ⟨fun empty => ?_, fun x head => ?_⟩
      · rw [State.resultStations, empty, strayCase_nil] at stands
        exact stands
      · rw [State.resultStations, strayCase_of_head head] at stands
        exact stands
    case regular =>
      exact ⟨s.weighed r, (worked.table).symm, weighed.contexts_eq, found.stack, weighed.claims_eq, by
        rw [State.handedOn, handOver_regular (r := r.final (s.settings.get r.pair)) regular]⟩
    case focused =>
      have told := handOver_focused (r := r.final (s.settings.get r.pair)) (n := n) (l := l) focus (s.weighed r) (s.nextRound r.pair)
      have same : (s.weighed r).findingOf (r.final (s.settings.get r.pair)) n (s.nextRound r.pair) = f := by
        rw [finding, part?_of_table worked.table]
        rfl
      have handed : s.handedOn r = (s.weighed r).tell l (.finding f) := by rw [State.handedOn, told, same]
      rw [handed] at worked ⊢
      exact ⟨⟨s.weighed r, worked.table.symm, weighed.contexts_eq, found.stack, weighed.claims_eq, rfl⟩,
        fun c context suspended unfocused => finding_recorded ((context_of_eq weighed.contexts_eq l).trans context)
          (by rwa [found.stack]) (by rwa [weighed_sc, tallied_focused]) f⟩
    case round => rw [worked.rounds, weighed_sc, tallied_round_self]; rfl
    case rounds => rw [worked.rounds, weighed_sc, tallied_round_ne s r other]
    case slots => rw [worked.strays, weighed_strays_ne s r other]
    case captures =>
      have captured : s.captures r d m := ⟨stray, loud, empty⟩
      exact ⟨worked.attention.stray (captured_attention captured), _, worked.result_slot captured, rfl, rfl, rfl, rfl,
        strayRecord_around _ d m, fun x n => worked.result_case captured⟩
    case overrun =>
      rw [worked.strays, weighed_overrun stray loud full, State.flagOverrun, State.setStrays_strays, (tallied_only s r).strays_eq]
    case faint => rw [worked.strays, weighed_faint faint, (tallied_only s r).strays_eq]

end Sys2Proof.Machine
end
